-- ==== Sys2Proof/Word.lean ====
section
/-! DEFINITION. The widths of the AF-24's words (R180 to R193): bytes of the port area and of frames, 16-bit and
32-bit fields, and 6-bit node ids. -/

namespace Sys2Proof

/-- One byte of the port area or of a frame. -/
abbrev Byte := BitVec 8

/-- A 16-bit field: a hold in ms, a grant mark, a pattern seq (R192, R193). -/
abbrev Half := BitVec 16

/-- A 32-bit field: a stamp or a carried boundary (R191, R192). -/
abbrev Quad := BitVec 32

/-- A node id, 0..63 (R191: bits 7..2 of header byte 1). -/
abbrev NodeId := BitVec 6

end Sys2Proof
end

