-- ==== Sys2Proof/Syntax.lean ====
section
/-! DEFINITION. The names the spec gives to fixed sets of values, and the commands of the block: one constructor of
Instr for each row of spec/opcode_table.json. -/

namespace Sys2Proof

/-- R191: the roles of a node. -/
inductive Role where
  | player | element | referee
  deriving DecidableEq, Repr

/-- R191: the alliances. -/
inductive Alliance where
  | none | red | blue
  deriving DecidableEq, Repr

/-- R116: the six match phases. -/
inductive Phase where
  | prematch | autonomous | driver | endgame | paused | ended
  deriving DecidableEq, Repr

/-- R103: the align states. -/
inductive AlignState where
  | unaligned | acquiring | locked | holdover | source
  deriving DecidableEq, Repr

/-- R186: the node states. -/
inductive NodeState where
  | config | listening | running | test
  deriving DecidableEq, Repr

/-- R2: the offer kinds. -/
inductive OfferKind where
  | hold | renewable | metered
  deriving DecidableEq, Repr

/-- R2: the alliance restriction of an offer. -/
inductive Restriction where
  | any | red | blue
  deriving DecidableEq, Repr

/-- R26: the ring modes. -/
inductive RingMode where
  | queue | fixed | rotateOnGrant | rotateOnRelease
  deriving DecidableEq, Repr

/-- R1: the partner rules. -/
inductive PartnerRule where
  | exclusive | companion
  deriving DecidableEq, Repr

/-- R110: the trim modes. -/
inductive TrimMode where
  | track | freeze | fixed
  deriving DecidableEq, Repr

/-- R173: the test kinds. -/
inductive TestKind where
  | patternSend | patternCheck | loopback
  deriving DecidableEq, Repr

/-- R56: the sanction kinds. -/
inductive SanctionKind where
  | bench | eject | clear
  deriving DecidableEq, Repr

/-- R192: every reason that an answer, a notice or a reply can carry. -/
inductive Reason where
  | yielded | expired | budgetSpent | phaseClosed | silent | senseLost | sanction | interlock | matchEnd | withdrawn
  | stale | lostSeat | yieldUnconfirmed | elementLost | notAligned | noOffer | alliance | notOpen | ringFull | ejected
  | benched | noBudget | alreadySeated | listFull | notRenewable | notHeld | othersWaiting | noAnswer
  deriving DecidableEq, Repr

/-- R183: the result codes of a command. -/
inductive ResultCode where
  | done | unknownCommand | badArgument | wrongRole | wrongState | locked | listFull | notKnown | badConfig
  deriving DecidableEq, Repr

/-- R193: the notice kinds. -/
inductive NoticeKind where
  | granted | waiting | refused | ended | lost | renewed | renewDenied | sanctioned
  | seatGranted | seatEnded | sanctionTaken | turnTaken
  deriving DecidableEq, Repr

/-- R187: the sixteen event flags. -/
inductive EventFlag where
  | ready | commandDone | commandOverrun | notice | noticeLost | phaseChanged | haltChanged | alignChanged
  | trimLimit | linkLost | linkBack | txFault | idClash | peerChanged | windowReady | markConflict
  deriving DecidableEq, Repr

/-- R103: the causes recorded at a change of align state. -/
inductive AlignCause where
  | none | referenceChosen | referenceBetter | referenceLost | lockReached | lockLost | holdoverExpired | sourceStart
  | fixedMode
  deriving DecidableEq, Repr

/-- R106: the kinds of a sample. -/
inductive SampleKind where
  | slew | step
  deriving DecidableEq, Repr

/-- R170: the power judgments. -/
inductive PowerJudgment where
  | seen | notSeen
  deriving DecidableEq, Repr

/-- R174: the causes of a test's end. -/
inductive EndCause where
  | command | phase
  deriving DecidableEq, Repr

/-- R73: the states of a request. -/
inductive RequestState where
  | asking | waiting | seated | yielding
  deriving DecidableEq, Repr

/-- R25: the engagement of a standing record. -/
inductive Engagement where
  | none | waiting | seated (seat : Nat)
  deriving DecidableEq, Repr

/-- R187: which byte of the pair of the event flags (96, 97) or of the mask (98, 99) a write reaches; the first byte
holds bits 15..8. -/
inductive PairByte where
  | first | second
  deriving DecidableEq, Repr

/-- The commands of the block, one constructor for each row of spec/opcode_table.json. The operands of a local
controller command are its argument fields in the order and the widths of R183 and R193. An expiry names the seat,
the player, the element or the node whose timer has run out. -/
inductive Instr where
  /-- SET_NODE (R184). -/
  | setNode (nodeId role alliance : Byte)
  /-- SET_TIMING (R184, R113). -/
  | setTiming (presencePeriod silenceTime : Half) (linkDelay : Byte) (stepLimit windowLength : Half)
  /-- SET_ELEMENT (R1). -/
  | setElement (seats offers budgetBase reloadPhases ringMode : Byte) (clearing : Half) (senseUse mute : Byte)
  /-- SET_OFFER (R2). -/
  | setOffer (slot kind : Byte) (maxHold : Half) (cost openPhases restriction : Byte) (pulsePeriod : Half)
  /-- SET_PARTNER (R1). -/
  | setPartner (count id0 rule0 id1 rule1 : Byte)
  /-- SET_REFEREE (R133). -/
  | setReferee (source : Byte)
  /-- START (R185, R186). -/
  | start
  /-- RESET (R189). -/
  | reset
  /-- ASK (R74, R75). -/
  | ask (element offer : Byte) (hold : Half)
  /-- YIELD (R86). -/
  | yield (element : Byte)
  /-- RENEW (R87). -/
  | renew (element : Byte)
  /-- SEND_MARK (R134, R135). -/
  | sendMark (phase : Byte) (lead : Half)
  /-- SEND_SANCTION (R137). -/
  | sendSanction (player kind : Byte) (duration : Half)
  /-- SEND_TURN (R137). -/
  | sendTurn (element player : Byte)
  /-- HALT_ON (R139). -/
  | haltOn
  /-- HALT_OFF (R139). -/
  | haltOff
  /-- TRIM_MODE (R111). -/
  | trimMode (mode : Byte)
  /-- TRIM_SET (R112): a signed value in two's complement. -/
  | trimSet (trim : Half)
  /-- TEST_BEGIN (R173). -/
  | testBegin (kind : Byte)
  /-- TEST_END (R174). -/
  | testEnd
  /-- INSERT_ERROR (R178). -/
  | insertError
  /-- READ_SEATS (R24). -/
  | readSeats (start : Byte)
  /-- READ_WAITING (R48). -/
  | readWaiting (start : Byte)
  /-- READ_RING (R49). -/
  | readRing (start : Byte)
  /-- READ_REQUESTS (R93). -/
  | readRequests (start : Byte)
  /-- READ_VIEW (R68, R93). -/
  | readView (start : Byte)
  /-- READ_PEER (R151). -/
  | readPeer (nodeId : Byte)
  /-- READ_TIME (R114). -/
  | readTime
  /-- READ_LINK (R179). -/
  | readLink (part : Byte)
  /-- READ_NOTICES (R188). -/
  | readNotices
  /-- READ_CONFIG (R184). -/
  | readConfig
  /-- UNKNOWN_COMMAND (R183): a handed-over command with this code. -/
  | unknownCommand (code : Byte)
  /-- EVENT_FLAGS_WRITE (R187): one byte written at offset 96 or 97. -/
  | eventFlagsWrite (place : PairByte) (value : Byte)
  /-- EVENT_MASK_WRITE (R187): one byte written at offset 98 or 99. -/
  | eventMaskWrite (place : PairByte) (value : Byte)
  /-- PORT_WRITE (R181): one byte written at a port offset. -/
  | portWrite (offset : BitVec 7) (value : Byte)
  /-- PIN_RESET (R189). -/
  | pinReset
  /-- STOP_ACTIVE (R129). -/
  | stopActive
  /-- STOP_INACTIVE (R129). -/
  | stopInactive
  /-- SILENT_HOLDER_SENSE_LOST (R20). -/
  | silentHolderSenseLost (seat : Nat)
  /-- CARRIER_DETECT_RISE (R160, R161); slotsCounted is the number of whole slots counted since the idle gap was
  complete (log entry 7). -/
  | carrierDetectRise (slotsCounted : Nat)
  /-- FT_ADVANCE (R95): one local ms, with the levels of SENSE0..3 read at it (R19; bit n is SENSEn). -/
  | ftAdvance (sense : BitVec 4)
  /-- GUARD_EXPIRY (R6). -/
  | guardExpiry (seat : Nat)
  /-- HOLD_EXPIRY (R8). -/
  | holdExpiry (seat : Nat)
  /-- PULSE_COUNTDOWN_EXPIRY (R10). -/
  | pulseCountdownExpiry (seat : Nat)
  /-- PULSE_END (R11). -/
  | pulseEnd (seat : Nat)
  /-- SENSE_RELEASE_EXPIRY (R19). -/
  | senseReleaseExpiry (seat : Nat)
  /-- CLEARING_EXPIRY (R15). -/
  | clearingExpiry (seat : Nat)
  /-- ENTRY_STALE (R31). -/
  | entryStale (player : NodeId)
  /-- BENCH_EXPIRY (R58). -/
  | benchExpiry (player : NodeId)
  /-- PLAYER_BENCH_EXPIRY (R89). -/
  | playerBenchExpiry
  /-- HOLDOVER_EXPIRY (R104). -/
  | holdoverExpiry
  /-- MARK_BOUNDARY_REACHED (R120). -/
  | markBoundaryReached
  /-- HALT_DUE (R130). -/
  | haltDue
  /-- MARK_COPY_DUE (R136). -/
  | markCopyDue
  /-- ORDER_COPY_DUE (R138). -/
  | orderCopyDue
  /-- ANSWER_WAIT_MISS (R77). -/
  | answerWaitMiss (element : NodeId)
  /-- REFRESH_DUE (R78). -/
  | refreshDue (element : NodeId)
  /-- HOLD_COUNTDOWN_EXPIRY (R83). -/
  | holdCountdownExpiry (element : NodeId)
  /-- MARGIN_EXPIRY (R83). -/
  | marginExpiry (element : NodeId)
  /-- PEER_SILENT (R147). -/
  | peerSilent (node : NodeId)
  /-- LINK_LOST (R168). -/
  | linkLost
  /-- WINDOW_END (R172). -/
  | windowEnd
  /-- LISTEN_END (R186). -/
  | listenEnd
  /-- PRESENCE_DUE (R159). -/
  | presenceDue
  /-- PATTERN_DUE (R175). -/
  | patternDue
  /-- IDLE_GAP_COMPLETE (R161). -/
  | idleGapComplete
  /-- CONTENTION_COMPLETE (R160). -/
  | contentionComplete
  /-- TRANSMISSION_END (R155); txpdSeen says whether TXPD was found high in the judged interval (R170). -/
  | transmissionEnd (txpdSeen : Bool)
  /-- FRAME_RECEIVED (R163): the bytes RXD carried after the sync word, the length byte first. -/
  | frameReceived (bytes : List Byte)
  /-- PRESENCE_FRAME (R166). -/
  | presenceFrame
  /-- ASK_FRAME (R35). -/
  | askFrame
  /-- YIELD_FRAME (R41). -/
  | yieldFrame
  /-- ANSWER_FRAME (R79). -/
  | answerFrame
  /-- MARK_FRAME (R118). -/
  | markFrame
  /-- SANCTION_FRAME (R55). -/
  | sanctionFrame
  /-- TURN_FRAME (R42). -/
  | turnFrame
  /-- HALT_FRAME (R128). -/
  | haltFrame
  /-- PATTERN_FRAME (R176). -/
  | patternFrame
  /-- CARRIER_DETECT_FALL (R160). -/
  | carrierDetectFall
  /-- SYNC_WORD_FOUND (R163). -/
  | syncWordFound
  deriving DecidableEq, Repr

end Sys2Proof
end

