-- ==== Sys2Proof/Config.lean ====
section
/-! DEFINITION. What the spec leaves open and the model does not choose: free values without a body. -/

namespace Sys2Proof

/-- Whether a movement of FT taken while a frame is in transmission comes before the end of that frame's sync word
(R154 takes the stamp at that instant, and no row of the table marks it for a frame being sent). Applied to the
free-value index of State. Log entry 6. -/
opaque Config.freeBeforeSync : Nat → Bool

/-- How many slots of a countdown in progress have passed when READ_LINK reads it (R167): the slots are shorter than a
local ms and no row of the table marks one. Applied to the free-value index of State. Log entry 7. -/
opaque Config.freeSlots : Nat → Nat

end Sys2Proof
end

