-- ==== Sys2Proof/Machine/State.lean ====
section
/-! DEFINITION. The state of the AF-24, block by block (00_scope section 3), and the state after reset. Values that a
rule computes from others (seat outputs, EVTn, TXEN, near full, the configuration lock) are not stored: they are
functions in Machine/. -/

namespace Sys2Proof.Machine

/-- Why a step could stop with a fault. The spec names no condition that stops the part, so nothing raises one; the
type has no value. -/
inductive Fault where
  deriving DecidableEq, Repr

/-- Why a step could be refused by the model. -/
inductive Refusal where
  /-- Raised by an arm of exec that has no meaning yet; safe: nothing is proved of that command. -/
  | notModelled (mnemonic : String)
  deriving DecidableEq, Repr

/-! ## Port -/

/-- R2: one offer slot, stored as given. -/
structure OfferSlot where
  kind : Byte
  maxHold : Half
  cost : Byte
  openPhases : Byte
  restriction : Byte
  pulsePeriod : Half
  deriving DecidableEq, Repr

/-- R1: one entry of the partner list, stored as given. -/
structure PartnerEntry where
  id : Byte
  rule : Byte
  deriving DecidableEq, Repr

/-- R184, R1, R2, R133: the stored configuration, as given by the SET commands. -/
structure StoredConfig where
  nodeId : Byte
  role : Byte
  alliance : Byte
  presencePeriod : Half
  silenceTime : Half
  linkDelay : Byte
  stepLimit : Half
  windowLength : Half
  source : Byte
  seatCount : Byte
  offerCount : Byte
  budgetBase : Byte
  reloadPhases : Byte
  ringMode : Byte
  clearing : Half
  senseUse : Byte
  mute : Byte
  partnerCount : Byte
  partner0 : PartnerEntry
  partner1 : PartnerEntry
  offer0 : OfferSlot
  offer1 : OfferSlot
  offer2 : OfferSlot
  offer3 : OfferSlot
  deriving DecidableEq, Repr

/-- R188: one notice record. -/
structure Notice where
  kind : NoticeKind
  id : Byte
  claim : Byte
  detail : Half
  time : Half
  deriving DecidableEq, Repr

/-- R180: an SPI transaction in progress, from the fall of CSn on: awaiting its access byte, writing at an offset, or
reading at an offset with the pairs of event flags and mask that it has captured so far. -/
inductive Transaction where
  | access
  | writing (next : BitVec 7)
  | reading (next : BitVec 7) (flags mask : Option Half)
  deriving DecidableEq, Repr

/-- R180, R181, R186 to R189: the port's own state. `block` holds offsets 0..30, `reply` offsets 34..95; `spi` is the
transaction in progress, none while CSn is high or after a reset has abandoned one. -/
structure Port where
  spi : Option Transaction
  block : List Byte
  token : Byte
  result : Byte
  replyLength : Byte
  reply : List Byte
  flags : Half
  mask : Half
  notices : List Notice
  nodeState : NodeState
  listenRemaining : Nat
  cfg : StoredConfig
  deriving DecidableEq, Repr

/-! ## Field channel -/

/-- R191: the common header. -/
structure Header where
  kind : BitVec 4
  level : BitVec 3
  halted : Bool
  sender : NodeId
  role : BitVec 2
  alliance : BitVec 2
  phase : BitVec 3
  align : BitVec 2
  test : Bool
  seq : Byte
  stamp : Quad
  deriving DecidableEq, Repr

/-- R192: the answer kinds with the bytes that follow; a reason is its code. -/
inductive AnswerBody where
  | granted (seat : Byte) (hold mark : Half)
  | waiting (position count : Byte)
  | refused (reason : Byte)
  | ended (reason : Byte)
  | renewed (hold : Half)
  | renewDenied (reason : Byte)
  deriving DecidableEq, Repr

/-- R192: the frames a node places. A PRESENCE has no body until its transmission begins (R155). -/
inductive TxBody where
  | presence
  | ask (target : NodeId) (claim : Byte) (renew : Bool) (offer : Nat) (hold : Half)
  | yield (target : NodeId) (claim : Byte)
  | answer (target : NodeId) (claim : Byte) (answer : AnswerBody)
  | mark (seq : Byte) (phase : Phase) (boundary : Quad)
  | sanction (seq : Byte) (target : NodeId) (kind : SanctionKind) (duration : Half)
  | turn (seq : Byte) (element player : NodeId)
  | halt
  | pattern (bits : List Byte) (seq : Half)
  deriving DecidableEq, Repr

/-- R156: a frame in the transmit queue; `ofRequest` says that the request unit placed it for a request (R76) and not
as the YIELD of a stray (R85). -/
structure QueuedFrame where
  body : TxBody
  ofRequest : Bool
  deriving DecidableEq, Repr

/-- R160: a contention in progress. `gapDone` is its stage; `slots` holds the slots remaining at the last completed gap,
once the draw is made, and `passed` how many of them a reading has found counted down since (log entry 7). -/
structure Contention where
  gapDone : Bool
  gapCount : Nat
  slots : Option Nat
  passed : Nat
  deriving DecidableEq, Repr

/-- R160: the slots remaining, as far as the events and the readings of the countdown have told. -/
def Contention.remaining (k : Contention) : Option Nat := k.slots.map fun b => b - k.passed

/-- R160: a contention whose idle gap counts from 0. -/
def Contention.waiting (slots : Option Nat) : Contention := { gapDone := false, gapCount := 0, slots := slots, passed := 0 }

/-- R160: a contention whose idle gap is complete, with its slots to count down. -/
def Contention.counting (slots : Nat) : Contention := { gapDone := true, gapCount := 32, slots := some slots, passed := 0 }

/-- R154, R155: the frame in transmission. `stampOpen` holds until the end of the sync word; `looped` marks a frame
sent in a loopback test (R177), for which TXEN stays low. -/
structure TxFrame where
  frame : QueuedFrame
  header : Header
  body : List Byte
  stampOpen : Bool
  looped : Bool
  deriving DecidableEq, Repr

/-- R163: the frame in reception, with its local stamp. `looped` holds the node's own frame in a loopback test (R177). -/
structure Reception where
  stamp : Quad
  looped : Option (List Byte)
  deriving DecidableEq, Repr

/-- R164: a good frame in the receive queue. Its length byte is 8 more than the length of the body. -/
structure RxFrame where
  header : Header
  body : List Byte
  stamp : Quad
  deriving DecidableEq, Repr

/-- The field channel (09, its table of state). The transmit queue is held in place order. -/
structure Channel where
  txQueue : List QueuedFrame
  contention : Option Contention
  exponent : Nat
  backoff : Half
  presenceDue : Option Nat
  txFrame : Option TxFrame
  rxQueue : List RxFrame
  reception : Option Reception
  presencePeriod : Nat
  deriving DecidableEq, Repr

/-! ## Link supervision -/

/-- R172: the seven counts of a window. -/
structure WindowCounts where
  sent : Nat
  good : Nat
  crc : Nat
  format : Nat
  kind : Nat
  overflow : Nat
  drop : Nat
  deriving DecidableEq, Repr

/-- R172: all counts 0. -/
def WindowCounts.zero : WindowCounts :=
  { sent := 0, good := 0, crc := 0, format := 0, kind := 0, overflow := 0, drop := 0 }

/-- R174, R176: the test record. -/
structure TestRecord where
  patternsSent : Nat
  errorsInserted : Nat
  seedFrames : Nat
  compared : Nat
  missed : Nat
  ignored : Nat
  bitErrors : Nat
  endCause : Option EndCause
  deriving DecidableEq, Repr

/-- R173: the cleared test record. -/
def TestRecord.cleared : TestRecord :=
  { patternsSent := 0, errorsInserted := 0, seedFrames := 0, compared := 0, missed := 0, ignored := 0, bitErrors := 0,
    endCause := none }

/-- Link supervision (10, its table of state). -/
structure Link where
  lost : Bool
  remaining : Nat
  txFault : Bool
  lastPower : Option PowerJudgment
  window : WindowCounts
  elapsed : Nat
  windowNumber : Nat
  lastWindow : WindowCounts
  lastWindowNumber : Nat
  windowLength : Nat
  testKind : Option TestKind
  patternDue : Option Nat
  sendGen : BitVec 15
  sendSeq : Half
  insertPending : Bool
  checkGen : Option (BitVec 15)
  expectedSeq : Half
  patternSource : Option NodeId
  record : TestRecord
  deriving DecidableEq, Repr

/-! ## Peers -/

/-- R143: the advertised player state of a slot. -/
structure PlayerAd where
  benched : Bool
  ejected : Bool
  requests : Nat
  deriving DecidableEq, Repr

/-- R143: a present slot of the peer table. `heard` is the liveness: true for HEARD, false for SILENT. -/
structure PeerSlot where
  role : BitVec 2
  alliance : BitVec 2
  level : BitVec 3
  align : BitVec 2
  halted : Bool
  test : Bool
  phase : BitVec 3
  seq : Byte
  lastHeard : Nat
  silence : Nat
  heard : Bool
  frames : Nat
  ad : Option PlayerAd
  deriving DecidableEq, Repr

/-- R54, R142: a filled referee slot; `ad` holds the advertised source flag and order seq. -/
structure RefSlot where
  id : NodeId
  lastSeq : Option Byte
  ad : Option (Bool × Byte)
  deriving DecidableEq, Repr

/-- The peer table with the referee slots (R143, R54). `slots` lists the present slots by rising id; `referees` lists
the filled referee slots in the order they were filled, at most two. -/
structure Peers where
  slots : List (NodeId × PeerSlot)
  clashCount : Nat
  rejectCount : Nat
  lastChanged : Option NodeId
  silenceTime : Nat
  referees : List RefSlot
  orderIgnore : Nat
  deriving DecidableEq, Repr

/-! ## Field time -/

/-- R106: the last sample. -/
structure Sample where
  offset : Int
  kind : SampleKind
  deriving DecidableEq, Repr

/-- The field-time block (05, its table of state). `stepLimit` is the step limit in use (R113). -/
structure FieldTime where
  ft : Nat
  fraction : Nat
  trim : Int
  commanded : Int
  stall : Nat
  mode : TrimMode
  reference : Option NodeId
  align : AlignState
  level : Nat
  lockCount : Nat
  holdover : Nat
  alarm : Bool
  lastSample : Option Sample
  lastCause : AlignCause
  stepLimit : Nat
  deriving DecidableEq, Repr

/-! ## Phase unit -/

/-- R119: a pending mark. -/
structure PendingMark where
  seq : Byte
  phase : Phase
  boundary : Nat
  carried : Quad
  deriving DecidableEq, Repr

/-- The phase unit (06, its table of state). The current mark's seq is the phase seq (R151: it "equals the phase seq").
`haltDue` is the next due time of the HALT schedule (R130). -/
structure PhaseUnit where
  phase : Phase
  seq : Byte
  fresh : Bool
  pausedPhase : Phase
  currentPhase : Phase
  currentCarried : Option Quad
  pending : Option PendingMark
  latch : Bool
  lastHalt : Option Nat
  stop : Bool
  haltSending : Bool
  haltDue : Option Nat
  ignoreCount : Nat
  conflictCount : Nat
  deriving DecidableEq, Repr

/-! ## Seat unit, grant arbiter, standing and interlock -/

/-- R3: the claim record of an occupied seat. -/
structure Claim where
  player : NodeId
  number : Byte
  offer : Nat
  granted : Nat
  hold : Nat
  mark : Half
  countdown : Nat
  renews : Nat
  deriving DecidableEq, Repr

/-- R3: a seat in one of its four states, with the counters that state keeps. `silentHeld` is R20's "held for a silent
holder"; `pulse` is the pulse in progress with its pulse remaining. -/
inductive Seat where
  | free
  | guard (claim : Claim) (remaining : Nat) (silentHeld : Bool)
  | held (claim : Claim) (pulse : Option Nat) (release : Nat) (silentHeld : Bool)
  | clearing (remaining : Nat)
  deriving DecidableEq, Repr

/-- R3, R6: the seat unit. -/
structure SeatUnit where
  table : List Seat
  guardTime : Nat
  deriving DecidableEq, Repr

/-- R28: an entry of the waiting list; `hold` is in ms, `refreshed` a field ms. -/
structure Entry where
  player : NodeId
  claim : Byte
  offer : Nat
  hold : Nat
  refreshed : Nat
  deriving DecidableEq, Repr

/-- R25: a standing record. `benchEnding` holds between the moment the bench remaining has counted to 0 and the
BENCH_EXPIRY that starts the resolution of R58; the player is benched only while the remaining is above 0 (log entry
1). -/
structure StandingRecord where
  player : NodeId
  budget : Nat
  bench : Nat
  benchEnding : Bool
  ejected : Bool
  silent : Bool
  engagement : Engagement
  lastEnded : Option (Byte × Reason)
  deriving DecidableEq, Repr

/-- R25, R28, R34: the grant arbiter. The head of the ring is the first record. -/
structure Arbiter where
  waiting : List Entry
  ring : List StandingRecord
  ignoreCount : Nat
  deriving DecidableEq, Repr

/-- R61: one seat of a partner view, or of an element view's entry (R70), whose `claim` is always absent. -/
structure ViewSeat where
  state : Byte
  holder : Option NodeId
  mark : Half
  claim : Option Byte
  deriving DecidableEq, Repr

/-- R61: a partner view. Its seat count is the length of `seats`. -/
structure PartnerView where
  id : NodeId
  rule : PartnerRule
  seats : List ViewSeat
  lastHeard : Nat
  silent : Bool
  deriving DecidableEq, Repr

/-! ## Request unit -/

/-- R70: an offer as an element's PRESENCE shows it. -/
structure ViewOffer where
  kind : BitVec 2
  openNow : Bool
  restriction : BitVec 2
  cost : Byte
  maxHold : Half
  deriving DecidableEq, Repr

/-- R70: an entry of the element view. The seat and offer counts are the lengths of the lists. -/
structure ViewEntry where
  seats : List ViewSeat
  waiting : Byte
  offers : List ViewOffer
  lastHeard : Nat
  silent : Bool
  deriving DecidableEq, Repr

/-- R73: a request. `waitFrame` is the frame whose transmission opened the present wait (R77); `margin` is absent until
the hold countdown's end is taken (R83). -/
structure Request where
  element : NodeId
  offer : Nat
  claim : Byte
  hold : Half
  state : RequestState
  tries : Nat
  deadline : Option Nat
  waitFrame : Option TxBody
  refreshDue : Option Nat
  position : Byte
  count : Byte
  seat : Byte
  granted : Half
  countdown : Nat
  margin : Option Nat
  renewPending : Bool
  deriving DecidableEq, Repr

/-- The request unit (04). `view` lists the element view by rising id. -/
structure RequestUnit where
  view : List (NodeId × ViewEntry)
  list : List Request
  claimCounter : Byte
  bench : Nat
  benchEnding : Bool
  ejected : Bool
  viewIgnore : Nat
  strayCount : Nat
  deriving DecidableEq, Repr

/-! ## Referee unit -/

/-- R136: the mark schedule. -/
structure MarkSchedule where
  seq : Byte
  phase : Phase
  carried : Quad
  copies : Nat
  due : Nat
  deriving DecidableEq, Repr

/-- R138: the order schedule; `frame` is the SANCTION or TURN. -/
structure OrderSchedule where
  frame : TxBody
  copies : Nat
  due : Nat
  deriving DecidableEq, Repr

/-- The referee unit (07, its table of state). The source flag stands in the stored configuration (R133). -/
structure RefereeUnit where
  orderSeq : Byte
  marks : Option MarkSchedule
  orders : Option OrderSchedule
  deriving DecidableEq, Repr

/-! ## The whole state -/

/-- The levels of the input pins that the part reads: STOPn (R129), SENSE0..3 as last read (R19), CD (R153). -/
structure Pins where
  stopLow : Bool
  sense : BitVec 4
  cd : Bool
  deriving DecidableEq, Repr

/-- The state of the node, its pins, the present local ms, the free-value index (the model's own, log entry 6), and the
queue of waiting commands. -/
structure State where
  port : Port
  chan : Channel
  link : Link
  peers : Peers
  time : FieldTime
  phase : PhaseUnit
  seat : SeatUnit
  arb : Arbiter
  views : List PartnerView
  req : RequestUnit
  ref : RefereeUnit
  pins : Pins
  localMs : Nat
  freeIndex : Nat
  pending : List Instr
  deriving DecidableEq, Repr

/-! ## Reset values -/

/-- R2: an offer slot after reset. -/
def OfferSlot.reset : OfferSlot :=
  { kind := 0, maxHold := 0, cost := 0, openPhases := 0, restriction := 0, pulsePeriod := 0 }

/-- R184, R1, R2, R133: the stored configuration after reset. -/
def StoredConfig.reset : StoredConfig :=
  { nodeId := 0, role := 0, alliance := 0, presencePeriod := 250, silenceTime := 1000, linkDelay := 12,
    stepLimit := 1000, windowLength := 10000, source := 0, seatCount := 1, offerCount := 0, budgetBase := 0,
    reloadPhases := 0, ringMode := 0, clearing := 0, senseUse := 0, mute := 0, partnerCount := 0,
    partner0 := { id := 0, rule := 0 }, partner1 := { id := 0, rule := 0 }, offer0 := OfferSlot.reset,
    offer1 := OfferSlot.reset, offer2 := OfferSlot.reset, offer3 := OfferSlot.reset }

/-- R189: the port after reset; only READY (bit 0, R193) is set, and every mask bit. -/
def Port.reset : Port :=
  { spi := none, block := List.replicate 31 0, token := 0, result := 0, replyLength := 0, reply := List.replicate 62 0,
    flags := 1, mask := 0xFFFF, notices := [], nodeState := .config, listenRemaining := 0, cfg := StoredConfig.reset }

/-- R167: the field channel after reset. -/
def Channel.reset : Channel :=
  { txQueue := [], contention := none, exponent := 3, backoff := 1, presenceDue := none, txFrame := none, rxQueue := [],
    reception := none, presencePeriod := 250 }

/-- R179: link supervision after reset. -/
def Link.reset : Link :=
  { lost := false, remaining := 2000, txFault := false, lastPower := none, window := WindowCounts.zero, elapsed := 0,
    windowNumber := 0, lastWindow := WindowCounts.zero, lastWindowNumber := 0, windowLength := 10000, testKind := none,
    patternDue := none, sendGen := 32767, sendSeq := 0, insertPending := false, checkGen := none, expectedSeq := 0,
    patternSource := none, record := TestRecord.cleared }

/-- R152, R69: the peer table and the referee slots after reset. -/
def Peers.reset : Peers :=
  { slots := [], clashCount := 0, rejectCount := 0, lastChanged := none, silenceTime := 1000, referees := [],
    orderIgnore := 0 }

/-- R115: field time after reset. -/
def FieldTime.reset : FieldTime :=
  { ft := 0, fraction := 0, trim := 0, commanded := 0, stall := 0, mode := .track, reference := none,
    align := .unaligned, level := 7, lockCount := 0, holdover := 0, alarm := false, lastSample := none,
    lastCause := .none, stepLimit := 1000 }

/-- R116: the phase unit after reset. -/
def PhaseUnit.reset : PhaseUnit :=
  { phase := .prematch, seq := 0, fresh := true, pausedPhase := .prematch, currentPhase := .prematch,
    currentCarried := none, pending := none, latch := false, lastHalt := none, stop := false, haltSending := false,
    haltDue := none, ignoreCount := 0, conflictCount := 0 }

/-- R4: one seat, FREE. -/
def SeatUnit.reset : SeatUnit := { table := [.free], guardTime := 0 }

/-- R27, R33, R34: the ring and the list are empty. -/
def Arbiter.reset : Arbiter := { waiting := [], ring := [], ignoreCount := 0 }

/-- R93: the request unit after reset. -/
def RequestUnit.reset : RequestUnit :=
  { view := [], list := [], claimCounter := 0, bench := 0, benchEnding := false, ejected := false, viewIgnore := 0,
    strayCount := 0 }

/-- 07, the table before R133. -/
def RefereeUnit.reset : RefereeUnit := { orderSeq := 0, marks := none, orders := none }

/-- The input pins: STOPn high, the sense inputs and CD low (log entry 8, DESIGN CHOICE, unsafe). -/
def Pins.reset : Pins := { stopLow := false, sense := 0, cd := false }

/-- The machine right after reset (R189). -/
def State.reset : State :=
  { port := Port.reset, chan := Channel.reset, link := Link.reset, peers := Peers.reset, time := FieldTime.reset,
    phase := PhaseUnit.reset, seat := SeatUnit.reset, arb := Arbiter.reset, views := [], req := RequestUnit.reset,
    ref := RefereeUnit.reset, pins := Pins.reset, localMs := 0, freeIndex := 0, pending := [] }

end Sys2Proof.Machine
end

