-- ==== Sys2Proof/Machine/Ops.lean ====
section
/-! DEFINITION. The operations every block uses: changing one block of the state, tables keyed by node id, saturating
counts, byte order, and the plain readings of field time and phase. -/

namespace Sys2Proof

/-- R116: AUTONOMOUS, DRIVER and ENDGAME are the running phases. -/
def Phase.isRunningPhase : Phase → Bool
  | .autonomous | .driver | .endgame => true
  | .prematch | .paused | .ended => false

/-- The receiver, the peer table, field time, the phase unit and link supervision work in these node states. -/
def NodeState.isStarted : NodeState → Bool
  | .config => false
  | .listening | .running | .test => true

/-- The transmitter works in these node states (R153). -/
def NodeState.sends : NodeState → Bool
  | .running | .test => true
  | .config | .listening => false

end Sys2Proof

namespace Sys2Proof.Machine

/-! ## Changing one block -/

/-- The port changed by f, all else kept. -/
def State.mapPort (f : Port → Port) (s : State) : State := { s with port := f s.port }
/-- The field channel changed by f. -/
def State.mapChan (f : Channel → Channel) (s : State) : State := { s with chan := f s.chan }
/-- Link supervision changed by f. -/
def State.mapLink (f : Link → Link) (s : State) : State := { s with link := f s.link }
/-- The peer table changed by f. -/
def State.mapPeers (f : Peers → Peers) (s : State) : State := { s with peers := f s.peers }
/-- Field time changed by f. -/
def State.mapTime (f : FieldTime → FieldTime) (s : State) : State := { s with time := f s.time }
/-- The phase unit changed by f. -/
def State.mapPhase (f : PhaseUnit → PhaseUnit) (s : State) : State := { s with phase := f s.phase }
/-- The seat unit changed by f. -/
def State.mapSeat (f : SeatUnit → SeatUnit) (s : State) : State := { s with seat := f s.seat }
/-- The grant arbiter changed by f. -/
def State.mapArb (f : Arbiter → Arbiter) (s : State) : State := { s with arb := f s.arb }
/-- The partner views changed by f. -/
def State.mapViews (f : List PartnerView → List PartnerView) (s : State) : State := { s with views := f s.views }
/-- The request unit changed by f. -/
def State.mapReq (f : RequestUnit → RequestUnit) (s : State) : State := { s with req := f s.req }
/-- The referee unit changed by f. -/
def State.mapRef (f : RefereeUnit → RefereeUnit) (s : State) : State := { s with ref := f s.ref }
/-- The input pins changed by f. -/
def State.mapPins (f : Pins → Pins) (s : State) : State := { s with pins := f s.pins }

/-! ## Tables keyed by a node id -/

/-- The value a table sorted by rising key holds for k. -/
def lookupId {α : Type} (k : NodeId) : List (NodeId × α) → Option α
  | [] => none
  | (j, a) :: rest => if j = k then some a else lookupId k rest

/-- The table with k bound to a, its keys still rising. -/
def insertId {α : Type} (k : NodeId) (a : α) : List (NodeId × α) → List (NodeId × α)
  | [] => [(k, a)]
  | (j, b) :: rest =>
    if k < j then (k, a) :: (j, b) :: rest
    else if j = k then (k, a) :: rest
    else (j, b) :: insertId k a rest

/-! ## Counts and bytes -/

/-- A 16-bit count raised by one; it stops at 65,535. -/
def inc16 (n : Nat) : Nat := min (n + 1) 65535

/-- The `count` low bytes of n, most significant first (00_scope section 6). -/
def bytesOf (count n : Nat) : List Byte :=
  match count with
  | 0 => []
  | c + 1 => BitVec.ofNat 8 (n / 256 ^ c) :: bytesOf c n

/-- A node id in its byte: bits 5..0, with bits 7..6 zero (R192). -/
def idByte (n : NodeId) : Byte := n.setWidth 8

/-- A flag in its own byte, 0 or 1 (R193). -/
def flagByte (b : Bool) : Byte := if b then 1 else 0

/-- An absent one-byte value is written 255 (R193). -/
def optionByte (o : Option Byte) : Byte := o.getD 255

/-- The byte of a list at a place; a place beyond the end reads 0. -/
def byteAt (bs : List Byte) (i : Nat) : Byte := bs.getD i 0

/-- The 16-bit field at a place, most significant byte first. -/
def halfAt (bs : List Byte) (i : Nat) : Half := byteAt bs i ++ byteAt bs (i + 1)

/-- The 32-bit field at a place, most significant byte first. -/
def quadAt (bs : List Byte) (i : Nat) : Quad := halfAt bs i ++ halfAt bs (i + 2)

/-- R192: ids occupy bits 5..0 of their byte; the receiver does not read bits 7..6. -/
def idAt (bs : List Byte) (i : Nat) : NodeId := (byteAt bs i).setWidth 6

/-- Serial comparison of 8-bit numbers (00_scope section 6): new minus old modulo 256 lies in 1..127. -/
def newer (new old : Byte) : Bool :=
  let d := (new - old).toNat
  decide (1 ≤ d ∧ d ≤ 127)

/-! ## Readings of field time and phase -/

/-- R94: the largest value of FT. -/
def ftMax : Nat := 2 ^ 40 - 1

/-- The present field ms (00_scope section 6). -/
def State.fieldMs (s : State) : Nat := s.time.ft / 1000

/-- The present field ms modulo 65,536, as notices and grant marks carry it. -/
def State.fieldMs16 (s : State) : Half := BitVec.ofNat 16 s.fieldMs

/-- The low 32 bits of FT, as stamps carry it (R154, R163). -/
def State.ftStamp (s : State) : Quad := BitVec.ofNat 32 s.time.ft

/-- R116: the phase is running when it is a running phase and the halt latch is clear. -/
def State.running (s : State) : Bool := s.phase.phase.isRunningPhase && !s.phase.latch

/-- The node state (R186). -/
def State.nodeState (s : State) : NodeState := s.port.nodeState

/-- R177: a loopback test runs. -/
def State.inLoopback (s : State) : Bool :=
  decide (s.port.nodeState = .test) && decide (s.link.testKind = some .loopback)

end Sys2Proof.Machine
end

