-- ==== Sys2Proof/Machine/Operands.lean ====
section
/-! DEFINITION. The codes of every named value (R191 to R193) and the readings of the stored configuration. -/

namespace Sys2Proof

/-! ## Codes of the named values (R191, R192, R193) -/

/-- R191: phase codes. -/
def Phase.code : Phase → Byte
  | .prematch => 0
  | .autonomous => 1
  | .driver => 2
  | .endgame => 3
  | .paused => 4
  | .ended => 5

/-- R191: align state codes at offset 102 and in READ_TIME. -/
def AlignState.code : AlignState → Byte
  | .unaligned => 0
  | .acquiring => 1
  | .locked => 2
  | .holdover => 3
  | .source => 4

/-- R191, R102: the align state as headers carry it; SOURCE is sent as LOCKED. -/
def AlignState.headerCode : AlignState → BitVec 2
  | .unaligned => 0
  | .acquiring => 1
  | .locked => 2
  | .holdover => 3
  | .source => 2

/-- R191: node state codes. -/
def NodeState.code : NodeState → Byte
  | .config => 0
  | .listening => 1
  | .running => 2
  | .test => 3

/-- R191: partner rule codes. -/
def PartnerRule.code : PartnerRule → Byte
  | .exclusive => 1
  | .companion => 2

/-- R191: trim mode codes. -/
def TrimMode.code : TrimMode → Byte
  | .track => 0
  | .freeze => 1
  | .fixed => 2

/-- R191: test kind codes. -/
def TestKind.code : TestKind → Byte
  | .patternSend => 1
  | .patternCheck => 2
  | .loopback => 3

/-- R191: sanction kind codes. -/
def SanctionKind.code : SanctionKind → Byte
  | .bench => 1
  | .eject => 2
  | .clear => 3

/-- R192: reason codes. -/
def Reason.code : Reason → Byte
  | .yielded => 1
  | .expired => 2
  | .budgetSpent => 3
  | .phaseClosed => 4
  | .silent => 5
  | .senseLost => 6
  | .sanction => 7
  | .interlock => 8
  | .matchEnd => 9
  | .withdrawn => 10
  | .stale => 11
  | .lostSeat => 16
  | .yieldUnconfirmed => 17
  | .elementLost => 18
  | .notAligned => 32
  | .noOffer => 33
  | .alliance => 34
  | .notOpen => 35
  | .ringFull => 36
  | .ejected => 37
  | .benched => 38
  | .noBudget => 39
  | .alreadySeated => 40
  | .listFull => 41
  | .notRenewable => 48
  | .notHeld => 49
  | .othersWaiting => 50
  | .noAnswer => 51

/-- R193: result codes. -/
def ResultCode.code : ResultCode → Byte
  | .done => 1
  | .unknownCommand => 2
  | .badArgument => 3
  | .wrongRole => 4
  | .wrongState => 5
  | .locked => 6
  | .listFull => 7
  | .notKnown => 8
  | .badConfig => 9

/-- R193: notice kind codes. -/
def NoticeKind.code : NoticeKind → Byte
  | .granted => 1
  | .waiting => 2
  | .refused => 3
  | .ended => 4
  | .lost => 5
  | .renewed => 6
  | .renewDenied => 7
  | .sanctioned => 8
  | .seatGranted => 16
  | .seatEnded => 17
  | .sanctionTaken => 18
  | .turnTaken => 19

/-- R193: request state codes. -/
def RequestState.code : RequestState → Byte
  | .asking => 0
  | .waiting => 1
  | .seated => 2
  | .yielding => 3

/-- R193: engagement codes. -/
def Engagement.code : Engagement → Byte
  | .none => 0
  | .waiting => 1
  | .seated n => BitVec.ofNat 8 (16 + n)

/-- R193: last align cause codes. -/
def AlignCause.code : AlignCause → Byte
  | .none => 0
  | .referenceChosen => 1
  | .referenceBetter => 2
  | .referenceLost => 3
  | .lockReached => 4
  | .lockLost => 5
  | .holdoverExpired => 6
  | .sourceStart => 7
  | .fixedMode => 8

/-- R193: sample kind codes. -/
def SampleKind.code : SampleKind → Byte
  | .slew => 1
  | .step => 2

/-- R193: power judgment codes. -/
def PowerJudgment.code : PowerJudgment → Byte
  | .seen => 1
  | .notSeen => 2

/-- R193: test end cause codes. -/
def EndCause.code : EndCause → Byte
  | .command => 1
  | .phase => 2

end Sys2Proof

namespace Sys2Proof.Machine

/-- R191: the role a code names; 3 and above name none. -/
def roleOfCode (c : Nat) : Option Role :=
  match c with
  | 0 => some .player
  | 1 => some .element
  | 2 => some .referee
  | _ => none

/-- R191: the alliance a code names. -/
def allianceOfCode (c : Nat) : Option Alliance :=
  match c with
  | 0 => some .none
  | 1 => some .red
  | 2 => some .blue
  | _ => none

/-- R191: the phase a code names; 6 and above name none. -/
def phaseOfCode (c : Nat) : Option Phase :=
  match c with
  | 0 => some .prematch
  | 1 => some .autonomous
  | 2 => some .driver
  | 3 => some .endgame
  | 4 => some .paused
  | 5 => some .ended
  | _ => none

/-- R191: seat state codes. -/
def Seat.code : Seat → Byte
  | .free => 0
  | .guard _ _ _ => 1
  | .held _ _ _ _ => 2
  | .clearing _ => 3

/-- R191: the offer kind a code names. -/
def offerKindOfCode (c : Nat) : Option OfferKind :=
  match c with
  | 0 => some .hold
  | 1 => some .renewable
  | 2 => some .metered
  | _ => none

/-- R191: the alliance restriction a code names. -/
def restrictionOfCode (c : Nat) : Option Restriction :=
  match c with
  | 0 => some .any
  | 1 => some .red
  | 2 => some .blue
  | _ => none

/-- R191: the ring mode a code names. -/
def ringModeOfCode (c : Nat) : Option RingMode :=
  match c with
  | 0 => some .queue
  | 1 => some .fixed
  | 2 => some .rotateOnGrant
  | 3 => some .rotateOnRelease
  | _ => none

/-- R191: the partner rule a code names. -/
def partnerRuleOfCode (c : Nat) : Option PartnerRule :=
  match c with
  | 1 => some .exclusive
  | 2 => some .companion
  | _ => none

/-- R191: the trim mode a code names. -/
def trimModeOfCode (c : Nat) : Option TrimMode :=
  match c with
  | 0 => some .track
  | 1 => some .freeze
  | 2 => some .fixed
  | _ => none

/-- R191: the test kind a code names. -/
def testKindOfCode (c : Nat) : Option TestKind :=
  match c with
  | 1 => some .patternSend
  | 2 => some .patternCheck
  | 3 => some .loopback
  | _ => none

/-- R191: the sanction kind a code names. -/
def sanctionKindOfCode (c : Nat) : Option SanctionKind :=
  match c with
  | 1 => some .bench
  | 2 => some .eject
  | 3 => some .clear
  | _ => none

/-! ## The stored configuration -/

/-- R184: the node's configured role, if its code names one. -/
def State.role (s : State) : Option Role := roleOfCode s.port.cfg.role.toNat

/-- The element functions work only in a node whose role is ELEMENT. -/
def State.isElement (s : State) : Bool := decide (s.role = some .element)

/-- The request unit works only in a node whose role is PLAYER. -/
def State.isPlayer (s : State) : Bool := decide (s.role = some .player)

/-- The referee unit works only in a node whose role is REFEREE. -/
def State.isReferee (s : State) : Bool := decide (s.role = some .referee)

/-- R184: the node's own id. -/
def State.ownId (s : State) : NodeId := s.port.cfg.nodeId.setWidth 6

/-- R1: the budget base B. -/
def State.budgetBase (s : State) : Nat := s.port.cfg.budgetBase.toNat

/-- R1: the clearing time C in ms. -/
def State.clearingTime (s : State) : Nat := s.port.cfg.clearing.toNat

/-- R1, R185: sense use is on when the stored byte is nonzero. -/
def State.senseUse (s : State) : Bool := decide (s.port.cfg.senseUse ≠ 0)

/-- R1, R185: mute on link loss is on when the stored byte is nonzero. -/
def State.muteOnLinkLoss (s : State) : Bool := decide (s.port.cfg.mute ≠ 0)

/-- R133, R185: the source flag is on when the stored byte is nonzero. -/
def State.sourceFlag (s : State) : Bool := decide (s.port.cfg.source ≠ 0)

/-- R26: the ring mode; START has refused a code that names none. -/
def State.ringMode (s : State) : RingMode := (ringModeOfCode s.port.cfg.ringMode.toNat).getD .queue

/-- R2: the offer slot of a number; a number above 3 names no slot. -/
def StoredConfig.offer (c : StoredConfig) (i : Nat) : OfferSlot :=
  match i with
  | 0 => c.offer0
  | 1 => c.offer1
  | 2 => c.offer2
  | 3 => c.offer3
  | _ => OfferSlot.reset

/-- R2: the offer slot of a number. -/
def State.offer (s : State) (i : Nat) : OfferSlot := s.port.cfg.offer i

/-- R2: the number of offers in use. -/
def State.offerCount (s : State) : Nat := s.port.cfg.offerCount.toNat

/-- R2: the kind of an offer. -/
def OfferSlot.offerKind (o : OfferSlot) : Option OfferKind := offerKindOfCode o.kind.toNat

/-- R191: the bit of a running phase in a phase set. -/
def phaseSetHas (set : Byte) (p : Phase) : Bool :=
  match p with
  | .autonomous => set.getLsbD 0
  | .driver => set.getLsbD 1
  | .endgame => set.getLsbD 2
  | .prematch | .paused | .ended => false

/-- R2: an offer is open in a phase when that phase is one of its open phases. -/
def OfferSlot.openIn (o : OfferSlot) (p : Phase) : Bool := phaseSetHas o.openPhases p

/-- R2: an offer is open now when it is open in the current phase, or, in PAUSED, in the paused phase. -/
def State.openNow (s : State) (o : OfferSlot) : Bool :=
  if s.phase.phase = .paused then o.openIn s.phase.pausedPhase else o.openIn s.phase.phase

/-- R35 check 8: ANY admits every sender, RED a RED sender, BLUE a BLUE one. -/
def OfferSlot.admits (o : OfferSlot) (alliance : BitVec 2) : Bool :=
  match restrictionOfCode o.restriction.toNat with
  | some .red => decide (alliance = 1)
  | some .blue => decide (alliance = 2)
  | some .any | none => true

/-- R1: the partner entries within the partner count. -/
def StoredConfig.partners (c : StoredConfig) : List PartnerEntry :=
  [c.partner0, c.partner1].take c.partnerCount.toNat

end Sys2Proof.Machine
end

