-- ==== Sys2Proof/Machine/Flags.lean ====
section
/-! DEFINITION. Event flags, the event line and the notice queue (R187, R188, R193). -/

namespace Sys2Proof

/-- R193: the bit of each event flag in offsets 96 and 97. -/
def EventFlag.bit : EventFlag → Nat
  | .ready => 0
  | .commandDone => 1
  | .commandOverrun => 2
  | .notice => 3
  | .noticeLost => 4
  | .phaseChanged => 5
  | .haltChanged => 6
  | .alignChanged => 7
  | .trimLimit => 8
  | .linkLost => 9
  | .linkBack => 10
  | .txFault => 11
  | .idClash => 12
  | .peerChanged => 13
  | .windowReady => 14
  | .markConflict => 15

/-- The place of a byte of a 16-bit pair: the first byte holds bits 15..8. -/
def PairByte.widen (place : PairByte) (value : Byte) : Half :=
  match place with
  | .first => value ++ (0 : Byte)
  | .second => (0 : Byte) ++ value

end Sys2Proof

namespace Sys2Proof.Machine

/-- R187: set an event flag; a flag already set stays set. -/
def State.setFlag (f : EventFlag) (s : State) : State :=
  s.mapPort fun p => { p with flags := p.flags ||| (1#16 <<< f.bit) }

/-- R187: whether an event flag is set. -/
def State.hasFlag (s : State) (f : EventFlag) : Bool := s.port.flags.getLsbD f.bit

/-- R187: the level of EVTn; it is driven low while a flag is set whose mask bit is set. -/
def State.evtn (s : State) : Bool := decide (s.port.flags &&& s.port.mask = 0)

/-- R187: each bit written as one clears that flag; a zero leaves it. -/
def State.clearFlags (place : PairByte) (value : Byte) (s : State) : State :=
  s.mapPort fun p => { p with flags := p.flags &&& ~~~(place.widen value) }

/-- R181: the bits written become the mask. -/
def State.writeMask (place : PairByte) (value : Byte) (s : State) : State :=
  s.mapPort fun p => { p with mask := (p.mask &&& ~~~(place.widen 0xFF)) ||| place.widen value }

/-- R188: post a notice with the present field ms; at 16 records it is dropped and NOTICE_LOST set. -/
def State.postNotice (kind : NoticeKind) (id claim : Byte) (detail : Half) (s : State) : State :=
  if s.port.notices.length < 16 then
    (s.mapPort fun p =>
      { p with notices := p.notices ++ [{ kind := kind, id := id, claim := claim, detail := detail,
                                           time := s.fieldMs16 }] }).setFlag .notice
  else s.setFlag .noticeLost

end Sys2Proof.Machine
end

