-- ==== Sys2Proof/Machine/Generators.lean ====
section
/-! DEFINITION. The shift registers: the backoff generator (R162), the pattern generator (R175) and the CRC (R154,
R190). -/

namespace Sys2Proof.Machine

/-- R162: one step of the backoff generator. -/
def backoffStep (g : Half) : Half :=
  let b := (g.getLsbD 15 ^^ g.getLsbD 13) ^^ (g.getLsbD 12 ^^ g.getLsbD 10)
  (g <<< 1) ||| (BitVec.ofBool b).setWidth 16

/-- R162: a draw steps the generator once and takes the low bits of the new value. -/
def State.draw (bits : Nat) (s : State) : State × Nat :=
  let g := backoffStep s.chan.backoff
  (s.mapChan fun c => { c with backoff := g }, g.toNat % 2 ^ bits)

/-- R175: the output bit of one step, the exclusive-or of stages 14 and 13. -/
def patternBit (g : BitVec 15) : Bool := g.getLsbD 14 ^^ g.getLsbD 13

/-- R175: one step of the pattern generator. -/
def patternStep (g : BitVec 15) : BitVec 15 := (g <<< 1) ||| (BitVec.ofBool (patternBit g)).setWidth 15

/-- n steps of the pattern generator. -/
def patternSteps : Nat → BitVec 15 → BitVec 15
  | 0, g => g
  | n + 1, g => patternSteps n (patternStep g)

/-- Eight output bits of consecutive steps, the first in the most significant bit. -/
def patternByte (g : BitVec 15) : Byte :=
  let bit (n : Nat) : BitVec 1 := BitVec.ofBool (patternBit (patternSteps n g))
  bit 0 ++ bit 1 ++ bit 2 ++ bit 3 ++ bit 4 ++ bit 5 ++ bit 6 ++ bit 7

/-- The pattern bytes of 8 n consecutive steps. -/
def patternBytes : Nat → BitVec 15 → List Byte
  | 0, _ => []
  | n + 1, g => patternByte g :: patternBytes n (patternSteps 8 g)

/-- R176: the check generator loaded with the last 15 pattern bits, the latest bit in stage 0. -/
def patternLoad (bits : List Byte) : BitVec 15 := (halfAt bits 30).setWidth 15

/-- The number of set bits of a byte. -/
def onesOfByte (b : Byte) : Nat := ((List.range 8).filter fun i => b.getLsbD i).length

/-- R176: the number of pattern bits that differ from the expected bits. -/
def bitDifferences : List Byte → List Byte → Nat
  | a :: as, b :: bs => onesOfByte (a ^^^ b) + bitDifferences as bs
  | _, _ => 0

/-- R154: one bit shifted through the CRC register, feedback polynomial x^16+x^12+x^5+1. -/
def crcBit (r : Half) (b : Bool) : Half := if r.getLsbD 15 ^^ b then (r <<< 1) ^^^ 0x1021 else r <<< 1

/-- R154: one byte through the CRC register, most significant bit first. -/
def crcByte (r : Half) (b : Byte) : Half :=
  [7, 6, 5, 4, 3, 2, 1, 0].foldl (fun r i => crcBit r (b.getLsbD i)) r

/-- R154, R190: the check value over bytes, from a register of all ones, with no inversion of the result. -/
def crc16 (bs : List Byte) : Half := bs.foldl crcByte 0xFFFF

end Sys2Proof.Machine
end

