-- ==== Sys2Proof/Machine/Formats.lean ====
section
/-! DEFINITION. The byte and bit layouts of frames (R154, R190, R191, R192). -/

namespace Sys2Proof.Machine

/-! ## Kinds and classes (R190, R156) -/

/-- R190: the kind codes. -/
def TxBody.kindCode : TxBody → BitVec 4
  | .presence => 1
  | .ask _ _ _ _ _ => 2
  | .yield _ _ => 3
  | .answer _ _ _ => 4
  | .mark _ _ _ => 5
  | .sanction _ _ _ _ => 6
  | .turn _ _ _ => 7
  | .halt => 8
  | .pattern _ _ => 9

/-- R156: the class of a frame by its kind; 0 is the most urgent. -/
def TxBody.urgency : TxBody → Nat
  | .halt => 0
  | .answer _ _ _ | .mark _ _ _ | .sanction _ _ _ _ | .turn _ _ _ => 1
  | .ask _ _ _ _ _ | .yield _ _ => 2
  | .presence | .pattern _ _ => 3

/-- R158: PRESENCE, ASK, YIELD and ANSWER frames are removed in TEST. -/
def TxBody.barredInTest : TxBody → Bool
  | .presence | .ask _ _ _ _ _ | .yield _ _ | .answer _ _ _ => true
  | .mark _ _ _ | .sanction _ _ _ _ | .turn _ _ _ | .halt | .pattern _ _ => false

/-- R190: the nine kinds are 1..9. -/
def namesKind (k : BitVec 4) : Bool := decide (1 ≤ k.toNat ∧ k.toNat ≤ 9)

/-! ## The common header (R191) -/

/-- R191: the eight bytes of a header. -/
def Header.bytes (h : Header) : List Byte :=
  [h.kind ++ h.level ++ BitVec.ofBool h.halted, h.sender ++ h.role,
    h.alliance ++ h.phase ++ h.align ++ BitVec.ofBool h.test, h.seq] ++ bytesOf 4 h.stamp.toNat

/-- R191: the header that eight bytes hold. -/
def headerOf (bs : List Byte) : Header :=
  let b0 := byteAt bs 0
  let b1 := byteAt bs 1
  let b2 := byteAt bs 2
  { kind := b0.extractLsb' 4 4, level := b0.extractLsb' 1 3, halted := b0.getLsbD 0, sender := b1.extractLsb' 2 6,
    role := b1.extractLsb' 0 2, alliance := b2.extractLsb' 6 2, phase := b2.extractLsb' 3 3,
    align := b2.extractLsb' 1 2, test := b2.getLsbD 0, seq := byteAt bs 3, stamp := quadAt bs 4 }

/-- R154: the header of a frame sent now, with the stamp of the present FT. -/
def State.headerFor (s : State) (kind : BitVec 4) : Header :=
  { kind := kind, level := BitVec.ofNat 3 s.time.level, halted := s.phase.latch, sender := s.ownId,
    role := s.port.cfg.role.setWidth 2, alliance := s.port.cfg.alliance.setWidth 2,
    phase := s.phase.phase.code.setWidth 3, align := s.time.align.headerCode,
    test := decide (s.port.nodeState = .test), seq := s.phase.seq, stamp := s.ftStamp }

/-! ## Bodies (R192) -/

/-- R192: the answer kind and the bytes that follow it. -/
def AnswerBody.bytes : AnswerBody → List Byte
  | .granted seat hold mark => [1, seat] ++ bytesOf 2 hold.toNat ++ bytesOf 2 mark.toNat
  | .waiting position count => [2, position, count]
  | .refused reason => [3, reason]
  | .ended reason => [4, reason]
  | .renewed hold => 5 :: bytesOf 2 hold.toNat
  | .renewDenied reason => [6, reason]

/-- R190, R192: the required length of an ANSWER body by its answer kind; kinds 0 and above 6 are not used. -/
def answerLength (kind : Nat) : Option Nat :=
  match kind with
  | 1 => some 8
  | 2 => some 5
  | 3 => some 4
  | 4 => some 4
  | 5 => some 5
  | 6 => some 4
  | _ => none

/-- R192: the answer an ANSWER body holds, or none where the body is too short, its kind names none, or a GRANTED
names a seat of 4 or above. -/
def answerOf (b : List Byte) : Option AnswerBody :=
  match answerLength (byteAt b 2).toNat with
  | none => none
  | some len =>
    if b.length < len then none
    else match (byteAt b 2).toNat with
      | 1 => if (byteAt b 3).toNat < 4 then some (.granted (byteAt b 3) (halfAt b 4) (halfAt b 6)) else none
      | 2 => some (.waiting (byteAt b 3) (byteAt b 4))
      | 3 => some (.refused (byteAt b 3))
      | 4 => some (.ended (byteAt b 3))
      | 5 => some (.renewed (halfAt b 3))
      | _ => some (.renewDenied (byteAt b 3))

/-- R192: the body of every kind but PRESENCE, which is composed from the state (R155). The bits that the table leaves out are 0
(log entry 41). -/
def TxBody.bytes : TxBody → List Byte
  | .presence => []
  | .ask target claim renew offer hold =>
    [idByte target, claim, (if renew then 128 else 0) ||| BitVec.ofNat 8 (offer % 4)] ++ bytesOf 2 hold.toNat
  | .yield target claim => [idByte target, claim]
  | .answer target claim a => [idByte target, claim] ++ a.bytes
  | .mark seq phase boundary => [seq, phase.code] ++ bytesOf 4 boundary.toNat
  | .sanction seq target kind duration => [seq, idByte target, kind.code] ++ bytesOf 2 duration.toNat
  | .turn seq element player => [seq, idByte element, idByte player]
  | .halt => []
  | .pattern bits seq => bits ++ bytesOf 2 seq.toNat

/-- R154, R190: the length byte, header, body and CRC of a frame, as they follow the sync word. -/
def frameBytes (h : Header) (body : List Byte) : List Byte :=
  let covered := BitVec.ofNat 8 (8 + body.length) :: (h.bytes ++ body)
  covered ++ bytesOf 2 (crc16 covered).toNat

/-- R190: the preamble 1010101010101010 and the sync word 0111011010110001. -/
def preambleAndSync : List Byte := [0xAA, 0xAA, 0x76, 0xB1]

/-- R154: the whole run of bits of a frame in transmission, most significant bit of each byte first. -/
def TxFrame.run (f : TxFrame) : List Byte := preambleAndSync ++ frameBytes f.header f.body

/-- R153: the frame that the transmitter radiates: one is sent in RUNNING or TEST, and it is no frame of a loopback test
(R177). One whose transmission had begun when a loopback test began is radiated to its end (R155; DESIGN CHOICE, unsafe, log
entry 40). -/
def State.radiated (s : State) : Option TxFrame :=
  if s.port.nodeState.sends then s.chan.txFrame.filter fun f => !f.looped else none

/-- R153: TXEN is high while a frame is radiated. -/
def State.txen (s : State) : Bool := s.radiated.isSome

/-- R153, R154: the level of TXD in the bit period of a number since TXEN rose: the bit of the frame's run, and low when no
frame is radiated. -/
def State.txd (s : State) (bit : Nat) : Bool :=
  match s.radiated with
  | some f => (byteAt f.run (bit / 8)).getLsbD (7 - bit % 8)
  | none => false

/-- R192: a holder id byte; 255 means no holder. -/
def holderOf (b : Byte) : Option NodeId := if b = 255 then none else some (b.setWidth 6)

/-- R192: a holder id, 255 for none. -/
def holderByte (h : Option NodeId) : Byte := optionByte (h.map idByte)

/-- R192: the seats of an element PRESENCE, four bytes each from a place on. -/
def viewSeatsOf (b : List Byte) : Nat → Nat → List ViewSeat
  | _, 0 => []
  | i, n + 1 =>
    { state := byteAt b i, holder := holderOf (byteAt b (i + 1)), mark := halfAt b (i + 2), claim := none }
      :: viewSeatsOf b (i + 4) n

/-- R192: the offers of an element PRESENCE, four bytes each from a place on. -/
def viewOffersOf (b : List Byte) : Nat → Nat → List ViewOffer
  | _, 0 => []
  | i, n + 1 =>
    { kind := (byteAt b i).extractLsb' 6 2, openNow := (byteAt b i).getLsbD 5,
      restriction := (byteAt b i).extractLsb' 3 2, cost := byteAt b (i + 1), maxHold := halfAt b (i + 2) }
      :: viewOffersOf b (i + 4) n

/-- R190, R192: the seats, waiting count and offers of an element PRESENCE, or none where its seat or offer count lies
outside 1..4 or it is shorter than its counts require. -/
def elementPresenceOf (b : List Byte) : Option (List ViewSeat × Byte × List ViewOffer) :=
  let seats := (byteAt b 0).toNat
  let offers := (byteAt b (4 * seats + 2)).toNat
  if 1 ≤ seats ∧ seats ≤ 4 ∧ 1 ≤ offers ∧ offers ≤ 4 ∧ 3 + 4 * seats + 4 * offers ≤ b.length then
    some (viewSeatsOf b 1 seats, byteAt b (4 * seats + 1), viewOffersOf b (4 * seats + 3) offers)
  else none

end Sys2Proof.Machine
end

