-- ==== Sys2Proof/Machine/Transmit.lean ====
section
/-! DEFINITION. Placing a frame in the transmit queue (R156 to R158, R160, R161), with the request unit's miss that a
discarded ASK or YIELD causes (R76, R77). -/

namespace Sys2Proof.Machine

/-! ## Requests by element (R73) -/

/-- The request to an element. -/
def State.request (s : State) (e : NodeId) : Option Request := s.req.list.find? fun r => decide (r.element = e)

/-- The request with an element id and a claim number. -/
def State.requestOf (s : State) (e : NodeId) (claim : Byte) : Option Request :=
  s.req.list.find? fun r => decide (r.element = e ∧ r.claim = claim)

/-- The request to an element changed by f. -/
def State.setRequest (e : NodeId) (f : Request → Request) (s : State) : State :=
  s.mapReq fun u => { u with list := u.list.map fun r => if r.element = e then f r else r }

/-- R73, R91: a request ends with one closing notice and leaves the list. -/
def State.closeRequest (r : Request) (kind : NoticeKind) (detail : Half) (s : State) : State :=
  (s.postNotice kind (idByte r.element) r.claim detail).mapReq fun u =>
    { u with list := u.list.filter fun q => !decide (q.element = r.element) }

/-- A reason as a notice's detail. -/
def reasonDetail (r : Reason) : Half := r.code.setWidth 16

/-- R76: the request a frame in the queue was placed for. -/
def QueuedFrame.request (f : QueuedFrame) (s : State) : Option Request :=
  if f.ofRequest then
    match f.body with
    | .ask target claim _ _ _ => s.requestOf target claim
    | .yield target claim => s.requestOf target claim
    | .presence | .answer _ _ _ | .mark _ _ _ | .sanction _ _ _ _ | .turn _ _ _ | .halt | .pattern _ _ => none
  else none

/-- R76: a request's wait is settled or removed. -/
def Request.noWait (r : Request) : Request := { r with deadline := none, waitFrame := none }

/-- R77: what a request does at its final miss. -/
def State.finalMiss (r : Request) (s : State) : State :=
  match r.state with
  | .asking | .waiting => s.closeRequest r .lost 0
  | .seated =>
    (s.setRequest r.element fun q => { q.noWait with renewPending := false }).postNotice .renewDenied
      (idByte r.element) r.claim (reasonDetail .noAnswer)
  | .yielding => s.closeRequest r .ended (reasonDetail .yieldUnconfirmed)

/-- R77: a request's wait on a frame has missed, or the frame was discarded before it was sent (R76); `place` puts a
frame in the transmit queue. -/
def State.missWith (place : QueuedFrame → State → State) (r : Request) (frame : TxBody) (s : State) : State :=
  if r.state = .seated ∧ r.renewPending = false then s.setRequest r.element Request.noWait
  else if 1 ≤ r.tries then
    place { body := frame, ofRequest := true }
      (s.setRequest r.element fun q => { q.noWait with tries := q.tries - 1 })
  else s.finalMiss r

/-! ## The transmit queue -/

/-- R153, R177: whether CD is found high; it is not read in a loopback test. -/
def State.carrier (s : State) : Bool := s.pins.cd && !s.inLoopback

/-- R161: k rises by one, up to 7. -/
def Channel.raiseExponent (c : Channel) : Channel := { c with exponent := min (c.exponent + 1) 7 }

/-- R160: a contention begins when the node sends, nothing is in transmission, none is in progress and the queue holds
a frame. R161: k rises when it begins while CD is high. -/
def State.beginContention (s : State) : State :=
  if s.port.nodeState.sends && s.chan.txFrame.isNone && s.chan.contention.isNone && !s.chan.txQueue.isEmpty then
    s.mapChan fun c =>
      let c := { c with contention := some (Contention.waiting none) }
      if s.carrier then c.raiseExponent else c
  else s

/-- R161: a HALT placed after the draw of a contention in progress makes its slots remaining 0. -/
def Contention.afterHalt (k : Contention) : Contention := { k with slots := k.slots.map fun _ => 0 }

/-- R157: the frame enters the queue with the next place order. -/
def State.enterQueue (f : QueuedFrame) (s : State) : State :=
  (s.mapChan fun c =>
    { c with txQueue := c.txQueue ++ [f],
             contention := if f.body = .halt then c.contention.map Contention.afterHalt else c.contention }).beginContention

/-- R157: the highest class number among waiting frames. -/
def worstClass (q : List QueuedFrame) : Nat := q.foldl (fun m f => max m f.body.urgency) 0

/-- R156: the lowest class number among waiting frames. -/
def bestClass (q : List QueuedFrame) : Nat := q.foldl (fun m f => min m f.body.urgency) 3

/-- R157 case 3: the frame of the highest class number placed latest, and the queue without it. -/
def evictFrom (q : List QueuedFrame) : Option QueuedFrame × List QueuedFrame :=
  let worst (f : QueuedFrame) : Bool := decide (f.body.urgency = worstClass q)
  (q.reverse.find? worst, (q.reverse.eraseP worst).reverse)

/-- R156: the head of the queue in sending order, the lowest class first and within it the frame placed earliest. -/
def headOf (q : List QueuedFrame) : Option QueuedFrame := q.find? fun f => decide (f.body.urgency = bestClass q)

/-- R155: the queue without its head in sending order. -/
def withoutHead (q : List QueuedFrame) : List QueuedFrame := q.eraseP fun f => decide (f.body.urgency = bestClass q)

/-- R172: TX_DROP is counted. -/
def State.countDrop (s : State) : State :=
  s.mapLink fun l => { l with window := { l.window with drop := inc16 l.window.drop } }

/-- R157: a discarded frame is reported to the request it was placed for; `retry` is what that request does. -/
def State.discard (retry : Request → TxBody → State → State) (g : QueuedFrame) (s : State) : State :=
  match g.request s with
  | some r => retry r g.body s
  | none => s

/-- R157 cases 3 and 4: a frame arrives at a full queue. -/
def State.placeFull (retry : Request → TxBody → State → State) (f : QueuedFrame) (s : State) : State :=
  if f.body.urgency < worstClass s.chan.txQueue then
    match evictFrom s.chan.txQueue with
    | (some g, rest) => (((s.mapChan fun c => { c with txQueue := rest }).countDrop).enterQueue f).discard retry g
    | (none, _) => s
  else s.countDrop.discard retry f

/-- R157, R158: place a frame. -/
def State.placeBy (retry : Request → TxBody → State → State) (f : QueuedFrame) (s : State) : State :=
  if s.port.nodeState = .test ∧ f.body.barredInTest = true then s
  else if f.body = .presence ∧ s.chan.txQueue.any (fun g => decide (g.body = .presence)) = true then s
  else if s.chan.txQueue.length < 8 then s.enterQueue f
  else s.placeFull retry f

/-- R157: place a frame. The fuel bounds the resends that a discarded ASK or YIELD draws (R76, R77): each lowers the
request's tries left. -/
def State.placeWith : Nat → QueuedFrame → State → State
  | 0, f, s => s.placeBy (fun _ _ t => t) f
  | n + 1, f, s => s.placeBy (State.missWith (State.placeWith n)) f

/-- R157: place a frame; a request has at most 3 tries left, so 5 levels always suffice. -/
def State.place (f : QueuedFrame) (s : State) : State := s.placeWith 5 f

/-- R77: a request's wait on a frame has missed. -/
def State.miss (r : Request) (frame : TxBody) (s : State) : State := s.missWith State.place r frame

/-- Place a frame that no request waits on. -/
def State.send (body : TxBody) (s : State) : State := s.place { body := body, ofRequest := false }

/-- Place a frame of a request. -/
def State.sendOfRequest (body : TxBody) (s : State) : State := s.place { body := body, ofRequest := true }

/-- Place an ANSWER. -/
def State.answer (player : NodeId) (claim : Byte) (a : AnswerBody) (s : State) : State :=
  s.send (.answer player claim a)

/-- R75, R78, R87: the ASK of a request. -/
def Request.askFrame (r : Request) (renew : Bool) : TxBody := .ask r.element r.claim renew r.offer r.hold

/-! ## The PRESENCE schedule (R159) -/

/-- R159: on entry into RUNNING a PRESENCE is placed and the due time is the present local ms plus P plus a draw. -/
def State.startPresence (s : State) : State :=
  let (t, d) := (s.send .presence).draw 4
  t.mapChan fun c => { c with presenceDue := some (t.localMs + c.presencePeriod + d) }

end Sys2Proof.Machine
end

