-- ==== Sys2Proof/Machine/SeatOps.lean ====
section
/-! DEFINITION. The shared operations of the seat unit, the standing records and the grant arbiter: seat ends (R12),
grants (R5, R46), eligibility (R43, R65), resolution (R44 to R46). -/

namespace Sys2Proof.Machine

/-! ## Seats -/

/-- R3: the claim record of an occupied seat. -/
def Seat.claim? : Seat → Option Claim
  | .guard c _ _ => some c
  | .held c _ _ _ => some c
  | .free | .clearing _ => none

/-- R3: a seat in GUARD or HELD is occupied. -/
def Seat.occupied (x : Seat) : Bool := x.claim?.isSome

/-- The seat of a number, if the table has it. -/
def State.seatAt (s : State) (n : Nat) : Option Seat := s.seat.table[n]?

/-- The seat of a number replaced. -/
def State.setSeat (n : Nat) (x : Seat) (s : State) : State := s.mapSeat fun u => { u with table := u.table.set n x }

/-- R3: whether a player occupies a seat. -/
def Seat.heldBy (p : NodeId) (x : Seat) : Bool :=
  match x.claim? with
  | some c => decide (c.player = p)
  | none => false

/-- The seat number and claim record of a player's occupied seat, looked for from a seat number on. -/
def findSeatOf (p : NodeId) : Nat → List Seat → Option (Nat × Claim)
  | _, [] => none
  | n, x :: rest =>
    match x.claim? with
    | some c => if c.player = p then some (n, c) else findSeatOf p (n + 1) rest
    | none => findSeatOf p (n + 1) rest

/-- R3: a player's occupied seat. -/
def State.seatOf (s : State) (p : NodeId) : Option (Nat × Claim) := findSeatOf p 0 s.seat.table

/-- R46 step 3: the lowest-numbered FREE seat. -/
def firstFree : Nat → List Seat → Option Nat
  | _, [] => none
  | n, x :: rest => if x = .free then some n else firstFree (n + 1) rest

/-- R11: a pulse lasts while its pulse remaining is above 0; at 0 it has ended, though PULSE_END is still to come. -/
def pulseLasts (pulse : Option Nat) : Bool := pulse.any fun remaining => decide (0 < remaining)

/-- R2: the offer of a claim is METERED. -/
def State.metered (s : State) (offer : Nat) : Bool := decide ((s.offer offer).offerKind = some .metered)

/-- R21: the outputs are muted while the link is lost and mute on link loss is on. -/
def State.muted (s : State) : Bool := s.link.lost && s.muteOnLinkLoss

/-- R21: whether seat output line SEAT_OUTn is driven active. -/
def State.seatOut (s : State) (n : Nat) : Bool :=
  match s.seatAt n with
  | some (.held c pulse _ _) =>
    s.isElement && s.port.nodeState.sends && s.running && !s.muted && (!s.metered c.offer || pulseLasts pulse)
  | some .free | some (.guard _ _ _) | some (.clearing _) | none => false

/-- R19: the sense input of a seat is active when it is high; the level is the one last read. -/
def State.senseActive (s : State) (n : Nat) : Bool := s.pins.sense.getLsbD n

/-- R6: the entry to HELD, from GUARD or directly at the grant. -/
def State.enterHeld (s : State) (c : Claim) (silentHeld : Bool) : Seat :=
  .held { c with hold := c.granted,
                 countdown := if s.metered c.offer then (s.offer c.offer).pulsePeriod.toNat else 0 }
    none (if s.senseUse then 300 else 0) silentHeld

/-! ## Standing records and the ring -/

/-- R25: a player's standing record. -/
def State.record (s : State) (p : NodeId) : Option StandingRecord :=
  s.arb.ring.find? fun r => decide (r.player = p)

/-- A player's standing record changed by f. -/
def State.setRecord (p : NodeId) (f : StandingRecord → StandingRecord) (s : State) : State :=
  s.mapArb fun a => { a with ring := a.ring.map fun r => if r.player = p then f r else r }

/-- R50: a player's budget current; 0 where it has no record. -/
def State.budgetOf (s : State) (p : NodeId) : Nat :=
  match s.record p with
  | some r => r.budget
  | none => 0

/-- R52: charge a player's budget current. -/
def State.charge (p : NodeId) (amount : Nat) (s : State) : State :=
  s.setRecord p fun r => { r with budget := r.budget - amount }

/-- R26: a move to tail. -/
def moveToTail (p : NodeId) (ring : List StandingRecord) : List StandingRecord :=
  ring.filter (fun r => !decide (r.player = p)) ++ ring.filter (fun r => decide (r.player = p))

/-- R26: a turn; the records before the named one go, in their order, behind the tail. -/
def turnRing (p : NodeId) (ring : List StandingRecord) : List StandingRecord :=
  ring.dropWhile (fun r => !decide (r.player = p)) ++ ring.takeWhile (fun r => !decide (r.player = p))

/-- R57: the player is benched while its bench remaining is above 0. -/
def StandingRecord.benched (r : StandingRecord) : Bool := decide (0 < r.bench)

/-- R25: whether the peer table holds a SILENT slot for a node. -/
def State.peerSilent (s : State) (p : NodeId) : Bool :=
  match lookupId p s.peers.slots with
  | some x => !x.heard
  | none => false

/-- R25: a new standing record. -/
def State.newRecord (s : State) (p : NodeId) : StandingRecord :=
  { player := p, budget := s.budgetBase, bench := 0, benchEnding := false, ejected := false, silent := s.peerSilent p,
    engagement := .none, lastEnded := none }

/-- R25: the record is created at the tail when the player has none and the ring holds fewer than 24. -/
def State.ensureRecord (p : NodeId) (s : State) : State :=
  if (s.record p).isSome ∨ 24 ≤ s.arb.ring.length then s
  else s.mapArb fun a => { a with ring := a.ring ++ [s.newRecord p] }

/-- R34: the arbiter ignore count rises by one. -/
def State.countArbiterIgnore (s : State) : State :=
  s.mapArb fun a => { a with ignoreCount := inc16 a.ignoreCount }

/-! ## The waiting list -/

/-- R28: a player's waiting entry. -/
def State.entry (s : State) (p : NodeId) : Option Entry := s.arb.waiting.find? fun e => decide (e.player = p)

/-- R30: a player's waiting entry is removed. -/
def State.dropEntry (p : NodeId) (s : State) : State :=
  s.mapArb fun a => { a with waiting := a.waiting.filter fun e => !decide (e.player = p) }

/-- R30: an entry ends with an ANSWER ENDED and the last-ended claim is written (R13). -/
def State.endEntry (e : Entry) (reason : Reason) (s : State) : State :=
  (((s.dropEntry e.player).setRecord e.player fun r =>
    { r with engagement := .none, lastEnded := some (e.claim, reason) })).answer e.player e.claim (.ended reason.code)

/-- R29: the hold of an ASK in ms, clamped against the offer's max hold. -/
def clampHold (units : Half) (maxHold : Half) : Nat :=
  if units = 0 then maxHold.toNat else min (units.toNat * 100) maxHold.toNat

/-- R40: the players of the waiting entries in the current choosing order. -/
def State.choosingOrder (s : State) : List NodeId :=
  if s.ringMode = .queue then s.arb.waiting.map (·.player)
  else (s.arb.ring.map (·.player)).filter fun p => s.arb.waiting.any fun e => decide (e.player = p)

/-- R40: the WAITING answer for a player: its place in the choosing order, counted from 1, and the count. -/
def State.waitingAnswer (s : State) (p : NodeId) : AnswerBody :=
  .waiting (BitVec.ofNat 8 (s.choosingOrder.idxOf p + 1)) (BitVec.ofNat 8 s.arb.waiting.length)

/-! ## Partner rules (R65) -/

/-- A view's seat is in GUARD or HELD. -/
def ViewSeat.occupied (v : ViewSeat) : Bool := decide (v.state = 1 ∨ v.state = 2)

/-- R65: whether a partner rule is satisfied for a player. -/
def PartnerView.satisfiedFor (v : PartnerView) (p : NodeId) : Bool :=
  !v.silent &&
    match v.rule with
    | .exclusive => !v.seats.any ViewSeat.occupied
    | .companion => v.seats.any fun x => decide (x.holder = some p ∧ x.state = 2)

/-! ## Eligibility and resolution -/

/-- R43: whether a waiting entry is eligible. -/
def State.eligible (s : State) (e : Entry) : Bool :=
  match s.record e.player with
  | none => false
  | some r =>
    !r.benched && !r.ejected && !r.silent && decide ((s.offer e.offer).cost.toNat ≤ r.budget)
      && (s.offer e.offer).openIn s.phase.phase && s.views.all fun v => v.satisfiedFor e.player

/-- R44: the grant gate. -/
def State.gateOpen (s : State) : Bool :=
  s.isElement && decide (s.port.nodeState = .running) && s.running
    && decide (s.time.align = .locked ∨ s.time.align = .holdover) && !s.link.lost && !s.link.txFault

/-- R46 step 3: the entry chosen by the ring mode. -/
def State.chosen (s : State) : Option Entry :=
  if s.ringMode = .queue then s.arb.waiting.find? s.eligible
  else (s.arb.ring.filterMap fun r => s.entry r.player).find? s.eligible

/-- R5: the claim record a grant fills. The spec sets the pulse countdown at the entry to HELD (R6) and gives it no value in
GUARD; there it is 0 (DESIGN CHOICE, unsafe, log entry 33). -/
def State.claimFor (s : State) (e : Entry) : Claim :=
  { player := e.player, number := e.claim, offer := e.offer, granted := e.hold, hold := e.hold, mark := s.fieldMs16,
    countdown := 0, renews := 0 }

/-- R5 step 2: the seat a grant enters. -/
def State.grantedSeat (s : State) (e : Entry) : Seat :=
  if s.seat.guardTime = 0 then s.enterHeld (s.claimFor e) false else .guard (s.claimFor e) s.seat.guardTime false

/-- R46 steps 4 to 9: one grant of seat n to an entry. -/
def State.grant (n : Nat) (e : Entry) (s : State) : State :=
  let mark := s.fieldMs16
  let s1 := ((s.dropEntry e.player).charge e.player (s.offer e.offer).cost.toNat).setSeat n (s.grantedSeat e)
  let s2 := s1.postNotice .seatGranted (idByte e.player) e.claim (BitVec.ofNat 16 e.hold)
  let s3 := s2.setRecord e.player fun r => { r with engagement := .seated n }
  let s4 := if s.ringMode = .rotateOnGrant then s3.mapArb fun a => { a with ring := moveToTail e.player a.ring } else s3
  s4.answer e.player e.claim (.granted (BitVec.ofNat 8 n) (BitVec.ofNat 16 e.hold) mark)

/-- R46: the passes of a resolution; each grants one FREE seat. -/
def State.resolvePasses : Nat → State → State
  | 0, s => s
  | fuel + 1, s =>
    if s.gateOpen then
      match firstFree 0 s.seat.table, s.chosen with
      | some n, some e => (s.grant n e).resolvePasses fuel
      | _, _ => s
    else s

/-- R46: a resolution grants at most as many seats as the table has. -/
def State.resolve (s : State) : State := s.resolvePasses s.seat.table.length

/-! ## Seat ends (R12) -/

/-- R12 step 6, R15: what a seat enters at its end. -/
def State.endedSeat (s : State) : Seat := if s.clearingTime = 0 then .free else .clearing s.clearingTime

/-- R12: an occupied seat ends for a reason; a seat that is not occupied is left as it is (R14). -/
def State.endSeat (n : Nat) (reason : Reason) (s : State) : State :=
  match (s.seatAt n).bind Seat.claim? with
  | none => s
  | some c =>
    let s1 := s.setRecord c.player fun r =>
      { r with engagement := .none, lastEnded := some (c.number, reason) }
    let s2 := if reason = .matchEnd then s1 else s1.answer c.player c.number (.ended reason.code)
    let s3 := if reason ≠ .matchEnd ∧ s.ringMode = .rotateOnRelease then
        s2.mapArb fun a => { a with ring := moveToTail c.player a.ring } else s2
    (s3.postNotice .seatEnded (idByte c.player) c.number (reasonDetail reason)).setSeat n s.endedSeat

/-- R12 with R15: a seat ends, and when it turns FREE at once a resolution starts. -/
def State.endSeatAndResolve (n : Nat) (reason : Reason) (s : State) : State :=
  let t := s.endSeat n reason
  if s.clearingTime = 0 ∧ ((s.seatAt n).bind Seat.claim?).isSome then t.resolve else t

/-- R16, R17, R66, R67: every occupied seat that meets a test ends for a reason, from the seat n upward. -/
def State.endSeatsWhere (test : State → Nat → Claim → Bool) (reason : Reason) : List Nat → State → State
  | [], s => s
  | n :: rest, s =>
    let t := match (s.seatAt n).bind Seat.claim? with
      | some c => if test s n c then s.endSeat n reason else s
      | none => s
    t.endSeatsWhere test reason rest

/-- The seat numbers of the table, from 0 upward. -/
def State.seatNumbers (s : State) : List Nat := List.range s.seat.table.length

end Sys2Proof.Machine
end

