-- ==== Sys2Proof/Machine/PhaseOps.lean ====
section
/-! DEFINITION. The phase unit's operations: marks (R117 to R121), their kinds and deliveries (R122 to R125), the halt
latch (R127 to R131), and the end of a test (R174). -/

namespace Sys2Proof.Machine

/-! ## Deliveries of a phase change -/

/-- R90: every request in the list ends, in list order, each with one notice. -/
def State.endRequests (kind : NoticeKind) (detail : Half) : List Request → State → State
  | [], s => s
  | r :: rest, s => (s.closeRequest r kind detail).endRequests kind detail rest

/-- R90: every request ends. -/
def State.endAllRequests (kind : NoticeKind) (detail : Half) (s : State) : State :=
  s.endRequests kind detail s.req.list

/-- R174: what both ends of a test do: RUNNING, no test kind, no schedule, and a PRESENCE at once. A contention in progress
keeps k, its gap and its slots when CD, read again after a loopback test, is found high (DESIGN CHOICE, unsafe, log
entry 35). -/
def State.endTest (cause : EndCause) (s : State) : State :=
  ((s.mapPort fun p => { p with nodeState := .running }).mapLink fun l =>
    { l with testKind := none, patternDue := none, insertPending := false, remaining := 2000,
             record := { l.record with endCause := some cause } }).startPresence

/-- R16: every occupied seat whose offer is not open in the new phase ends with PHASE_CLOSED. -/
def State.closeSeats (s : State) : State :=
  s.endSeatsWhere (fun t _ c => !(t.offer c.offer).openIn t.phase.phase) .phaseClosed s.seatNumbers

/-- R51: at an entry into a reload phase every record's budget current becomes B. -/
def State.reload (s : State) : State :=
  if phaseSetHas s.port.cfg.reloadPhases s.phase.phase then
    s.mapArb fun a => { a with ring := a.ring.map fun r => { r with budget := s.budgetBase } }
  else s

/-- R33: at entry into ENDED the waiting list is emptied without answers and each engagement becomes none. -/
def State.emptyWaiting (s : State) : State :=
  s.mapArb fun a =>
    { a with waiting := [],
             ring := a.ring.map fun r =>
               if a.waiting.any fun e => decide (e.player = r.player) then { r with engagement := .none } else r }

/-- R18, R27, R33, R90: match reset at an element and at a player. -/
def State.matchReset (s : State) : State :=
  let s1 := s.mapSeat fun u => { u with table := u.table.map fun _ => Seat.free }
  let s2 := s1.mapArb fun a => { a with waiting := [], ring := [] }
  (s2.endAllRequests .ended (reasonDetail .matchEnd)).mapReq fun u =>
    { u with bench := 0, benchEnding := false, ejected := false }

/-- R17, R33, R90: the end of the match. -/
def State.matchEnd (s : State) : State :=
  ((s.endSeatsWhere (fun _ _ _ => true) .matchEnd s.seatNumbers).emptyWaiting).endAllRequests .ended
    (reasonDetail .matchEnd)

/-- R174: an entry or resume ends the TEST state, of every kind: R177 says that a loopback test cannot end so, but a mark
pending from before it, or of the node's own referee unit, still does (DESIGN CHOICE, unsafe, log entry 37). -/
def State.endTestByPhase (s : State) : State := if s.port.nodeState = .test then s.endTest .phase else s

/-! ## Marks -/

/-- R122: the kinds of an applied mark. -/
inductive MarkKind where
  | confirming | pause | resume | entry | finish | matchReset
  deriving DecidableEq, Repr

/-- R122: the kind of a mark, judged from the phase before, the paused phase and the mark's phase. -/
def markKind (before left new : Phase) : MarkKind :=
  if new = before then .confirming
  else match new with
    | .paused => .pause
    | .ended => .finish
    | .prematch => .matchReset
    | .autonomous | .driver | .endgame => if before = .paused ∧ left = new then .resume else .entry

/-- R122: the paused phase after a mark. -/
def pausedAfter (kind : MarkKind) (before left : Phase) : Phase :=
  match kind with
  | .pause => before
  | .matchReset => .prematch
  | .confirming | .resume | .entry | .finish => left

/-- R131: whether an applied mark clears the halt latch. -/
def State.haltQuiet (s : State) : Bool :=
  !s.phase.stop && !s.phase.haltSending &&
    match s.phase.lastHalt with
    | none => true
    | some t => decide (250000 ≤ s.time.ft - t)

/-- R131: the halt-clearing test of an applied mark. -/
def State.clearLatch (s : State) : State :=
  if s.phase.latch && s.haltQuiet then (s.mapPhase fun p => { p with latch := false }).setFlag .haltChanged else s

/-- R123 to R125: the deliveries of an applied mark. -/
def State.deliver (kind : MarkKind) (s : State) : State :=
  match kind with
  | .confirming | .pause => s
  | .resume => (s.endTestByPhase).closeSeats
  | .entry => (s.endTestByPhase).closeSeats.reload
  | .finish => s.matchEnd
  | .matchReset => s.matchReset

/-- R121 steps 2 to 4: the seq, the phase, the current mark and the emptied slot. -/
def PhaseUnit.adopt (u : PhaseUnit) (seq : Byte) (new : Phase) (carried : Option Quad) : PhaseUnit :=
  { u with pausedPhase := pausedAfter (markKind u.phase u.pausedPhase new) u.phase u.pausedPhase, seq := seq,
           phase := new, fresh := false, currentPhase := new, currentCarried := carried, pending := none }

/-- R121: an applied mark. One resolution follows an entry, a resume, or a cleared latch in a running phase (R45,
R123, R131). -/
def State.applyMark (seq : Byte) (new : Phase) (carried : Option Quad) (s : State) : State :=
  let kind := markKind s.phase.phase s.phase.pausedPhase new
  let s1 := s.mapPhase fun u => u.adopt seq new carried
  let s2 := s1.clearLatch
  let s3 := if new ≠ s.phase.phase then s2.setFlag .phaseChanged else s2
  let s4 := s3.deliver kind
  let released := s.phase.latch && !s2.phase.latch && new.isRunningPhase
  if kind = .entry ∨ kind = .resume ∨ released = true then s4.resolve else s4

/-- R118: a count of the phase unit rises by one. -/
def State.countMarkIgnore (s : State) : State := s.mapPhase fun u => { u with ignoreCount := inc16 u.ignoreCount }

/-- R121: while the phase is ENDED only a mark to PREMATCH is applied. -/
def allowedIn (now new : Phase) : Bool := decide (now ≠ .ended ∨ new = .prematch)

/-- R120, R121: the pending mark is applied, or refused and removed, once FT is at or beyond its boundary. -/
def State.testPending (s : State) : State :=
  match s.phase.pending with
  | none => s
  | some m =>
    if s.time.ft < m.boundary then s
    else if allowedIn s.phase.phase m.phase then s.applyMark m.seq m.phase (some m.carried)
    else (s.mapPhase fun u => { u with pending := none }).countMarkIgnore

/-- R117: whether a phase seq is newer than the node's. -/
def State.seqNewer (s : State) (seq : Byte) : Bool := if s.phase.fresh then decide (seq ≠ 0) else newer seq s.phase.seq

/-- R118, R126: whether a phase seq is newer than the pending mark's, or there is none. -/
def State.newerThanPending (s : State) (seq : Byte) : Bool :=
  match s.phase.pending with
  | none => true
  | some m => newer seq m.seq

/-- The distance between two field times. -/
def distance (a b : Nat) : Nat := (a - b) + (b - a)

/-- R119: the boundary nearest the present FT whose low 32 bits equal the carried value; of two equally near, the
later. -/
def rebuildBoundary (ft : Nat) (carried : Quad) : Nat :=
  let same := ft / 2 ^ 32 * 2 ^ 32 + carried.toNat
  let below := if 2 ^ 32 ≤ same then [same - 2 ^ 32] else []
  let above := if same + 2 ^ 32 ≤ ftMax then [same + 2 ^ 32] else []
  (below ++ [same] ++ above).foldl (fun best c => if distance c ft ≤ distance best ft then c else best)
    (if 2 ^ 32 ≤ same then same - 2 ^ 32 else same)

/-- R119, R120: a MARK is taken, and applied at once when its boundary has passed. -/
def State.takeMark (seq : Byte) (new : Phase) (carried : Quad) (s : State) : State :=
  (s.mapPhase fun u =>
    { u with pending := some { seq := seq, phase := new, boundary := rebuildBoundary s.time.ft carried,
                               carried := carried } }).testPending

/-- R118: a conflicting mark is discarded. -/
def State.markConflict (s : State) : State :=
  (s.mapPhase fun u => { u with conflictCount := inc16 u.conflictCount }).setFlag .markConflict

/-- R118: a MARK whose seq is not the pending mark's is judged against the current mark, at a fresh node too, where that is
the one of reset (log entry 38). -/
def State.judgeCurrent (seq : Byte) (new : Phase) (carried : Quad) (s : State) : State :=
  if seq = s.phase.seq then
    if new = s.phase.currentPhase ∧ (s.phase.currentCarried = none ∨ s.phase.currentCarried = some carried) then s
    else s.markConflict
  else s.countMarkIgnore

/-- R118: a MARK from a REFEREE is judged against the pending mark and the current mark. -/
def State.judgeMark (seq : Byte) (new : Phase) (carried : Quad) (s : State) : State :=
  if s.seqNewer seq && s.newerThanPending seq then s.takeMark seq new carried
  else match s.phase.pending with
    | some m =>
      if seq = m.seq then (if new = m.phase ∧ carried = m.carried then s else s.markConflict)
      else s.judgeCurrent seq new carried
    | none => s.judgeCurrent seq new carried

/-! ## The halt latch -/

/-- R127: the halt latch is set; HALT_CHANGED only when it was clear. -/
def State.setLatch (s : State) : State :=
  if s.phase.latch then s else (s.mapPhase fun u => { u with latch := true }).setFlag .haltChanged

/-- R128: the last-HALT time becomes the present FT. -/
def State.noteHalt (s : State) : State := s.mapPhase fun u => { u with lastHalt := some s.time.ft }

/-- R130: at a due time one HALT is placed, in RUNNING and TEST, unless one of the node's still waits. -/
def State.placeHalt (s : State) : State :=
  if s.port.nodeState.sends && !s.chan.txQueue.any (fun f => decide (f.body = .halt)) then s.send .halt else s

/-- R130: the HALT schedule begins, its first HALT due now, unless it already runs. -/
def State.beginHaltSchedule (s : State) : State :=
  if s.phase.haltDue.isSome then s
  else (s.mapPhase fun u => { u with haltDue := some (s.localMs + 20) }).placeHalt

/-- R130: the HALT schedule stops when the STOP state is inactive and halt sending is off. -/
def State.settleHaltSchedule (s : State) : State :=
  if s.phase.stop || s.phase.haltSending then s else s.mapPhase fun u => { u with haltDue := none }

/-- R129: the STOP state becomes active: the latch is set and the HALT schedule begins. -/
def State.activateStop (s : State) : State :=
  ((s.mapPhase fun u => { u with stop := true }).setLatch).beginHaltSchedule

/-- R129, R128: the STOP state becomes inactive. -/
def State.deactivateStop (s : State) : State :=
  ((s.mapPhase fun u => { u with stop := false }).noteHalt).settleHaltSchedule

end Sys2Proof.Machine
end

