-- ==== Sys2Proof/Machine/TimeOps.lean ====
section
/-! DEFINITION. Field time: the counting of field ms boundaries (R7, R96), the trim (R97, R98), the reference (R99 to
R102), samples and corrections (R106 to R109). -/

namespace Sys2Proof.Machine

/-! ## Counting field ms boundaries -/

/-- R7: a seat's counters after k field ms boundaries; hold remaining and pulse countdown count only while running, the
sense release only while the input is read inactive and the seat is not held for a silent holder (R19, R20). -/
def State.countSeat (s : State) (k n : Nat) (x : Seat) : Seat :=
  match x with
  | .free => .free
  | .guard c r h => .guard c (r - k) h
  | .clearing r => .clearing (r - k)
  | .held c pulse release h =>
    .held (if s.running then { c with hold := c.hold - k, countdown := c.countdown - k } else c)
      (pulse.map fun p => p - k)
      (if s.senseUse && !h && !s.senseActive n then release - k else release) h

/-- R58: a bench after k boundaries while running; its end is due when it reaches 0 by counting. -/
def StandingRecord.count (k : Nat) (r : StandingRecord) : StandingRecord :=
  { r with bench := r.bench - k, benchEnding := r.benchEnding || decide (0 < r.bench ∧ r.bench ≤ k) }

/-- R83: a SEATED request's hold countdown, or its margin, after k boundaries while running. -/
def Request.countDown (k : Nat) (r : Request) : Request :=
  if r.state = .seated then
    match r.margin with
    | none => { r with countdown := r.countdown - k }
    | some m => { r with margin := some (m - k) }
  else r

/-- R83, R89: the request unit's field ms counters after k boundaries while running. -/
def RequestUnit.count (k : Nat) (u : RequestUnit) : RequestUnit :=
  { u with bench := u.bench - k, benchEnding := u.benchEnding || decide (0 < u.bench ∧ u.bench ≤ k),
           list := u.list.map (Request.countDown k) }

/-- R96: every counting counter falls by the boundaries crossed. -/
def State.countField (k : Nat) (s : State) : State :=
  let s1 := s.mapSeat fun u => { u with table := u.table.mapIdx (s.countSeat k) }
  let s2 := s1.mapTime fun t => { t with holdover := t.holdover - k }
  if s.running then
    (s2.mapArb fun a => { a with ring := a.ring.map (StandingRecord.count k) }).mapReq (RequestUnit.count k)
  else s2

/-- R154: a movement of FT during the sync word of a frame being sent changes its stamp; whether the movement comes
before that instant is a free value (log entry 6). For a frame of a loopback test SYNC_WORD_FOUND marks that instant
(R177), so nothing is free. -/
def State.restamp (s : State) : State :=
  match s.chan.txFrame with
  | none => s
  | some f =>
    if f.stampOpen && !f.looped then
      { (s.mapChan fun c =>
          { c with txFrame := some { f with header := { f.header with
              stamp := (if Config.freeBeforeSync s.freeIndex then s.ftStamp else f.header.stamp) } } }) with
        freeIndex := s.freeIndex + 1 }
    else s

/-- R94, R96: FT moves to a value no smaller, and the boundaries crossed are counted. -/
def State.moveFt (ft : Nat) (s : State) : State :=
  let k := ft / 1000 - s.time.ft / 1000
  ((s.countField k).mapTime fun t => { t with ft := ft }).restamp

/-- R94: FT raised by d, held at 2^40 - 1. -/
def State.raiseFt (d : Nat) (s : State) : State := s.moveFt (min (s.time.ft + d) ftMax)

/-! ## Trim -/

/-- R97: a value clamped into -512..+511. -/
def clampTrim (v : Int) : Int := max (-512) (min 511 v)

/-- R98: the alarm is declared while T is -510 or below, or 509 or above. -/
def trimAlarm (t : Int) : Bool := decide (t ≤ -510 ∨ 509 ≤ t)

/-- R97, R98: T is written and the alarm judged; a change of the alarm sets TRIM_LIMIT. -/
def State.writeTrim (v : Int) (s : State) : State :=
  let t := clampTrim v
  let s1 := s.mapTime fun x => { x with trim := t, alarm := trimAlarm t }
  if trimAlarm t = s.time.alarm then s1 else s1.setFlag .trimLimit

/-! ## Align state and reference -/

/-- R103: a change of align state, or a new reference, with its level and cause. -/
def State.setAlign (a : AlignState) (level : Nat) (cause : AlignCause) (s : State) : State :=
  (s.mapTime fun t => { t with align := a, level := level, lastCause := cause }).setFlag .alignChanged

/-- R99: a peer slot that makes its node a candidate for reference. -/
def PeerSlot.candidate (p : PeerSlot) : Bool :=
  p.heard && decide (p.align = 2 ∨ p.align = 3) && decide (p.level.toNat ≤ 5)

/-- R99: whether a node is a candidate. -/
def State.candidate (s : State) (id : NodeId) : Bool :=
  match lookupId id s.peers.slots with
  | some p => p.candidate
  | none => false

/-- R99: the level recorded for a node; 7 where its slot is absent. -/
def State.recordedLevel (s : State) (id : NodeId) : Nat :=
  match lookupId id s.peers.slots with
  | some p => p.level.toNat
  | none => 7

/-- R99: the candidate with the lowest level, among equal levels the lowest id; the slots stand by rising id. -/
def bestCandidate : List (NodeId × PeerSlot) → Option (NodeId × Nat)
  | [] => none
  | (id, p) :: rest =>
    match bestCandidate rest with
    | none => if p.candidate then some (id, p.level.toNat) else none
    | some (j, l) => if p.candidate ∧ p.level.toNat ≤ l then some (id, p.level.toNat) else some (j, l)

/-- R101: the present reference is lost. -/
def State.referenceLost (s : State) : State :=
  let s1 := s.mapTime fun t => { t with reference := none, lockCount := 0 }
  match s.time.align with
  | .locked => (s1.mapTime fun t => { t with holdover := 10000 }).setAlign .holdover s.time.level .referenceLost
  | .acquiring => s1.setAlign .unaligned 7 .referenceLost
  | .unaligned | .holdover | .source => s1

/-- R100: whether a candidate's header causes a reference to be chosen. -/
def State.choosesAt (s : State) (sender : NodeId) : Bool :=
  match s.time.align with
  | .unaligned => true
  | .acquiring | .locked =>
    match s.time.reference with
    | some r => decide (s.recordedLevel sender < s.recordedLevel r)
    | none => false
  | .holdover => decide (s.recordedLevel sender < s.time.level)
  | .source => false

/-- R100: the cause recorded at a choice. -/
def choiceCause (a : AlignState) : AlignCause :=
  match a with
  | .acquiring | .locked => .referenceBetter
  | .unaligned | .holdover | .source => .referenceChosen

/-- R100: a reference is chosen. -/
def State.chooseReference (id : NodeId) (s : State) : State :=
  (s.mapTime fun t => { t with reference := some id, lockCount := 0, holdover := 0 }).setAlign .acquiring 7
    (choiceCause s.time.align)

/-! ## Samples -/

/-- R106: the offset e. -/
def State.offsetOf (s : State) (sender local_ : Quad) : Int := (sender + s.port.cfg.linkDelay.setWidth 32 - local_).toInt

/-- R107, R108: FT is raised, and a pending mark whose boundary it has reached is applied within the step (R120). -/
def State.correctForward (d : Nat) (s : State) : State := (s.raiseFt d).testPending

/-- R107, R108: a correction by a signed amount: forward raises FT, backward sets the stall remainder. -/
def State.correctBy (e : Int) (s : State) : State :=
  if 0 < e then s.correctForward e.toNat
  else if e < 0 then s.mapTime fun t => { t with stall := (-e).toNat }
  else s

/-- R108: the trim update of a slew sample, made in TRACK only. -/
def State.trimUpdate (e : Int) (s : State) : State :=
  let d := max (-8) (min 8 (e.tdiv 16))
  if s.time.mode = .track ∧ d ≠ 0 then s.writeTrim (s.time.trim + d) else s

/-- R109: a sample inside the lock window is a SLEW of at most 250 µs. -/
def insideWindow (e : Int) (kind : SampleKind) : Bool := decide (kind = .slew ∧ e.natAbs ≤ 250)

/-- R109: the lock count and the align state after a sample; LOCKED starts a resolution (R45). -/
def State.followLock (inside : Bool) (ref : NodeId) (s : State) : State :=
  match s.time.align with
  | .acquiring =>
    if inside then
      let n := s.time.lockCount + 1
      let s1 := s.mapTime fun t => { t with lockCount := n }
      if 4 ≤ n then (s1.setAlign .locked (s.recordedLevel ref + 1) .lockReached).resolve else s1
    else s.mapTime fun t => { t with lockCount := 0 }
  | .locked =>
    if inside then s
    else (s.mapTime fun t => { t with lockCount := 0 }).setAlign .acquiring 7 .lockLost
  | .unaligned | .holdover | .source => s

/-- R106: a sample is taken. -/
def State.takeSample (ref : NodeId) (sender local_ : Quad) (s : State) : State :=
  let e := s.offsetOf sender local_
  let kind : SampleKind := if s.time.stepLimit < e.natAbs then .step else .slew
  let s1 := s.mapTime fun t => { t with stall := 0, lastSample := some { offset := e, kind := kind } }
  let s2 := match kind with
    | .step => s1.correctBy e
    | .slew => (s1.correctBy (e.tdiv 4)).trimUpdate e
  s2.followLock (insideWindow e kind) ref

/-- R102: while LOCKED the level follows each header from the reference. -/
def State.followLevel (ref : NodeId) (s : State) : State :=
  if s.time.align = .locked then s.mapTime fun t => { t with level := s.recordedLevel ref + 1 } else s

/-- R165 stage 3: reference choice, loss and sampling for a header of a sender (R100, R101, R106). -/
def State.timeStage (sender : NodeId) (senderStamp localStamp : Quad) (s : State) : State :=
  if s.time.align = .source ∨ s.time.mode = .fixed then s
  else if s.time.reference = some sender then
    if s.candidate sender then (s.followLevel sender).takeSample sender senderStamp localStamp else s.referenceLost
  else if s.candidate sender && s.choosesAt sender then
    match bestCandidate s.peers.slots with
    | none => s
    | some (id, _) =>
      let t := s.chooseReference id
      if id = sender then t.takeSample sender senderStamp localStamp else t
  else s

/-! ## The local ms (R95) -/

/-- R95: the advance a of this local ms and the new fraction. -/
def FieldTime.advance (t : FieldTime) : Nat × Nat :=
  let f := ((t.fraction : Int) + 256000 + t.trim).toNat
  (f / 256, f % 256)

/-- R95: FT and the stall remainder after this local ms. -/
def FieldTime.ftAfter (t : FieldTime) : Nat × Nat :=
  let a := t.advance.1
  if t.stall = 0 then (min (t.ft + a) ftMax, 0)
  else if a ≤ t.stall then (t.ft, t.stall - a)
  else (min (t.ft + (a - t.stall)) ftMax, 0)

/-- R19: a HELD seat whose sense input is read active has its sense release counter set to 300. -/
def State.readSense (s : State) : State :=
  if s.senseUse then
    s.mapSeat fun u =>
      { u with table := u.table.mapIdx fun n x =>
          match x with
          | .held c pulse release h => .held c pulse (if s.senseActive n then 300 else release) h
          | .free => .free
          | .guard c r h => .guard c r h
          | .clearing r => .clearing r }
  else s

/-- R147: the silence remaining of a HEARD slot counts down. -/
def PeerSlot.countSilence (p : PeerSlot) : PeerSlot := if p.heard then { p with silence := p.silence - 1 } else p

/-- R147, R172: the counters of local ms that count in LISTENING, RUNNING and TEST. -/
def State.countShared (s : State) : State :=
  (s.mapPeers fun p => { p with slots := p.slots.map fun x => (x.1, x.2.countSilence) }).mapLink fun l =>
    { l with elapsed := min (l.elapsed + 1) l.windowLength }

/-- R147, R168, R172, R186: the counters of local ms. The link remaining counts also while the link is lost, which shows
only after the end of a test has set it to 2,000 (DESIGN CHOICE, unsafe, log entry 36). -/
def State.countLocal (s : State) : State :=
  match s.port.nodeState with
  | .config => s
  | .listening =>
    (s.countShared.mapLink fun l => { l with remaining := l.remaining - 1 }).mapPort fun p =>
      { p with listenRemaining := p.listenRemaining - 1 }
  | .running => s.countShared.mapLink fun l => { l with remaining := l.remaining - 1 }
  | .test => s.countShared

/-- R154: the sync word of a frame lasts less than a local ms, so its stamp stands after the first local ms; the stamp of
a frame of a loopback test stands at SYNC_WORD_FOUND (R177), whatever local ms pass before it. -/
def State.closeStamp (s : State) : State :=
  s.mapChan fun c => { c with txFrame := c.txFrame.map fun f => { f with stampOpen := f.stampOpen && f.looped } }

/-- R95: one local ms. -/
def State.localTick (sense : BitVec 4) (s : State) : State :=
  let s1 := { (s.mapPins fun p => { p with sense := sense }) with localMs := s.localMs + 1 }
  let s2 := s1.readSense.countLocal
  let (ft, stall) := s2.time.ftAfter
  ((s2.moveFt ft).mapTime fun t => { t with fraction := s2.time.advance.2, stall := stall }).closeStamp

end Sys2Proof.Machine
end

