-- ==== Sys2Proof/Machine/PeerOps.lean ====
section
/-! DEFINITION. Partner views (R62 to R67), the reports of silence and return (R149), and the header stages of dispatch
(R144 to R148, R54, R126, R165). -/

namespace Sys2Proof.Machine

/-! ## Partner views -/

/-- R64: what of a view counts as a change: the silent flag, and each seat's state, holder and grant mark. -/
def PartnerView.face (v : PartnerView) : Bool × List (Byte × Option NodeId × Half) :=
  (v.silent, v.seats.map fun x => (x.state, x.holder, x.mark))

/-- R66: a view shows a player as holder of a seat in GUARD or HELD. -/
def PartnerView.shows (v : PartnerView) (p : NodeId) : Bool :=
  v.seats.any fun x => x.occupied && decide (x.holder = some p)

/-- R66: a COMPANION view ends a player's seat when it is silent or no longer shows the player. -/
def PartnerView.dismisses (v : PartnerView) (p : NodeId) : Bool :=
  decide (v.rule = .companion) && (v.silent || !v.shows p)

/-- R67: this element's mark is later, or equal with the higher id. -/
def yieldsTo (own : NodeId) (mark : Half) (partner : NodeId) (other : Half) : Bool :=
  let d := (mark - other).toNat
  decide ((1 ≤ d ∧ d ≤ 32767) ∨ (d = 0 ∧ partner < own))

/-- R67: an EXCLUSIVE view shows an occupied seat to which this element's seat yields. -/
def State.conflicts (s : State) (c : Claim) : Bool :=
  s.views.any fun v =>
    decide (v.rule = .exclusive) && v.seats.any fun x => x.occupied && yieldsTo s.ownId c.mark v.id x.mark

/-- R64: the work after a change of a partner view: companion losses, conflict yields, a resolution. -/
def State.viewChanged (v : PartnerView) (s : State) : State :=
  let s1 := s.endSeatsWhere (fun _ _ c => v.dismisses c.player) .interlock s.seatNumbers
  (s1.endSeatsWhere (fun t _ c => t.conflicts c) .interlock s1.seatNumbers).resolve

/-- R62 to R64: a partner's view is updated, with the work of R64 when it changes. -/
def State.updateView (id : NodeId) (f : PartnerView → PartnerView) (s : State) : State :=
  match s.views.find? fun v => decide (v.id = id) with
  | none => s
  | some v =>
    let t := s.mapViews fun vs => vs.map fun w => if w.id = id then f w else w
    if (f v).face = v.face then t else t.viewChanged (f v)

/-- R62: the claim number of a seat is kept when the body shows the same holder and grant mark. -/
def keepClaims : List ViewSeat → List ViewSeat → List ViewSeat
  | old :: olds, new :: news =>
    { new with claim := if old.holder = new.holder ∧ old.mark = new.mark then old.claim else none } ::
      keepClaims olds news
  | [], news => news
  | _ :: _, [] => []

/-- R62: a PRESENCE body replaces the seat list. -/
def PartnerView.takePresence (seats : List ViewSeat) (now : Nat) (v : PartnerView) : PartnerView :=
  { v with seats := keepClaims v.seats seats, lastHeard := now }

/-- R63: a seat of the view set to CLEARING. -/
def ViewSeat.cleared : ViewSeat := { state := 3, holder := none, mark := 0, claim := none }

/-- R63: a seat added below n is recorded FREE. -/
def ViewSeat.free : ViewSeat := { state := 0, holder := none, mark := 0, claim := none }

/-- R63: any other seat of the player is cleared and seat n becomes GUARD. -/
def PartnerView.grantSeat (v : PartnerView) (p : NodeId) (claim : Byte) (n : Nat) (mark : Half) : PartnerView :=
  let cleared := v.seats.map fun x => if x.holder = some p then ViewSeat.cleared else x
  let padded := cleared ++ List.replicate (n + 1 - cleared.length) ViewSeat.free
  { v with seats := padded.set n { state := 1, holder := some p, mark := mark, claim := some claim } }

/-- R63: an overheard GRANTED. -/
def PartnerView.takeGranted (p : NodeId) (claim : Byte) (n : Nat) (mark : Half) (v : PartnerView) : PartnerView :=
  let same (x : ViewSeat) : Bool := x.occupied && decide (x.holder = some p ∧ x.mark = mark)
  match v.seats[n]? with
  | some x =>
    if same x then { v with seats := v.seats.set n { x with claim := some claim } } else v.grantSeat p claim n mark
  | none => v.grantSeat p claim n mark

/-- R63: an overheard ENDED with a reason other than WITHDRAWN and STALE. -/
def PartnerView.takeEnded (p : NodeId) (claim reason : Byte) (v : PartnerView) : PartnerView :=
  if reason = Reason.withdrawn.code ∨ reason = Reason.stale.code then v
  else { v with seats := v.seats.map fun x =>
    if x.holder = some p ∧ x.claim = some claim then ViewSeat.cleared else x }

/-- R63: an overheard ANSWER of a partner. -/
def PartnerView.takeAnswer (p : NodeId) (claim : Byte) (a : AnswerBody) (now : Nat) (v : PartnerView) : PartnerView :=
  let v1 := { v with lastHeard := now }
  match a with
  | .granted seat _ mark => v1.takeGranted p claim seat.toNat mark
  | .ended reason => v1.takeEnded p claim reason
  | .waiting _ _ | .refused _ | .renewed _ | .renewDenied _ => v1

/-! ## Reports of silence and return (R149) -/

/-- R20: a seat becomes or ceases to be held for a silent holder. -/
def Seat.withSilentHeld (p : NodeId) (b : Bool) (x : Seat) : Seat :=
  match x with
  | .guard c r h => .guard c r (if c.player = p then b else h)
  | .held c pulse release h => .held c pulse release (if c.player = p then b else h)
  | .free => .free
  | .clearing r => .clearing r

/-- R20: the seat unit at a SILENT report: the holder's seat ends SILENT, or is held for a silent holder. -/
def State.seatsOnSilent (id : NodeId) (s : State) : State :=
  (s.endSeatsWhere (fun t n c => decide (c.player = id) && (!t.senseUse || !t.senseActive n)) .silent
    s.seatNumbers).mapSeat fun u => { u with table := u.table.map (Seat.withSilentHeld id true) }

/-- R32: the arbiter at a SILENT report. -/
def State.arbiterOnSilent (id : NodeId) (s : State) : State :=
  match s.record id with
  | none => s
  | some _ =>
    let waits := (s.entry id).isSome
    (s.dropEntry id).setRecord id fun r =>
      { r with silent := true, engagement := if waits then .none else r.engagement }

/-- R71: the silent flag of an element view's entry. -/
def State.markView (id : NodeId) (silent : Bool) (s : State) : State :=
  s.mapReq fun u => { u with view := u.view.map fun x => if x.1 = id then (x.1, { x.2 with silent := silent }) else x }

/-- R71, R88: the request unit at a SILENT report. -/
def State.requestsOnSilent (id : NodeId) (s : State) : State :=
  let t := s.markView id true
  match t.request id with
  | some r => t.closeRequest r .ended (reasonDetail .elementLost)
  | none => t

/-- R54: a slot's last order seq becomes absent when its referee is declared SILENT. -/
def State.refereesOnSilent (id : NodeId) (s : State) : State :=
  s.mapPeers fun p => { p with referees := p.referees.map fun r => if r.id = id then { r with lastSeq := none } else r }

/-- R149: a SILENT report, block by block; a seat made FREE starts a resolution (R45). -/
def State.reportSilent (id : NodeId) (s : State) : State :=
  let freed := decide (s.clearingTime = 0) &&
    match s.seatOf id with
    | some (n, _) => !s.senseUse || !s.senseActive n
    | none => false
  let s1 := if s.time.reference = some id then s.referenceLost else s
  let s2 := (s1.seatsOnSilent id).arbiterOnSilent id
  let s3 := s2.updateView id fun v => { v with silent := true }
  let s4 := (s3.requestsOnSilent id).refereesOnSilent id
  if freed then s4.resolve else s4

/-- R32: the arbiter at a HEARD report: a set silent flag is cleared and a resolution starts. -/
def State.arbiterOnHeard (id : NodeId) (s : State) : State :=
  match s.record id with
  | some r => if r.silent then (s.setRecord id fun q => { q with silent := false }).resolve else s
  | none => s

/-- R149: a HEARD report, block by block. -/
def State.reportHeard (id : NodeId) (s : State) : State :=
  let s1 := s.mapSeat fun u => { u with table := u.table.map (Seat.withSilentHeld id false) }
  ((s1.arbiterOnHeard id).updateView id fun v => { v with silent := false }).markView id false

/-! ## Header stages of dispatch -/

/-- R144: the slot a header leaves. -/
def slotFrom (h : Header) (now q frames : Nat) (ad : Option PlayerAd) : PeerSlot :=
  { role := h.role, alliance := h.alliance, level := h.level, align := h.align, halted := h.halted, test := h.test,
    phase := h.phase, seq := h.seq, lastHeard := now, silence := q, heard := true, frames := frames, ad := ad }

/-- A slot of the peer table written. -/
def State.setSlot (id : NodeId) (x : PeerSlot) (s : State) : State :=
  s.mapPeers fun p => { p with slots := insertId id x p.slots }

/-- R54: an empty referee slot is filled by the header of a REFEREE that holds none. -/
def State.fillReferee (h : Header) (s : State) : State :=
  if h.role = 2 ∧ s.peers.referees.length < 2 ∧ s.peers.referees.any (fun r => decide (r.id = h.sender)) = false then
    s.mapPeers fun p => { p with referees := p.referees ++ [{ id := h.sender, lastSeq := none, ad := none }] }
  else s

/-- R145: a changed role or alliance is recorded and flagged. -/
def State.peerChanged (id : NodeId) (s : State) : State :=
  (s.mapPeers fun p => { p with lastChanged := some id }).setFlag .peerChanged

/-- R144, R145, R148: the peer table takes an accepted header. -/
def State.takeHeader (h : Header) (s : State) : State :=
  match lookupId h.sender s.peers.slots with
  | none => (s.setSlot h.sender (slotFrom h s.fieldMs s.peers.silenceTime 1 none)).reportHeard h.sender
  | some p =>
    let s1 := s.setSlot h.sender (slotFrom h s.fieldMs s.peers.silenceTime (inc16 p.frames) p.ad)
    let s2 := if p.role = h.role ∧ p.alliance = h.alliance then s1 else s1.peerChanged h.sender
    if p.heard then s2 else s2.reportHeard h.sender

/-- R144 step 2: a header whose role or alliance names none is rejected. -/
def Header.rejected (h : Header) : Bool := decide (h.role = 3 ∨ h.alliance = 3)

/-- R144: a rejected header is counted. -/
def State.countReject (s : State) : State := s.mapPeers fun p => { p with rejectCount := inc16 p.rejectCount }

/-- R146: an id clash is counted and flagged. -/
def State.idClash (s : State) : State :=
  (s.mapPeers fun p => { p with clashCount := inc16 p.clashCount }).setFlag .idClash

/-- R126: catch-up from a header. -/
def State.catchUp (h : Header) (s : State) : State :=
  match phaseOfCode h.phase.toNat with
  | none => s
  | some new =>
    if s.seqNewer h.seq && s.newerThanPending h.seq && allowedIn s.phase.phase new then s.applyMark h.seq new none
    else s

/-- R165: the dispatcher takes the oldest frame, when it is of a kind: stage 1 (own id, `own` in a loopback test),
stage 2 (peer table and referee slots), stage 3 (field time), stage 4 (catch-up), stage 5 (`body`). -/
def State.dispatch (kind : BitVec 4) (own body : RxFrame → State → State) (s : State) : State :=
  match s.chan.rxQueue with
  | [] => s
  | f :: rest =>
    if f.header.kind = kind then
      let s1 := s.mapChan fun c => { c with rxQueue := rest }
      if f.header.sender = s.ownId then (if s.inLoopback then own f s1 else s1.idClash)
      else if f.header.rejected then s1.countReject
      else
        let s2 := (s1.takeHeader f.header).fillReferee f.header
        body f ((s2.timeStage f.header.sender f.header.stamp f.stamp).catchUp f.header)
    else s

/-- R177: in a loopback test the node's own frames other than PATTERN are discarded without counting. -/
def discardOwn (_f : RxFrame) (s : State) : State := s

end Sys2Proof.Machine
end

