-- ==== Sys2Proof/Machine/ClockEvents.lean ====
section
/-! DEFINITION. FT_ADVANCE (R95) and the expiries of the blocks that every role has (R104, R120, R130, R136, R138, R147,
R159, R168, R172, R175, R186). Each acts when its time has come, and otherwise changes nothing (log entry 2). -/

namespace Sys2Proof.Machine

/-- FT_ADVANCE (R95): one local ms. -/
def execFtAdvance (sense : BitVec 4) (s : State) : Host.Outcome State Fault Refusal := .next (s.localTick sense)

/-- HOLDOVER_EXPIRY (R104). -/
def execHoldoverExpiry (s : State) : Host.Outcome State Fault Refusal :=
  .next (if s.time.align = .holdover ∧ s.time.holdover = 0 then s.setAlign .unaligned 7 .holdoverExpired else s)

/-- MARK_BOUNDARY_REACHED (R120, R121). In CONFIG the phase unit takes no event (R116). -/
def execMarkBoundaryReached (s : State) : Host.Outcome State Fault Refusal :=
  .next (if s.port.nodeState.isStarted then s.testPending else s)

/-- HALT_DUE (R130): one HALT is placed, and the next is due 20 local ms later. -/
def execHaltDue (s : State) : Host.Outcome State Fault Refusal :=
  .next (match s.phase.haltDue with
    | some d =>
      if d ≤ s.localMs then (s.mapPhase fun u => { u with haltDue := some (d + 20) }).placeHalt else s
    | none => s)

/-- R136: the mark schedule after a copy. -/
def MarkSchedule.next (m : MarkSchedule) : Option MarkSchedule :=
  if m.copies ≤ 1 then none else some { m with copies := m.copies - 1, due := m.due + 20 }

/-- MARK_COPY_DUE (R136). -/
def execMarkCopyDue (s : State) : Host.Outcome State Fault Refusal :=
  .next (match s.ref.marks with
    | some m =>
      if 1 ≤ m.copies ∧ m.due ≤ s.localMs then
        (s.mapRef fun u => { u with marks := m.next }).send (.mark m.seq m.phase m.carried)
      else s
    | none => s)

/-- R138: the order schedule after a copy. -/
def OrderSchedule.next (o : OrderSchedule) : Option OrderSchedule :=
  if o.copies ≤ 1 then none else some { o with copies := o.copies - 1, due := o.due + 20 }

/-- ORDER_COPY_DUE (R138). -/
def execOrderCopyDue (s : State) : Host.Outcome State Fault Refusal :=
  .next (match s.ref.orders with
    | some o =>
      if 1 ≤ o.copies ∧ o.due ≤ s.localMs then (s.mapRef fun u => { u with orders := o.next }).send o.frame else s
    | none => s)

/-- PEER_SILENT (R147): the slot is declared SILENT and a SILENT report is delivered. -/
def execPeerSilent (node : NodeId) (s : State) : Host.Outcome State Fault Refusal :=
  .next (match lookupId node s.peers.slots with
    | some p =>
      if s.port.nodeState.isStarted && p.heard && decide (p.silence = 0) then
        (s.setSlot node { p with heard := false }).reportSilent node
      else s
    | none => s)

/-- LINK_LOST (R168): link lost is declared. A link still lost when the counter, set to 2,000 by the end of a test, has run
out again is not declared a second time (DESIGN CHOICE, unsafe, log entry 36). -/
def execLinkLost (s : State) : Host.Outcome State Fault Refusal :=
  .next (if s.port.nodeState.isStarted && decide (s.link.remaining = 0) && !s.link.lost then
      (s.mapLink fun l => { l with lost := true }).setFlag .linkLost
    else s)

/-- R172: the next window number; it wraps from 65,535 to 1. -/
def nextWindowNumber (n : Nat) : Nat := if 65535 ≤ n then 1 else n + 1

/-- R172: the window ends. -/
def Link.endWindow (l : Link) : Link :=
  { l with lastWindow := l.window, windowNumber := nextWindowNumber l.windowNumber,
           lastWindowNumber := nextWindowNumber l.windowNumber, window := WindowCounts.zero, elapsed := 0 }

/-- WINDOW_END (R172). -/
def execWindowEnd (s : State) : Host.Outcome State Fault Refusal :=
  .next (if s.port.nodeState.isStarted && decide (s.link.windowLength ≤ s.link.elapsed) then
      (s.mapLink Link.endWindow).setFlag .windowReady
    else s)

/-- LISTEN_END (R186): RUNNING, the first PRESENCE, and READY. -/
def execListenEnd (s : State) : Host.Outcome State Fault Refusal :=
  .next (if s.port.nodeState = .listening ∧ s.port.listenRemaining = 0 then
      ((s.mapPort fun p => { p with nodeState := .running }).startPresence).setFlag .ready
    else s)

/-- R159: a due PRESENCE is placed and the next due time drawn from the one just reached. -/
def State.presenceAt (due : Nat) (s : State) : State :=
  let (t, d) := (s.send .presence).draw 4
  t.mapChan fun c => { c with presenceDue := some (due + c.presencePeriod + d) }

/-- PRESENCE_DUE (R159). -/
def execPresenceDue (s : State) : Host.Outcome State Fault Refusal :=
  .next (match s.chan.presenceDue with
    | some d => if s.port.nodeState = .running ∧ d ≤ s.localMs then s.presenceAt d else s
    | none => s)

/-- R175: a PATTERN of this node waits in the transmit queue. -/
def State.patternWaits (s : State) : Bool :=
  s.chan.txQueue.any fun f =>
    match f.body with
    | .pattern _ _ => true
    | .presence | .ask _ _ _ _ _ | .yield _ _ | .answer _ _ _ | .mark _ _ _ | .sanction _ _ _ _ | .turn _ _ _ | .halt =>
      false

/-- R175: a PATTERN is placed with the next 256 output bits; the send generator and the send seq move on. -/
def State.placePattern (s : State) : State :=
  (s.mapLink fun l =>
    { l with sendGen := patternSteps 256 l.sendGen, sendSeq := l.sendSeq + 1,
             record := { l.record with patternsSent := inc16 l.record.patternsSent } }).send
    (.pattern (patternBytes 32 s.link.sendGen) s.link.sendSeq)

/-- PATTERN_DUE (R175): a PATTERN is placed unless one still waits; the next is due 10 local ms later. -/
def execPatternDue (s : State) : Host.Outcome State Fault Refusal :=
  .next (match s.link.patternDue with
    | some d =>
      if s.port.nodeState = .test ∧ d ≤ s.localMs then
        let t := s.mapLink fun l => { l with patternDue := some (d + 10) }
        if t.patternWaits then t else t.placePattern
      else s
    | none => s)

end Sys2Proof.Machine
end

