-- ==== Sys2Proof/Machine/Port.lean ====
section
/-! DEFINITION. The port area (R181, R193) and the completion of a command (R182, R183). -/

namespace Sys2Proof.Machine

/-! ## Reading the port area -/

/-- R164: the receive queue is near full while it holds 3 or more frames. -/
def State.rxNearFull (s : State) : Bool := decide (3 ≤ s.chan.rxQueue.length)

/-- R193: offset 103. Bits 1 and 0, which no rule gives, read 0 (DESIGN CHOICE, unsafe, log entry 41). -/
def State.haltLinkByte (s : State) : Byte :=
  BitVec.ofBool s.phase.latch ++ BitVec.ofBool s.phase.stop ++ BitVec.ofBool s.phase.haltSending
    ++ BitVec.ofBool s.link.lost ++ BitVec.ofBool s.link.txFault ++ BitVec.ofBool s.rxNearFull ++ (0 : BitVec 2)

/-- R181: what a read of a port offset captures. A read changes nothing (log entry 22). -/
def State.portRead (s : State) (offset : BitVec 7) : Byte :=
  let o := offset.toNat
  if o < 31 then byteAt s.port.block o
  else if o = 31 then s.port.token
  else if o = 32 then s.port.result
  else if o = 33 then s.port.replyLength
  else if o < 96 then byteAt s.port.reply (o - 34)
  else if o = 96 then s.port.flags.extractLsb' 8 8
  else if o = 97 then s.port.flags.extractLsb' 0 8
  else if o = 98 then s.port.mask.extractLsb' 8 8
  else if o = 99 then s.port.mask.extractLsb' 0 8
  else if o = 100 then s.port.nodeState.code
  else if o = 101 then s.phase.phase.code
  else if o = 102 then s.time.align.code
  else if o = 103 then s.haltLinkByte
  else 0

/-! ## Writing the port area -/

/-- R181, R182: a write to the command block or the token. -/
def State.writeCommand (o : Nat) (value : Byte) (s : State) : State :=
  if s.port.token ≠ 0 then s.setFlag .commandOverrun
  else if o = 31 then s.mapPort fun p => { p with token := value }
  else s.mapPort fun p => { p with block := p.block.set o value }

/-- R181: a write to a port offset. -/
def State.portWrite (offset : BitVec 7) (value : Byte) (s : State) : State :=
  let o := offset.toNat
  if o ≤ 31 then s.writeCommand o value
  else if o = 96 then s.clearFlags .first value
  else if o = 97 then s.clearFlags .second value
  else if o = 98 then s.writeMask .first value
  else if o = 99 then s.writeMask .second value
  else s

/-! ## Transactions (R180)

No row of the table is a transaction, a byte of one or a level of CSn: these are functions of the state, for the
controller's side of the port (log entry 22). -/

/-- R180: the fall of CSn begins a transaction. -/
def State.csFall (s : State) : State := s.mapPort fun p => { p with spi := some .access }

/-- R180: the two captured bytes of a pair: the pair as it was captured before in the transaction, or as it stands. -/
def capturedPair (captured : Option Half) (now : Half) : Half := captured.getD now

/-- R180: what the first bit of a byte captures for SDO, none where SDO is not driven. The two bytes of the event flags
stand as the first of them was captured in the transaction, and so do those of the mask. -/
def State.spiOut (s : State) : Option Byte :=
  match s.port.spi with
  | some (.reading o flags mask) =>
    if o = 96 then some ((capturedPair flags s.port.flags).extractLsb' 8 8)
    else if o = 97 then some ((capturedPair flags s.port.flags).extractLsb' 0 8)
    else if o = 98 then some ((capturedPair mask s.port.mask).extractLsb' 8 8)
    else if o = 99 then some ((capturedPair mask s.port.mask).extractLsb' 0 8)
    else some (s.portRead o)
  | some .access | some (.writing _) | none => none

/-- R180: SDO is driven only while CSn is low in a read. -/
def State.sdoDriven (s : State) : Bool := s.spiOut.isSome

/-- R180: the capture at a byte's first bit keeps the pair it reads for the rest of the transaction. -/
def State.spiCapture (s : State) : State :=
  match s.port.spi with
  | some (.reading o flags mask) =>
    s.mapPort fun p => { p with spi := some (.reading o
      (if o = 96 ∨ o = 97 then some (capturedPair flags p.flags) else flags)
      (if o = 98 ∨ o = 99 then some (capturedPair mask p.mask) else mask)) }
  | some .access | some (.writing _) | none => s

/-- R180: the eighth bit of a byte. The access byte opens a read or a write at its offset; a byte of a write takes effect
at the offset; the offset rises by one and wraps from 127 to 0. -/
def State.spiByte (b : Byte) (s : State) : State :=
  match s.port.spi with
  | some .access =>
    let start : BitVec 7 := b.setWidth 7
    s.mapPort fun p => { p with spi := some (if b.getLsbD 7 then .reading start none none else .writing start) }
  | some (.writing o) => (s.portWrite o b).mapPort fun p => { p with spi := some (.writing (o + 1)) }
  | some (.reading o flags mask) => s.mapPort fun p => { p with spi := some (.reading (o + 1) flags mask) }
  | none => s

/-- R180: the bytes of a write take effect one by one, at successive offsets that wrap from 127 to 0. -/
def State.writeBytes (offset : BitVec 7) (bytes : List Byte) (s : State) : State :=
  match bytes with
  | [] => s
  | b :: rest => (s.portWrite offset b).writeBytes (offset + 1) rest

/-- R180: what a read of a number of bytes captures, at successive offsets, while nothing else happens. -/
def State.readBytes (offset : BitVec 7) (count : Nat) (s : State) : List Byte :=
  match count with
  | 0 => []
  | n + 1 => s.portRead offset :: s.readBytes (offset + 1) n

/-! ## Commands -/

/-- What a command leaves: the state, the result and the reply bytes. -/
structure Completion where
  state : State
  result : ResultCode
  reply : List Byte

/-- A refused command changes no state and has no reply (R183). -/
def refuse (r : ResultCode) (s : State) : Completion := { state := s, result := r, reply := [] }

/-- A command taken and acted, with its reply. -/
def done (s : State) (reply : List Byte) : Completion := { state := s, result := .done, reply := reply }

/-- R182: the completion of a command: the reply with zeros beyond its length, the result, the token 0, COMMAND_DONE. -/
def Completion.finish (c : Completion) : State :=
  (c.state.mapPort fun p =>
    { p with reply := c.reply ++ List.replicate (62 - c.reply.length) 0,
             replyLength := BitVec.ofNat 8 c.reply.length, result := c.result.code, token := 0 }).setFlag .commandDone

/-- R182: the command block with a code and its first argument bytes written, and the command handed over. -/
def State.handOver (code : Byte) (args : List Byte) (s : State) : State :=
  s.mapPort fun p => { p with block := (code :: args) ++ p.block.drop (args.length + 1), token := 1 }

/-- R182: the command block holds a code and its first argument bytes. -/
def State.holds (code : Byte) (args : List Byte) (s : State) : Bool :=
  decide (s.port.block.take (args.length + 1) = code :: args)

/-- R188: a notice record's bytes (R193). -/
def Notice.bytes (n : Notice) : List Byte :=
  [n.kind.code, n.id, n.claim] ++ bytesOf 2 n.detail.toNat ++ bytesOf 2 n.time.toNat

end Sys2Proof.Machine
end

