-- ==== Sys2Proof/Machine/Configure.lean ====
section
/-! DEFINITION. The configuration commands, START and reset (R1, R2, R133, R184 to R186, R189). -/

namespace Sys2Proof.Machine

/-- R184: a configuration command stores in CONFIG and is refused with LOCKED in every other node state. -/
def State.storeConfig (f : StoredConfig → StoredConfig) (s : State) : Completion :=
  if s.port.nodeState = .config then done (s.mapPort fun p => { p with cfg := f p.cfg }) [] else refuse .locked s

/-- SET_NODE (R184). -/
def setNodeAct (nodeId role alliance : Byte) (s : State) : Completion :=
  s.storeConfig fun c => { c with nodeId := nodeId, role := role, alliance := alliance }

/-- SET_TIMING (R184, R113). -/
def setTimingAct (p q : Half) (linkDelay : Byte) (stepLimit w : Half) (s : State) : Completion :=
  s.storeConfig fun c =>
    { c with presencePeriod := p, silenceTime := q, linkDelay := linkDelay, stepLimit := stepLimit, windowLength := w }

/-- SET_ELEMENT (R1). -/
def setElementAct (seats offers budgetBase reloadPhases ringMode : Byte) (clearing : Half) (senseUse mute : Byte)
    (s : State) : Completion :=
  s.storeConfig fun c =>
    { c with seatCount := seats, offerCount := offers, budgetBase := budgetBase, reloadPhases := reloadPhases,
             ringMode := ringMode, clearing := clearing, senseUse := senseUse, mute := mute }

/-- R2: one offer slot written. -/
def StoredConfig.setOffer (c : StoredConfig) (slot : Byte) (o : OfferSlot) : StoredConfig :=
  match slot.toNat with
  | 0 => { c with offer0 := o }
  | 1 => { c with offer1 := o }
  | 2 => { c with offer2 := o }
  | 3 => { c with offer3 := o }
  | _ => c

/-- SET_OFFER (R2): LOCKED outside CONFIG, then BAD_ARGUMENT for a slot above 3. -/
def setOfferAct (slot kind : Byte) (maxHold : Half) (cost openPhases restriction : Byte) (pulsePeriod : Half)
    (s : State) : Completion :=
  if s.port.nodeState ≠ .config then refuse .locked s
  else if 3 < slot.toNat then refuse .badArgument s
  else s.storeConfig fun c =>
    c.setOffer slot { kind := kind, maxHold := maxHold, cost := cost, openPhases := openPhases,
                      restriction := restriction, pulsePeriod := pulsePeriod }

/-- SET_PARTNER (R1). -/
def setPartnerAct (count id0 rule0 id1 rule1 : Byte) (s : State) : Completion :=
  s.storeConfig fun c =>
    { c with partnerCount := count, partner0 := { id := id0, rule := rule0 }, partner1 := { id := id1, rule := rule1 } }

/-- SET_REFEREE (R133). -/
def setRefereeAct (source : Byte) (s : State) : Completion := s.storeConfig fun c => { c with source := source }

/-! ## START -/

/-- R185 items 12..15: the first failing field of an offer slot, by the table of R2. -/
def OfferSlot.fault (o : OfferSlot) : Option Byte :=
  if o.offerKind = none then some 1
  else if o.maxHold.toNat < 100 ∨ 60000 < o.maxHold.toNat ∨ o.maxHold.toNat % 100 ≠ 0 then some 2
  else if 15 < o.cost.toNat then some 3
  else if o.openPhases &&& 7 = 0 then some 4
  else if restrictionOfCode o.restriction.toNat = none then some 5
  else if o.offerKind = some .metered ∧ (o.pulsePeriod.toNat < 100 ∨ 5000 < o.pulsePeriod.toNat) then some 6
  else none

/-- R185 items 12..15: the first offer slot below the offer count that fails, from a slot on. -/
def StoredConfig.offerFault (c : StoredConfig) : List Nat → Option (Byte × Byte)
  | [] => none
  | i :: rest =>
    if i < c.offerCount.toNat then
      match (c.offer i).fault with
      | some field => some (BitVec.ofNat 8 (12 + i), field)
      | none => c.offerFault rest
    else c.offerFault rest

/-- R185 item 17: a partner entry that fails. -/
def StoredConfig.badPartner (c : StoredConfig) (e : PartnerEntry) : Bool :=
  decide (63 < e.id.toNat ∨ e.id = c.nodeId ∨ partnerRuleOfCode e.rule.toNat = none)

/-- R185: the first failing item of an ELEMENT's configuration, items 8..18. -/
def StoredConfig.elementFault (c : StoredConfig) : Option (Byte × Byte) :=
  if c.seatCount.toNat < 1 ∨ 4 < c.seatCount.toNat then some (8, 0)
  else if c.offerCount.toNat < 1 ∨ 4 < c.offerCount.toNat then some (9, 0)
  else if ringModeOfCode c.ringMode.toNat = none then some (10, 0)
  else if 2000 < c.clearing.toNat then some (11, 0)
  else match c.offerFault [0, 1, 2, 3] with
    | some f => some f
    | none =>
      if 2 < c.partnerCount.toNat then some (16, 0)
      else if c.partners.any c.badPartner then some (17, 0)
      else if c.partnerCount.toNat = 2 ∧ c.partner0.id = c.partner1.id then some (18, 0)
      else none

/-- R185: the first failing item and its field number. -/
def StoredConfig.fault (c : StoredConfig) : Option (Byte × Byte) :=
  if 63 < c.nodeId.toNat then some (1, 0)
  else if roleOfCode c.role.toNat = none then some (2, 0)
  else if (c.role = 0 ∧ c.alliance ≠ 1 ∧ c.alliance ≠ 2) ∨ (c.role ≠ 0 ∧ c.alliance ≠ 0) then some (3, 0)
  else if c.presencePeriod.toNat < 100 ∨ 1000 < c.presencePeriod.toNat then some (4, 0)
  else if c.silenceTime.toNat < 500 ∨ 5000 < c.silenceTime.toNat then some (5, 0)
  else if c.silenceTime.toNat < 2 * c.presencePeriod.toNat then some (6, 0)
  else if c.windowLength.toNat < 1000 ∨ 60000 < c.windowLength.toNat then some (7, 0)
  else if roleOfCode c.role.toNat = some .element then c.elementFault
  else none

/-- R6: the guard time is 30 ms when a configured partner has the rule EXCLUSIVE. -/
def StoredConfig.guardTime (c : StoredConfig) : Nat := if c.partners.any (fun e => decide (e.rule = 1)) then 30 else 0

/-- R61: a partner view as START forms it: silent, no seats. -/
def PartnerEntry.view (e : PartnerEntry) : PartnerView :=
  { id := e.id.setWidth 6, rule := (partnerRuleOfCode e.rule.toNat).getD .exclusive, seats := [], lastHeard := 0,
    silent := true }

/-- R186 step 1, R113: P, Q, W and the step limit in use are fixed. -/
def State.fixTiming (s : State) : State :=
  let c := s.port.cfg
  (((s.mapChan fun x => { x with presencePeriod := c.presencePeriod.toNat }).mapPeers fun x =>
    { x with silenceTime := c.silenceTime.toNat }).mapLink fun x =>
    { x with windowLength := c.windowLength.toNat }).mapTime fun x =>
    { x with stepLimit := max 200 (min 10000 c.stepLimit.toNat) }

/-- R186 step 2, R4, R6, R61: the seat table, the guard time and the partner views of an ELEMENT. -/
def State.formElement (s : State) : State :=
  if s.isElement then
    let c := s.port.cfg
    (s.mapSeat fun _ => { table := List.replicate c.seatCount.toNat .free, guardTime := c.guardTime }).mapViews fun _ =>
      c.partners.map PartnerEntry.view
  else s

/-- R186 steps 3 and 4, R162, R168, R172. -/
def State.seed (s : State) : State :=
  (s.mapChan fun x => { x with backoff := BitVec.ofNat 16 (s.port.cfg.nodeId.toNat * 257 + 1), exponent := 3 }).mapLink
    fun x => { x with remaining := 2000, elapsed := 0 }

/-- R105: a REFEREE whose source flag is set enters SOURCE with T the commanded trim. -/
def State.enterSource (s : State) : State :=
  if s.isReferee && s.sourceFlag then (s.writeTrim s.time.commanded).setAlign .source 0 .sourceStart else s

/-- R129: at START the STOP state becomes active when STOPn is read low. -/
def State.readStopAtStart (s : State) : State := if s.pins.stopLow then s.activateStop else s

/-- R186 step 7: LISTENING with listen remaining 2 P. -/
def State.listen (s : State) : State :=
  s.mapPort fun p => { p with nodeState := .listening, listenRemaining := 2 * p.cfg.presencePeriod.toNat }

/-- START (R185, R186). -/
def startAct (s : State) : Completion :=
  if s.port.nodeState ≠ .config then refuse .wrongState s
  else match s.port.cfg.fault with
    | some (item, field) => { state := s, result := .badConfig, reply := [item, field] }
    | none => done ((((s.fixTiming.formElement).seed).enterSource).readStopAtStart).listen []

/-! ## Reset (R189) -/

/-- R189: every block at its reset values. The levels of the input pins come from outside and are kept; so are the
queue of commands and the model's own free-value index. -/
def State.afterReset (s : State) : State :=
  { State.reset with pins := s.pins, freeIndex := s.freeIndex, pending := s.pending }

end Sys2Proof.Machine
end

