-- ==== Sys2Proof/Machine/PlayerCommands.lean ====
section
/-! DEFINITION. The player's commands ASK, YIELD and RENEW (R72 to R75, R86, R87). -/

namespace Sys2Proof.Machine

/-- R89: the player is benched while its bench remaining is above 0. -/
def RequestUnit.benched (u : RequestUnit) : Bool := decide (0 < u.bench)

/-- R75: the request an ASK command adds. -/
def newRequest (element : NodeId) (offer : Nat) (hold : Half) (claim : Byte) : Request :=
  { element := element, offer := offer, claim := claim, hold := hold, state := .asking, tries := 3, deadline := none,
    waitFrame := none, refreshDue := none, position := 0, count := 0, seat := 0, granted := 0, countdown := 0,
    margin := none, renewPending := false }

/-- R75: the ASK command is taken. The new request joins the list order at the tail, also after another has ended (R73; DESIGN
CHOICE, unsafe, log entry 39). -/
def State.takeAsk (element : NodeId) (offer : Nat) (hold : Half) (s : State) : Completion :=
  let claim := s.req.claimCounter + 1
  let r := newRequest element offer hold claim
  let t := s.mapReq fun u => { u with claimCounter := claim, list := u.list ++ [r] }
  done (t.sendOfRequest (r.askFrame false)) [claim]

/-- ASK (R74). -/
def askAct (element offer : Byte) (hold : Half) (s : State) : Completion :=
  if !s.isPlayer then refuse .wrongRole s
  else if s.port.nodeState ≠ .running then refuse .wrongState s
  else if s.req.benched || s.req.ejected then refuse .wrongState s
  else if 63 < element.toNat ∨ 600 < hold.toNat then refuse .badArgument s
  else if 4 ≤ s.req.list.length then refuse .listFull s
  else
    let e : NodeId := element.setWidth 6
    match lookupId e s.req.view with
    | none => refuse .notKnown s
    | some v =>
      if v.silent then refuse .notKnown s
      else if v.offers.length ≤ offer.toNat then refuse .badArgument s
      else if (s.request e).isSome then refuse .wrongState s
      else s.takeAsk e offer.toNat hold

/-- R86: the YIELD command is taken. -/
def State.takeYield (r : Request) (s : State) : Completion :=
  done ((s.setRequest r.element fun q =>
    { q.noWait with state := .yielding, refreshDue := none, countdown := 0, margin := none, renewPending := false,
                    tries := 3 }).sendOfRequest (.yield r.element r.claim)) []

/-- YIELD (R86). -/
def yieldAct (element : Byte) (s : State) : Completion :=
  if !s.isPlayer then refuse .wrongRole s
  else if s.port.nodeState ≠ .running then refuse .wrongState s
  else if 63 < element.toNat then refuse .badArgument s
  else match s.request (element.setWidth 6) with
    | none => refuse .notKnown s
    | some r =>
      if r.state = .asking ∨ r.state = .yielding then refuse .wrongState s
      else s.takeYield r

/-- R87 check 6: the element view shows the request's offer as RENEWABLE. -/
def State.viewRenewable (s : State) (r : Request) : Bool :=
  match lookupId r.element s.req.view with
  | none => false
  | some v =>
    match v.offers[r.offer]? with
    | none => false
    | some o => decide (o.kind = 1)

/-- R87: the RENEW command is taken. -/
def State.takeRenew (r : Request) (s : State) : Completion :=
  done ((s.setRequest r.element fun q => { q with renewPending := true, tries := 3 }).sendOfRequest (r.askFrame true)) []

/-- RENEW (R87). -/
def renewAct (element : Byte) (s : State) : Completion :=
  if !s.isPlayer then refuse .wrongRole s
  else if s.port.nodeState ≠ .running then refuse .wrongState s
  else if 63 < element.toNat then refuse .badArgument s
  else match s.request (element.setWidth 6) with
    | none => refuse .notKnown s
    | some r =>
      if r.state ≠ .seated ∨ r.renewPending = true then refuse .wrongState s
      else if s.viewRenewable r then s.takeRenew r
      else refuse .wrongState s

end Sys2Proof.Machine
end

