-- ==== Sys2Proof/Machine/Reads.lean ====
section
/-! DEFINITION. The READ commands: their checks and the layouts of their replies (R24, R48, R49, R68, R93, R114, R151,
R167, R179, R184, R188, R193). -/

namespace Sys2Proof.Machine

/-- R24, R48, R49: the checks of the element's READ commands, in their order, with the highest start index accepted. -/
def State.elementRead (start : Byte) (highest : Nat) (reply : List Byte) (s : State) : Completion :=
  if s.port.nodeState = .config then refuse .wrongState s
  else if !s.isElement then refuse .wrongRole s
  else if highest < start.toNat then refuse .badArgument s
  else done s reply

/-- The number of rows from a start index, one byte. -/
def countByte {α : Type} (rows : List α) : Byte := BitVec.ofNat 8 rows.length

/-! ## READ_SEATS (R24) -/

/-- The claim fields of an occupied seat: player, claim, offer, granted hold, hold remaining, grant mark. -/
def Claim.bytes (c : Claim) : List Byte :=
  [idByte c.player, c.number, BitVec.ofNat 8 c.offer] ++ bytesOf 2 c.granted ++ bytesOf 2 c.hold ++ bytesOf 2 c.mark.toNat

/-- The fields of the offer kinds: pulse countdown and pulse in progress (METERED), renew count (RENEWABLE). -/
def State.kindBytes (s : State) (c : Claim) (pulse : Option Nat) : List Byte :=
  match (s.offer c.offer).offerKind with
  | some .metered => bytesOf 2 c.countdown ++ [flagByte (pulseLasts pulse), 0]
  | some .renewable => [0, 0, 0, BitVec.ofNat 8 c.renews]
  | some .hold | none => [0, 0, 0, 0]

/-- R24: the 18 bytes of a seat; what does not apply is 0. -/
def State.seatBytes (s : State) (x : Seat) : List Byte :=
  match x with
  | .free => x.code :: List.replicate 17 0
  | .guard c remaining h =>
    [x.code] ++ c.bytes ++ s.kindBytes c none ++ bytesOf 1 remaining ++ [0, 0] ++ [flagByte h]
  | .held c pulse _ h => [x.code] ++ c.bytes ++ s.kindBytes c pulse ++ [0, 0, 0] ++ [flagByte h]
  | .clearing remaining => x.code :: (List.replicate 14 0 ++ bytesOf 2 remaining ++ [0])

/-- R24: the seats that a READ_SEATS returns. -/
def State.seatRows (s : State) (start : Byte) : List Seat := (s.seat.table.drop start.toNat).take 3

/-- READ_SEATS (R24). -/
def readSeatsAct (start : Byte) (s : State) : Completion :=
  s.elementRead start 3
    ([countByte s.seat.table, start, countByte (s.seatRows start)] ++ (s.seatRows start).flatMap s.seatBytes)

/-! ## READ_WAITING (R48) -/

/-- R48: the bytes of a waiting entry. -/
def State.entryBytes (s : State) (e : Entry) : List Byte :=
  [idByte e.player, e.claim, BitVec.ofNat 8 e.offer, flagByte (s.eligible e)] ++ bytesOf 2 e.hold
    ++ bytesOf 2 e.refreshed

/-- R48: the entries that a READ_WAITING returns. -/
def State.entryRows (s : State) (start : Byte) : List Entry := (s.arb.waiting.drop start.toNat).take 7

/-- READ_WAITING (R48). -/
def readWaitingAct (start : Byte) (s : State) : Completion :=
  s.elementRead start 15
    ([countByte s.arb.waiting, start, countByte (s.entryRows start)] ++ bytesOf 2 s.arb.ignoreCount
      ++ (s.entryRows start).flatMap s.entryBytes)

/-! ## READ_RING (R49) -/

/-- R49: the bytes of a standing record; an absent last-ended claim is written 255 in both its bytes (R193). -/
def StandingRecord.bytes (r : StandingRecord) : List Byte :=
  [idByte r.player, BitVec.ofNat 8 r.budget] ++ bytesOf 2 r.bench
    ++ [flagByte r.ejected, flagByte r.silent, r.engagement.code, optionByte (r.lastEnded.map fun x => x.1),
        optionByte (r.lastEnded.map fun x => x.2.code)]

/-- R49: the records that a READ_RING returns. -/
def State.recordRows (s : State) (start : Byte) : List StandingRecord := (s.arb.ring.drop start.toNat).take 6

/-- READ_RING (R49). -/
def readRingAct (start : Byte) (s : State) : Completion :=
  s.elementRead start 23
    ([countByte s.arb.ring, s.port.cfg.ringMode, start, countByte (s.recordRows start)]
      ++ (s.recordRows start).flatMap StandingRecord.bytes)

/-! ## READ_REQUESTS (R93) -/

/-- R93: the local ms remaining to a request's answer deadline; 0 when no wait is open. -/
def Request.deadlineLeft (r : Request) (now : Nat) : Nat :=
  match r.deadline with
  | some d => d - now
  | none => 0

/-- R93: the bytes of a request; seat index, granted hold, countdown and margin are 0 when it is not SEATED. -/
def Request.bytes (now : Nat) (r : Request) : List Byte :=
  [idByte r.element, BitVec.ofNat 8 r.offer, r.claim] ++ bytesOf 2 r.hold.toNat
    ++ [r.state.code, BitVec.ofNat 8 r.tries] ++ bytesOf 1 (r.deadlineLeft now) ++ [r.position, r.count]
    ++ (if r.state = .seated then
          [r.seat] ++ bytesOf 2 r.granted.toNat ++ bytesOf 2 r.countdown ++ bytesOf 1 (r.margin.getD 0)
        else [0, 0, 0, 0, 0, 0])
    ++ [flagByte r.renewPending]

/-- R93: the requests that a READ_REQUESTS returns. -/
def State.requestRows (s : State) (start : Byte) : List Request := (s.req.list.drop start.toNat).take 3

/-- READ_REQUESTS (R93). -/
def readRequestsAct (start : Byte) (s : State) : Completion :=
  if s.port.nodeState = .config then refuse .wrongState s
  else if !s.isPlayer then refuse .wrongRole s
  else if 3 < start.toNat then refuse .badArgument s
  else done s
    ([s.req.claimCounter] ++ bytesOf 2 s.req.bench ++ [flagByte s.req.ejected] ++ bytesOf 2 s.req.strayCount
      ++ bytesOf 2 s.req.viewIgnore ++ [countByte s.req.list, start, countByte (s.requestRows start)]
      ++ (s.requestRows start).flatMap (Request.bytes s.localMs))

/-! ## READ_VIEW (R68, R93) -/

/-- The state, holder and grant mark of a seat in a view. -/
def ViewSeat.bytes (x : ViewSeat) : List Byte := [x.state, holderByte x.holder] ++ bytesOf 2 x.mark.toNat

/-- R68: the rule-satisfied code: 0 for no player, 1 for some players (COMPANION), 2 for all (EXCLUSIVE). -/
def PartnerView.satisfiedCode (v : PartnerView) : Byte :=
  if v.silent then 0
  else match v.rule with
    | .exclusive => if v.seats.any ViewSeat.occupied then 0 else 2
    | .companion => if v.seats.any fun x => decide (x.state = 2) && x.holder.isSome then 1 else 0

/-- R68: the bytes of a partner view. -/
def PartnerView.bytes (v : PartnerView) : List Byte :=
  [idByte v.id, v.rule.code, flagByte v.silent] ++ bytesOf 2 v.lastHeard ++ [v.satisfiedCode, countByte v.seats]
    ++ v.seats.flatMap fun x => x.bytes ++ [optionByte x.claim]

/-- R93: the bytes of an offer in the element view. -/
def ViewOffer.bytes (o : ViewOffer) : List Byte :=
  [o.kind.setWidth 8, flagByte o.openNow, o.restriction.setWidth 8, o.cost] ++ bytesOf 2 o.maxHold.toNat

/-- R93: the bytes of an entry of the element view. The rows of R70 for each seat and for each offer stand together, seat by
seat and offer by offer (log entry 17). -/
def ViewEntry.bytes (id : NodeId) (v : ViewEntry) : List Byte :=
  [idByte id, countByte v.seats] ++ v.seats.flatMap ViewSeat.bytes ++ [v.waiting, countByte v.offers]
    ++ v.offers.flatMap ViewOffer.bytes ++ bytesOf 2 v.lastHeard ++ [flagByte v.silent]

/-- R93: the entry of the element view at an index. -/
def State.viewEntryBytes (s : State) (start : Byte) : List Byte :=
  match s.req.view[start.toNat]? with
  | some (id, v) => v.bytes id
  | none => []

/-- READ_VIEW (R68, R93): at an ELEMENT the partner views, the argument unused; at a PLAYER one entry. -/
def readViewAct (start : Byte) (s : State) : Completion :=
  if s.port.nodeState = .config then refuse .wrongState s
  else if s.isElement then done s (countByte s.views :: s.views.flatMap PartnerView.bytes)
  else if s.isPlayer then
    if 31 < start.toNat then refuse .badArgument s
    else done s (countByte s.req.view :: s.viewEntryBytes start)
  else refuse .wrongRole s

/-! ## READ_PEER (R151) -/

/-- Eight flags in one byte, bit 7 first. -/
def flagsByte (b7 b6 b5 b4 b3 b2 b1 b0 : Bool) : Byte :=
  BitVec.ofBool b7 ++ BitVec.ofBool b6 ++ BitVec.ofBool b5 ++ BitVec.ofBool b4 ++ BitVec.ofBool b3 ++ BitVec.ofBool b2
    ++ BitVec.ofBool b1 ++ BitVec.ofBool b0

/-- R151 bytes 1 to 11: the slot of an id; 0 when absent. -/
def slotBytes (slot : Option PeerSlot) : List Byte :=
  match slot with
  | none => List.replicate 11 0
  | some p =>
    [flagsByte true p.heard p.halted p.test false false false false,
      (p.role.setWidth 4 : BitVec 4) ++ (p.alliance.setWidth 4 : BitVec 4),
      (p.level.setWidth 4 : BitVec 4) ++ (p.align.setWidth 4 : BitVec 4), p.phase.setWidth 8, p.seq]
      ++ bytesOf 2 p.lastHeard ++ bytesOf 2 p.silence ++ bytesOf 2 p.frames

/-- R151 byte 59: the advertised player state of a slot; 0 when absent. -/
def adByte (slot : Option PeerSlot) : Byte :=
  match slot.bind PeerSlot.ad with
  | none => 0
  | some a => flagsByte true a.benched a.ejected false false false false false ||| BitVec.ofNat 8 (a.requests % 8)

/-- Whether a node is present and HEARD in the peer table. -/
def State.hears (s : State) (id : NodeId) : Bool :=
  match lookupId id s.peers.slots with
  | some p => p.heard
  | none => false

/-- R151 bytes 12 to 19: one byte of the heard map, its bit 0 for the id 8 n. -/
def State.heardByte (s : State) (n : Nat) : Byte :=
  let bit (i : Nat) : Bool := s.hears (BitVec.ofNat 6 (8 * n + i))
  flagsByte (bit 7) (bit 6) (bit 5) (bit 4) (bit 3) (bit 2) (bit 1) (bit 0)

/-- R151: the bytes of a referee slot; an absent seq is written 255 (R193). -/
def refSlotBytes (slot : Option RefSlot) : List Byte :=
  match slot with
  | none => [255, 0, 255, 255]
  | some r =>
    [idByte r.id,
      flagsByte r.lastSeq.isSome r.ad.isSome (match r.ad with | some a => a.1 | none => false) false false false false
        false, optionByte r.lastSeq, optionByte (r.ad.map fun a => a.2)]

/-- R151 byte 39: the phase flags. -/
def PhaseUnit.flags (u : PhaseUnit) : Byte :=
  flagsByte u.fresh u.latch u.stop u.haltSending u.currentCarried.isSome u.pending.isSome u.lastHalt.isSome false

/-- R151 bytes 46 to 52: the pending mark; 0 when empty. -/
def pendingBytes (m : Option PendingMark) : List Byte :=
  match m with
  | none => List.replicate 7 0
  | some m => [m.seq, m.phase.code] ++ bytesOf 5 m.boundary

/-- R151 bytes 37 to 58: the phase unit. -/
def PhaseUnit.bytes (u : PhaseUnit) : List Byte :=
  [u.phase.code, u.seq, u.flags, u.pausedPhase.code, u.currentPhase.code]
    ++ bytesOf 4 (match u.currentCarried with | some b => b.toNat | none => 0)
    ++ pendingBytes u.pending ++ bytesOf 2 (match u.lastHalt with | some t => t / 1000 | none => 0)
    ++ bytesOf 2 u.ignoreCount ++ bytesOf 2 u.conflictCount

/-- R151: the whole reply of READ_PEER. -/
def State.peerReply (s : State) (id : Byte) : List Byte :=
  let slot := lookupId (id.setWidth 6) s.peers.slots
  [id] ++ slotBytes slot ++ [7, 6, 5, 4, 3, 2, 1, 0].map s.heardByte
    ++ [countByte s.peers.slots, countByte (s.peers.slots.filter fun x => x.2.heard)]
    ++ bytesOf 2 s.peers.clashCount ++ bytesOf 2 s.peers.rejectCount ++ [holderByte s.peers.lastChanged]
    ++ refSlotBytes s.peers.referees[0]? ++ refSlotBytes s.peers.referees[1]? ++ bytesOf 2 s.peers.orderIgnore
    ++ s.phase.bytes ++ [adByte slot]

/-- READ_PEER (R151): every node state and every role. -/
def readPeerAct (id : Byte) (s : State) : Completion :=
  if 63 < id.toNat then refuse .badArgument s else done s (s.peerReply id)

/-! ## READ_TIME (R114) -/

/-- A signed value in n bytes, two's complement (R193). -/
def signedField (n : Nat) (v : Int) : List Byte := bytesOf n (BitVec.ofInt (8 * n) v).toNat

/-- R114: the last sample; absent it is written 0 in its four bytes and 255 in its kind (R193). -/
def sampleBytes (x : Option Sample) : List Byte :=
  match x with
  | none => [0, 0, 0, 0, 255]
  | some x => signedField 4 x.offset ++ [x.kind.code]

/-- R114: the step limit in use, or the stored value before START. -/
def State.shownStepLimit (s : State) : Nat :=
  if s.port.nodeState = .config then s.port.cfg.stepLimit.toNat else s.time.stepLimit

/-- R114: the reply of READ_TIME. -/
def State.timeReply (s : State) : List Byte :=
  let t := s.time
  bytesOf 5 t.ft ++ bytesOf 1 t.fraction ++ signedField 2 t.trim ++ signedField 2 t.commanded ++ [t.mode.code]
    ++ bytesOf 4 t.stall ++ [t.align.code, holderByte t.reference, BitVec.ofNat 8 t.level, BitVec.ofNat 8 t.lockCount]
    ++ bytesOf 2 t.holdover ++ [flagByte t.alarm] ++ sampleBytes t.lastSample
    ++ [t.lastCause.code, s.port.cfg.linkDelay] ++ bytesOf 2 s.shownStepLimit

/-- READ_TIME (R114). -/
def readTimeAct (s : State) : Completion := done s s.timeReply

/-! ## READ_LINK (R179, R167) -/

/-- R172: the seven counts, two bytes each. -/
def WindowCounts.bytes (w : WindowCounts) : List Byte :=
  bytesOf 2 w.sent ++ bytesOf 2 w.good ++ bytesOf 2 w.crc ++ bytesOf 2 w.format ++ bytesOf 2 w.kind
    ++ bytesOf 2 w.overflow ++ bytesOf 2 w.drop

/-- R167: the number of waiting frames of a class. -/
def classCount (q : List QueuedFrame) (c : Nat) : Byte := countByte (q.filter fun f => decide (f.body.urgency = c))

/-- R167: the contention, its slots remaining written 255 before the draw. -/
def contentionBytes (k : Option Contention) : List Byte :=
  [flagByte k.isSome, optionByte ((k.bind Contention.remaining).map fun n => BitVec.ofNat 8 n)]

/-- R160, R167: a countdown in progress is read: of the slots it still held, a free number has passed, and one at least is
left, since the contention completes when none is (log entry 7). -/
def Contention.read (free : Nat) (k : Contention) : Contention :=
  match k.remaining with
  | some r => { k with passed := k.passed + free % r }
  | none => k

/-- R160: a countdown with slots left is in progress. -/
def Contention.isCounting (k : Contention) : Bool :=
  k.gapDone &&
    match k.remaining with
    | some r => decide (0 < r)
    | none => false

/-- R167: the contention as READ_LINK finds it; only a countdown in progress draws a free value (log entry 7). -/
def State.readCountdown (s : State) : State :=
  match s.chan.contention with
  | some k =>
    if k.isCounting then
      { (s.mapChan fun c => { c with contention := some (k.read (Config.freeSlots s.freeIndex)) }) with
        freeIndex := s.freeIndex + 1 }
    else s
  | none => s

/-- R167: the state of the field channel. -/
def State.channelBytes (s : State) : List Byte :=
  let c := s.chan
  countByte c.txQueue :: [0, 1, 2, 3].map (classCount c.txQueue)
    ++ contentionBytes c.contention ++ bytesOf 1 c.exponent ++ bytesOf 2 c.backoff.toNat
    ++ bytesOf 2 (match c.presenceDue with | some d => d - s.localMs | none => 0) ++ [countByte c.rxQueue]

/-- R179: part 0 of READ_LINK. -/
def State.linkReply0 (s : State) : List Byte :=
  let l := s.link
  flagByte l.lost :: bytesOf 2 l.remaining ++ [flagByte l.txFault, optionByte (l.lastPower.map PowerJudgment.code)]
    ++ l.window.bytes ++ bytesOf 2 l.elapsed ++ l.lastWindow.bytes ++ bytesOf 2 l.lastWindowNumber ++ s.channelBytes

/-- R176: the test record. -/
def TestRecord.bytes (r : TestRecord) : List Byte :=
  bytesOf 2 r.patternsSent ++ bytesOf 2 r.errorsInserted ++ bytesOf 2 r.seedFrames ++ bytesOf 2 r.compared
    ++ bytesOf 2 r.missed ++ bytesOf 2 r.ignored ++ bytesOf 4 r.bitErrors ++ [optionByte (r.endCause.map EndCause.code)]

/-- R179: part 1 of READ_LINK. -/
def State.linkReply1 (s : State) : List Byte :=
  let l := s.link
  [optionByte (l.testKind.map TestKind.code), flagByte l.insertPending, holderByte l.patternSource]
    ++ bytesOf 2 l.sendSeq.toNat ++ bytesOf 2 l.expectedSeq.toNat ++ l.record.bytes

/-- READ_LINK (R179). -/
def readLinkAct (part : Byte) (s : State) : Completion :=
  if part = 0 then done s.readCountdown s.readCountdown.linkReply0
  else if part = 1 then done s s.linkReply1
  else refuse .badArgument s

/-! ## READ_NOTICES (R188) -/

/-- READ_NOTICES (R188): up to 4 records leave the head of the queue. -/
def readNoticesAct (s : State) : Completion :=
  let taken := s.port.notices.take 4
  let left := s.port.notices.drop 4
  done (s.mapPort fun p => { p with notices := left }) ([countByte taken, countByte left] ++ taken.flatMap Notice.bytes)

/-! ## READ_CONFIG (R184, R193) -/

/-- R193: the eight bytes of an offer slot. -/
def OfferSlot.bytes (o : OfferSlot) : List Byte :=
  [o.kind] ++ bytesOf 2 o.maxHold.toNat ++ [o.cost, o.openPhases, o.restriction] ++ bytesOf 2 o.pulsePeriod.toNat

/-- R193: the 59 bytes of READ_CONFIG. -/
def StoredConfig.bytes (c : StoredConfig) : List Byte :=
  [c.nodeId, c.role, c.alliance] ++ bytesOf 2 c.presencePeriod.toNat ++ bytesOf 2 c.silenceTime.toNat ++ [c.linkDelay]
    ++ bytesOf 2 c.stepLimit.toNat ++ bytesOf 2 c.windowLength.toNat ++ [c.source]
    ++ [c.seatCount, c.offerCount, c.budgetBase, c.reloadPhases, c.ringMode] ++ bytesOf 2 c.clearing.toNat
    ++ [c.senseUse, c.mute, c.partnerCount, c.partner0.id, c.partner0.rule, c.partner1.id, c.partner1.rule]
    ++ c.offer0.bytes ++ c.offer1.bytes ++ c.offer2.bytes ++ c.offer3.bytes

/-- READ_CONFIG (R184). -/
def readConfigAct (s : State) : Completion := done s s.port.cfg.bytes

end Sys2Proof.Machine
end

