-- ==== Sys2Proof/Machine/RefereeCommands.lean ====
section
/-! DEFINITION. The referee's commands (R134 to R139), the field-time commands (R111, R112) and the test commands
(R173, R174, R178). -/

namespace Sys2Proof.Machine

/-- R134, R137: the transmitter of orders and marks works in RUNNING and TEST. -/
def State.refereeSends (s : State) : Bool := s.port.nodeState.sends

/-! ## Marks -/

/-- R135 step 1: the seq of a new mark. -/
def State.nextMarkSeq (s : State) : Byte :=
  match s.phase.pending with
  | some m => m.seq + 1
  | none => s.phase.seq + 1

/-- R135 step 2: the boundary of a new mark. -/
def State.markBoundary (s : State) (lead : Half) : Nat := min (s.time.ft + min lead.toNat 5000 * 1000) ftMax

/-- R135: the SEND_MARK command is taken. With a pending mark 127 ahead of the phase seq the new seq is 128 ahead, which R135
calls newer and R118 old: the node's own phase unit ignores and counts it, and the mark is sent all the same (DESIGN
CHOICE, unsafe, log entry 34). With the pending mark's seq 255 at a fresh node the new seq is 0, which R117 never calls newer
there: the own phase unit judges it against its current mark, whose seq is 0 too (DESIGN CHOICE, unsafe, log entry 38). -/
def State.takeSendMark (new : Phase) (lead : Half) (s : State) : Completion :=
  let seq := s.nextMarkSeq
  let boundary := s.markBoundary lead
  let carried := BitVec.ofNat 32 boundary
  let t := (s.judgeMark seq new carried).send (.mark seq new carried)
  done (t.mapRef fun u =>
    { u with marks := some { seq := seq, phase := new, carried := carried, copies := 2, due := s.localMs + 20 } })
    (seq :: bytesOf 5 boundary)

/-- SEND_MARK (R134). -/
def sendMarkAct (phase : Byte) (lead : Half) (s : State) : Completion :=
  if !s.isReferee then refuse .wrongRole s
  else if !s.refereeSends then refuse .wrongState s
  else match phaseOfCode phase.toNat with
    | none => refuse .badArgument s
    | some new =>
      if s.time.align = .unaligned ∨ s.time.align = .acquiring then refuse .wrongState s
      else if s.phase.phase = .ended ∧ new ≠ .prematch then refuse .wrongState s
      else s.takeSendMark new lead

/-! ## Orders -/

/-- R137 check 4: the order schedule still holds an order with copies remaining. -/
def State.orderBusy (s : State) : Bool :=
  match s.ref.orders with
  | some o => decide (0 < o.copies)
  | none => false

/-- R137: an order's first copy is placed and the schedule set. -/
def State.takeOrder (frame : Byte → TxBody) (s : State) : State :=
  let seq := s.ref.orderSeq + 1
  (s.send (frame seq)).mapRef fun u =>
    { u with orderSeq := seq, orders := some { frame := frame seq, copies := 2, due := s.localMs + 20 } }

/-- R137: the duration as sent: a BENCH clamped into 10..600 units, otherwise 0. -/
def sentDuration (kind : SanctionKind) (duration : Half) : Half :=
  match kind with
  | .bench => BitVec.ofNat 16 (max 10 (min 600 duration.toNat))
  | .eject | .clear => 0

/-- SEND_SANCTION (R137). -/
def sendSanctionAct (player kind : Byte) (duration : Half) (s : State) : Completion :=
  if !s.isReferee then refuse .wrongRole s
  else if !s.refereeSends then refuse .wrongState s
  else if 63 < player.toNat then refuse .badArgument s
  else match sanctionKindOfCode kind.toNat with
    | none => refuse .badArgument s
    | some k =>
      if s.orderBusy then refuse .wrongState s
      else
        let d := sentDuration k duration
        done (s.takeOrder fun seq => .sanction seq (player.setWidth 6) k d) ((s.ref.orderSeq + 1) :: bytesOf 2 d.toNat)

/-- SEND_TURN (R137). -/
def sendTurnAct (element player : Byte) (s : State) : Completion :=
  if !s.isReferee then refuse .wrongRole s
  else if !s.refereeSends then refuse .wrongState s
  else if 63 < element.toNat ∨ 63 < player.toNat then refuse .badArgument s
  else if s.orderBusy then refuse .wrongState s
  else done (s.takeOrder fun seq => .turn seq (element.setWidth 6) (player.setWidth 6)) [s.ref.orderSeq + 1]

/-! ## Field stop -/

/-- R139: the reply of HALT_ON and HALT_OFF. -/
def State.haltReply (s : State) : List Byte :=
  [flagByte s.phase.latch, flagByte s.phase.stop, flagByte s.phase.haltSending]

/-- R130: halt sending is turned on. -/
def State.haltSendingOn (s : State) : State :=
  if s.phase.haltSending then s
  else ((s.mapPhase fun u => { u with haltSending := true }).setLatch).beginHaltSchedule

/-- R130, R128: halt sending is turned off. -/
def State.haltSendingOff (s : State) : State :=
  if s.phase.haltSending then
    ((s.mapPhase fun u => { u with haltSending := false }).noteHalt).settleHaltSchedule
  else s

/-- R139: the checks of HALT_ON and HALT_OFF, and the completion. -/
def State.haltCommand (f : State → State) (s : State) : Completion :=
  if !s.isReferee then refuse .wrongRole s
  else if s.port.nodeState = .config then refuse .wrongState s
  else done (f s) (f s).haltReply

/-- HALT_ON (R139). -/
def haltOnAct (s : State) : Completion := s.haltCommand State.haltSendingOn

/-- HALT_OFF (R139). -/
def haltOffAct (s : State) : Completion := s.haltCommand State.haltSendingOff

/-! ## Trim -/

/-- R110: the entry to FIXED. -/
def State.enterFixed (s : State) : State :=
  let t := (s.writeTrim s.time.commanded).mapTime fun x =>
    { x with mode := .fixed, reference := none, lockCount := 0, holdover := 0 }
  if s.time.align = .unaligned then t else t.setAlign .unaligned 7 .fixedMode

/-- TRIM_MODE (R111). -/
def trimModeAct (mode : Byte) (s : State) : Completion :=
  if s.time.align = .source then refuse .wrongState s
  else match trimModeOfCode mode.toNat with
    | none => refuse .badArgument s
    | some m =>
      let t :=
        if m = s.time.mode then s
        else if m = .fixed then s.enterFixed
        else s.mapTime fun x => { x with mode := m }
      done t [t.time.align.code]

/-- A signed value in two bytes (R193). -/
def signedBytes (v : Int) : List Byte := bytesOf 2 (BitVec.ofInt 16 v).toNat

/-- TRIM_SET (R112). -/
def trimSetAct (trim : Half) (s : State) : Completion :=
  if s.time.align = .source then refuse .wrongState s
  else
    let v := clampTrim trim.toInt
    done ((s.mapTime fun x => { x with commanded := v }).writeTrim v) (signedBytes v)

/-! ## Line tests -/

/-- R158: the frames that entry into TEST leaves in the transmit queue. -/
def Channel.enterTest (c : Channel) : Channel :=
  let queue := c.txQueue.filter fun f => !f.body.barredInTest
  { c with txQueue := queue, presenceDue := none, contention := if queue.isEmpty then none else c.contention }

/-- R177: in a loopback test RXD is not read, so a reception from RXD in progress is given up (log entry 15). A frame in
transmission is sent to its end with TXEN (log entry 40). -/
def Channel.enterLoopback (kind : TestKind) (c : Channel) : Channel :=
  if kind = .loopback then { c with reception := none } else c

/-- R173: link supervision at entry into TEST. -/
def Link.enterTest (kind : TestKind) (now : Nat) (l : Link) : Link :=
  let l1 := { l with testKind := some kind, record := TestRecord.cleared, insertPending := false, checkGen := none,
                     patternSource := none }
  match kind with
  | .patternSend | .loopback => { l1 with sendGen := 32767, sendSeq := 0, patternDue := some now }
  | .patternCheck => l1

/-- R173: entry into TEST. -/
def State.enterTest (kind : TestKind) (s : State) : State :=
  ((((s.mapPort fun p => { p with nodeState := .test }).mapLink (Link.enterTest kind s.localMs)).mapChan fun c =>
    c.enterTest.enterLoopback kind)).endAllRequests .lost 0

/-- TEST_BEGIN (R173). -/
def testBeginAct (kind : Byte) (s : State) : Completion :=
  if s.port.nodeState ≠ .running then refuse .wrongState s
  else if s.phase.phase ≠ .prematch ∧ s.phase.phase ≠ .ended then refuse .wrongState s
  else match testKindOfCode kind.toNat with
    | none => refuse .badArgument s
    | some k => done (s.enterTest k) []

/-- TEST_END (R174). -/
def testEndAct (s : State) : Completion :=
  if s.port.nodeState = .test then done (s.endTest .command) [] else refuse .wrongState s

/-- INSERT_ERROR (R178). -/
def insertErrorAct (s : State) : Completion :=
  if s.port.nodeState = .test ∧ (s.link.testKind = some .patternSend ∨ s.link.testKind = some .loopback) then
    done (s.mapLink fun l => { l with insertPending := true }) []
  else refuse .wrongState s

end Sys2Proof.Machine
end

