-- ==== Sys2Proof/Machine/Commands.lean ====
section
/-! DEFINITION. The local controller's commands and port writes (R180 to R189): handing over, taking and completing a
command, and one meaning for each row of the command summary. -/

namespace Sys2Proof.Machine

/-- R182: what a taken command leaves: a completion, or for RESET the reset state with none (R189). -/
inductive Taken where
  | completes (c : Completion)
  | resets (s : State)

/-- The state after a taken command. -/
def Taken.state (t : Taken) : State :=
  match t with
  | .completes c => c.finish
  | .resets s => s

/-- R183: the configuration commands, START and RESET, by their codes, with the arguments in the command block. -/
def takeSetup (code : Nat) (b : List Byte) (s : State) : Option Taken :=
  match code with
  | 16 => some (.completes (setNodeAct (byteAt b 1) (byteAt b 2) (byteAt b 3) s))
  | 17 => some (.completes (setTimingAct (halfAt b 1) (halfAt b 3) (byteAt b 5) (halfAt b 6) (halfAt b 8) s))
  | 18 => some (.completes (setElementAct (byteAt b 1) (byteAt b 2) (byteAt b 3) (byteAt b 4) (byteAt b 5) (halfAt b 6)
      (byteAt b 8) (byteAt b 9) s))
  | 19 => some (.completes (setOfferAct (byteAt b 1) (byteAt b 2) (halfAt b 3) (byteAt b 5) (byteAt b 6) (byteAt b 7)
      (halfAt b 8) s))
  | 20 => some (.completes (setPartnerAct (byteAt b 1) (byteAt b 2) (byteAt b 3) (byteAt b 4) (byteAt b 5) s))
  | 21 => some (.completes (setRefereeAct (byteAt b 1) s))
  | 30 => some (.completes (startAct s))
  | 31 => some (.resets s.afterReset)
  | _ => none

/-- R183: the commands of a running node, by their codes. -/
def takeWork (code : Nat) (b : List Byte) (s : State) : Option Taken :=
  match code with
  | 32 => some (.completes (askAct (byteAt b 1) (byteAt b 2) (halfAt b 3) s))
  | 33 => some (.completes (yieldAct (byteAt b 1) s))
  | 34 => some (.completes (renewAct (byteAt b 1) s))
  | 48 => some (.completes (sendMarkAct (byteAt b 1) (halfAt b 2) s))
  | 49 => some (.completes (sendSanctionAct (byteAt b 1) (byteAt b 2) (halfAt b 3) s))
  | 50 => some (.completes (sendTurnAct (byteAt b 1) (byteAt b 2) s))
  | 51 => some (.completes (haltOnAct s))
  | 52 => some (.completes (haltOffAct s))
  | 64 => some (.completes (trimModeAct (byteAt b 1) s))
  | 65 => some (.completes (trimSetAct (halfAt b 1) s))
  | 80 => some (.completes (testBeginAct (byteAt b 1) s))
  | 81 => some (.completes (testEndAct s))
  | 82 => some (.completes (insertErrorAct s))
  | _ => none

/-- R183: the READ commands, by their codes. -/
def takeRead (code : Nat) (b : List Byte) (s : State) : Option Taken :=
  match code with
  | 96 => some (.completes (readSeatsAct (byteAt b 1) s))
  | 97 => some (.completes (readWaitingAct (byteAt b 1) s))
  | 98 => some (.completes (readRingAct (byteAt b 1) s))
  | 99 => some (.completes (readRequestsAct (byteAt b 1) s))
  | 100 => some (.completes (readViewAct (byteAt b 1) s))
  | 101 => some (.completes (readPeerAct (byteAt b 1) s))
  | 102 => some (.completes (readTimeAct s))
  | 103 => some (.completes (readLinkAct (byteAt b 1) s))
  | 104 => some (.completes (readNoticesAct s))
  | 105 => some (.completes (readConfigAct s))
  | _ => none

/-- R183: the command that a command block holds, taken; a code that names none completes UNKNOWN_COMMAND. -/
def takeBlock (b : List Byte) (s : State) : Taken :=
  let code := (byteAt b 0).toNat
  ((takeSetup code b s <|> takeWork code b s) <|> takeRead code b s).getD (.completes (refuse .unknownCommand s))

/-- R182: the command that the command block holds is taken and completes. Inside the step the token is 1, whatever nonzero
value was written (log entry 4). -/
def State.takeHanded (s : State) : State := (takeBlock s.port.block (s.mapPort fun p => { p with token := 1 })).state

/-- R180, R182: the rise of CSn ends the transaction, and a command that was handed over in a write is taken. A byte cut
short is discarded: it never had its eighth bit. -/
def State.csRise (s : State) : State :=
  let t := s.mapPort fun p => { p with spi := none }
  match s.port.spi with
  | some (.writing _) => if s.port.token = 0 then t else t.takeHanded
  | some .access | some (.reading _ _ _) | none => t

/-- R180: the bytes of a transaction in progress, one after another, each captured at its first bit and moved at its
eighth. -/
def State.spiBytes (bytes : List Byte) (s : State) : State := bytes.foldl (fun t b => t.spiCapture.spiByte b) s

/-- R180, R182: what a whole transaction leaves, from the fall of CSn to its rise, when no other event falls within
it. -/
def State.transaction (access : Byte) (bytes : List Byte) (s : State) : State :=
  ((s.csFall.spiBytes (access :: bytes))).csRise

/-- R182: a row of the command summary. With the token 0 its code and arguments are written and handed over, and the
command is taken (log entry 4). With the token already nonzero the block is what was handed over: the row takes it when
it holds this very command, where handing it over once more writes nothing new; otherwise the writes are ignored with
COMMAND_OVERRUN and the held command is taken (log entry 5). -/
def State.command (code : Byte) (args : List Byte) (act : State → Completion) (s : State) : State :=
  if s.port.token = 0 ∨ s.holds code args = true then (act (s.handOver code args)).finish
  else (s.setFlag .commandOverrun).takeHanded

/-! ## Configuration -/

/-- SET_NODE (R184). -/
def execSetNode (nodeId role alliance : Byte) (s : State) : Host.Outcome State Fault Refusal :=
  .next (s.command 16 [nodeId, role, alliance] (setNodeAct nodeId role alliance))

/-- SET_TIMING (R184). -/
def execSetTiming (p q : Half) (linkDelay : Byte) (stepLimit w : Half) (s : State) :
    Host.Outcome State Fault Refusal :=
  .next (s.command 17
    (bytesOf 2 p.toNat ++ bytesOf 2 q.toNat ++ [linkDelay] ++ bytesOf 2 stepLimit.toNat ++ bytesOf 2 w.toNat)
    (setTimingAct p q linkDelay stepLimit w))

/-- SET_ELEMENT (R1). -/
def execSetElement (seats offers budgetBase reloadPhases ringMode : Byte) (clearing : Half) (senseUse mute : Byte)
    (s : State) : Host.Outcome State Fault Refusal :=
  .next (s.command 18
    ([seats, offers, budgetBase, reloadPhases, ringMode] ++ bytesOf 2 clearing.toNat ++ [senseUse, mute])
    (setElementAct seats offers budgetBase reloadPhases ringMode clearing senseUse mute))

/-- SET_OFFER (R2). -/
def execSetOffer (slot kind : Byte) (maxHold : Half) (cost openPhases restriction : Byte) (pulsePeriod : Half)
    (s : State) : Host.Outcome State Fault Refusal :=
  .next (s.command 19
    ([slot, kind] ++ bytesOf 2 maxHold.toNat ++ [cost, openPhases, restriction] ++ bytesOf 2 pulsePeriod.toNat)
    (setOfferAct slot kind maxHold cost openPhases restriction pulsePeriod))

/-- SET_PARTNER (R1). -/
def execSetPartner (count id0 rule0 id1 rule1 : Byte) (s : State) : Host.Outcome State Fault Refusal :=
  .next (s.command 20 [count, id0, rule0, id1, rule1] (setPartnerAct count id0 rule0 id1 rule1))

/-- SET_REFEREE (R133). -/
def execSetReferee (source : Byte) (s : State) : Host.Outcome State Fault Refusal :=
  .next (s.command 21 [source] (setRefereeAct source))

/-- START (R185, R186). -/
def execStart (s : State) : Host.Outcome State Fault Refusal := .next (s.command 30 [] startAct)

/-- RESET (R189): taken in every node state; with the token nonzero the held command is what is taken (R182). -/
def execReset (s : State) : Host.Outcome State Fault Refusal :=
  .next (if s.port.token = 0 ∨ s.holds 31 [] = true then s.afterReset
    else (s.setFlag .commandOverrun).takeHanded)

/-! ## The player -/

/-- ASK (R74, R75). -/
def execAsk (element offer : Byte) (hold : Half) (s : State) : Host.Outcome State Fault Refusal :=
  .next (s.command 32 ([element, offer] ++ bytesOf 2 hold.toNat) (askAct element offer hold))

/-- YIELD (R86). -/
def execYield (element : Byte) (s : State) : Host.Outcome State Fault Refusal :=
  .next (s.command 33 [element] (yieldAct element))

/-- RENEW (R87). -/
def execRenew (element : Byte) (s : State) : Host.Outcome State Fault Refusal :=
  .next (s.command 34 [element] (renewAct element))

/-! ## The referee -/

/-- SEND_MARK (R134, R135). -/
def execSendMark (phase : Byte) (lead : Half) (s : State) : Host.Outcome State Fault Refusal :=
  .next (s.command 48 (phase :: bytesOf 2 lead.toNat) (sendMarkAct phase lead))

/-- SEND_SANCTION (R137). -/
def execSendSanction (player kind : Byte) (duration : Half) (s : State) : Host.Outcome State Fault Refusal :=
  .next (s.command 49 ([player, kind] ++ bytesOf 2 duration.toNat) (sendSanctionAct player kind duration))

/-- SEND_TURN (R137). -/
def execSendTurn (element player : Byte) (s : State) : Host.Outcome State Fault Refusal :=
  .next (s.command 50 [element, player] (sendTurnAct element player))

/-- HALT_ON (R139). -/
def execHaltOn (s : State) : Host.Outcome State Fault Refusal := .next (s.command 51 [] haltOnAct)

/-- HALT_OFF (R139). -/
def execHaltOff (s : State) : Host.Outcome State Fault Refusal := .next (s.command 52 [] haltOffAct)

/-! ## Field time and line tests -/

/-- TRIM_MODE (R111). -/
def execTrimMode (mode : Byte) (s : State) : Host.Outcome State Fault Refusal :=
  .next (s.command 64 [mode] (trimModeAct mode))

/-- TRIM_SET (R112). -/
def execTrimSet (trim : Half) (s : State) : Host.Outcome State Fault Refusal :=
  .next (s.command 65 (bytesOf 2 trim.toNat) (trimSetAct trim))

/-- TEST_BEGIN (R173). -/
def execTestBegin (kind : Byte) (s : State) : Host.Outcome State Fault Refusal :=
  .next (s.command 80 [kind] (testBeginAct kind))

/-- TEST_END (R174). -/
def execTestEnd (s : State) : Host.Outcome State Fault Refusal := .next (s.command 81 [] testEndAct)

/-- INSERT_ERROR (R178). -/
def execInsertError (s : State) : Host.Outcome State Fault Refusal := .next (s.command 82 [] insertErrorAct)

/-! ## The READ commands -/

/-- READ_SEATS (R24). -/
def execReadSeats (start : Byte) (s : State) : Host.Outcome State Fault Refusal :=
  .next (s.command 96 [start] (readSeatsAct start))

/-- READ_WAITING (R48). -/
def execReadWaiting (start : Byte) (s : State) : Host.Outcome State Fault Refusal :=
  .next (s.command 97 [start] (readWaitingAct start))

/-- READ_RING (R49). -/
def execReadRing (start : Byte) (s : State) : Host.Outcome State Fault Refusal :=
  .next (s.command 98 [start] (readRingAct start))

/-- READ_REQUESTS (R93). -/
def execReadRequests (start : Byte) (s : State) : Host.Outcome State Fault Refusal :=
  .next (s.command 99 [start] (readRequestsAct start))

/-- READ_VIEW (R68, R93). -/
def execReadView (start : Byte) (s : State) : Host.Outcome State Fault Refusal :=
  .next (s.command 100 [start] (readViewAct start))

/-- READ_PEER (R151). -/
def execReadPeer (nodeId : Byte) (s : State) : Host.Outcome State Fault Refusal :=
  .next (s.command 101 [nodeId] (readPeerAct nodeId))

/-- READ_TIME (R114). -/
def execReadTime (s : State) : Host.Outcome State Fault Refusal := .next (s.command 102 [] readTimeAct)

/-- READ_LINK (R179). -/
def execReadLink (part : Byte) (s : State) : Host.Outcome State Fault Refusal :=
  .next (s.command 103 [part] (readLinkAct part))

/-- READ_NOTICES (R188). -/
def execReadNotices (s : State) : Host.Outcome State Fault Refusal := .next (s.command 104 [] readNoticesAct)

/-- READ_CONFIG (R184). -/
def execReadConfig (s : State) : Host.Outcome State Fault Refusal := .next (s.command 105 [] readConfigAct)

/-! ## Other port events -/

/-- UNKNOWN_COMMAND (R183): a code is handed over and taken as the summary says; a code that names no command
completes with UNKNOWN_COMMAND and reply length 0. -/
def execUnknownCommand (code : Byte) (s : State) : Host.Outcome State Fault Refusal :=
  .next (if s.port.token = 0 ∨ s.holds code [] = true then (s.handOver code []).takeHanded
    else (s.setFlag .commandOverrun).takeHanded)

/-- EVENT_FLAGS_WRITE (R187). -/
def execEventFlagsWrite (place : PairByte) (value : Byte) (s : State) : Host.Outcome State Fault Refusal :=
  .next (s.clearFlags place value)

/-- EVENT_MASK_WRITE (R187). -/
def execEventMaskWrite (place : PairByte) (value : Byte) (s : State) : Host.Outcome State Fault Refusal :=
  .next (s.writeMask place value)

/-- PORT_WRITE (R181). -/
def execPortWrite (offset : BitVec 7) (value : Byte) (s : State) : Host.Outcome State Fault Refusal :=
  .next (s.portWrite offset value)

/-- PIN_RESET (R189): RSTn low, then high. -/
def execPinReset (s : State) : Host.Outcome State Fault Refusal := .next s.afterReset

end Sys2Proof.Machine
end

