-- ==== Sys2Proof/Machine/ElementFrames.lean ====
section
/-! DEFINITION. ASK and YIELD frames at the grant arbiter (R34 to R41) with the renewal decision (R9). -/

namespace Sys2Proof.Machine

/-- R35: the fields of an ASK at the arbiter. -/
structure AskFields where
  player : NodeId
  level : BitVec 3
  alliance : BitVec 2
  claim : Byte
  renew : Bool
  offer : Nat
  hold : Half

/-- R192: the fields of an ASK frame. -/
def askOf (f : RxFrame) : AskFields :=
  { player := f.header.sender, level := f.header.level, alliance := f.header.alliance, claim := byteAt f.body 1,
    renew := (byteAt f.body 2).getLsbD 7, offer := (byteAt f.body 2).toNat % 4, hold := halfAt f.body 3 }

/-- Answer an ASK with a refusal (R37). -/
def State.refuseAsk (a : AskFields) (reason : Reason) (s : State) : State :=
  s.answer a.player a.claim (.refused reason.code)

/-- Deny a RENEW (R9, R36). -/
def State.denyRenew (a : AskFields) (reason : Reason) (s : State) : State :=
  s.answer a.player a.claim (.renewDenied reason.code)

/-! ## Known claims (R9, R36) -/

/-- R9: a HELD seat renewed. -/
def Seat.renewed (x : Seat) : Seat :=
  match x with
  | .held c pulse release h => .held { c with hold := c.granted, renews := min (c.renews + 1) 255 } pulse release h
  | .free => .free
  | .guard c r h => .guard c r h
  | .clearing r => .clearing r

/-- R9: a seat is in GUARD. -/
def Seat.isGuard : Seat → Bool
  | .guard _ _ _ => true
  | .free | .held _ _ _ _ | .clearing _ => false

/-- R9: the renewal decision for the seat n under the claim record c. -/
def State.renewSeat (a : AskFields) (n : Nat) (c : Claim) (s : State) : State :=
  if (s.offer c.offer).offerKind ≠ some .renewable then s.denyRenew a .notRenewable
  else match s.seatAt n with
    | none => s
    | some x =>
      if x.isGuard then s.denyRenew a .notHeld
      else if s.arb.waiting.any s.eligible then s.denyRenew a .othersWaiting
      else if s.budgetOf a.player < (s.offer c.offer).cost.toNat then s.denyRenew a .noBudget
      else ((s.charge a.player (s.offer c.offer).cost.toNat).setSeat n x.renewed).answer a.player a.claim
        (.renewed (BitVec.ofNat 16 c.granted))

/-- R36 check 2: the claim is that of the player's occupied seat. -/
def State.knownSeat (a : AskFields) (n : Nat) (c : Claim) (s : State) : State :=
  if a.renew then s.renewSeat a n c
  else s.answer a.player a.claim (.granted (BitVec.ofNat 8 n) (BitVec.ofNat 16 c.granted) c.mark)

/-- A player's waiting entry changed by f. -/
def State.setEntry (p : NodeId) (f : Entry → Entry) (s : State) : State :=
  s.mapArb fun a => { a with waiting := a.waiting.map fun e => if e.player = p then f e else e }

/-- R36 check 3: the entry is refreshed and answered WAITING. -/
def State.refreshEntry (a : AskFields) (s : State) : State :=
  let t := s.setEntry a.player fun e => { e with refreshed := s.fieldMs }
  t.answer a.player a.claim (t.waitingAnswer a.player)

/-! ## New claims (R37 to R39) -/

/-- R38, R39: the run, and the WAITING that follows it when the player was not granted. -/
def State.resolveThenWait (a : AskFields) (s : State) : State :=
  let t := s.resolve
  if (t.entry a.player).isSome then t.answer a.player a.claim (t.waitingAnswer a.player) else t

/-- R29, R39: the entry an ASK makes. -/
def State.entryFor (s : State) (a : AskFields) : Entry :=
  { player := a.player, claim := a.claim, offer := a.offer, hold := clampHold a.hold (s.offer a.offer).maxHold,
    refreshed := s.fieldMs }

/-- R38 check 13: the entry is replaced in place. -/
def State.replaceEntry (a : AskFields) (s : State) : State :=
  (s.setEntry a.player fun _ => s.entryFor a).resolveThenWait a

/-- R39 check 15: an entry is appended. -/
def State.appendEntry (a : AskFields) (s : State) : State :=
  ((s.mapArb fun x => { x with waiting := x.waiting ++ [s.entryFor a] }).setRecord a.player fun r =>
    { r with engagement := .waiting }).resolveThenWait a

/-- R35 checks 12 to 15: the player may ask, and has a record. -/
def State.admitAsk (a : AskFields) (s : State) : State :=
  if (s.seatOf a.player).isSome then s.refuseAsk a .alreadySeated
  else if (s.entry a.player).isSome then s.replaceEntry a
  else if 16 ≤ s.arb.waiting.length then s.refuseAsk a .listFull
  else s.appendEntry a

/-- R35 check 11: the player's standing. -/
def State.askStanding (a : AskFields) (s : State) : State :=
  match s.record a.player with
  | none => s
  | some r =>
    if r.ejected then s.refuseAsk a .ejected
    else if r.benched then s.refuseAsk a .benched
    else if r.budget < (s.offer a.offer).cost.toNat then s.refuseAsk a .noBudget
    else s.admitAsk a

/-- R35 checks 6 to 10: a claim the element does not know. -/
def State.newClaim (a : AskFields) (s : State) : State :=
  if a.level = 7 then s.refuseAsk a .notAligned
  else if s.offerCount ≤ a.offer then s.refuseAsk a .noOffer
  else if !(s.offer a.offer).admits a.alliance then s.refuseAsk a .alliance
  else if s.phase.phase = .prematch ∨ s.phase.phase = .ended ∨ s.openNow (s.offer a.offer) = false then
    s.refuseAsk a .notOpen
  else if (s.record a.player).isNone ∧ 24 ≤ s.arb.ring.length then s.refuseAsk a .ringFull
  else (s.ensureRecord a.player).askStanding a

/-- R13: a player's last-ended claim. -/
def State.lastEnded (s : State) (p : NodeId) : Option (Byte × Reason) := (s.record p).bind StandingRecord.lastEnded

/-- R35 checks 4 and 5, and the new claims behind them. -/
def State.pastClaim (a : AskFields) (s : State) : State :=
  match s.lastEnded a.player with
  | some (claim, reason) =>
    if claim = a.claim then s.answer a.player a.claim (.ended reason.code)
    else if a.renew then s.denyRenew a .notHeld
    else s.newClaim a
  | none => if a.renew then s.denyRenew a .notHeld else s.newClaim a

/-- The occupied seat a player holds under a claim. -/
def State.seatUnder (s : State) (p : NodeId) (claim : Byte) : Option (Nat × Claim) :=
  match s.seatOf p with
  | some (n, c) => if c.number = claim then some (n, c) else none
  | none => none

/-- The waiting entry a player holds under a claim. -/
def State.entryUnder (s : State) (p : NodeId) (claim : Byte) : Option Entry :=
  match s.entry p with
  | some e => if e.claim = claim then some e else none
  | none => none

/-- R35: the ordered checks of an ASK from a PLAYER, taken in RUNNING. -/
def State.checkAsk (a : AskFields) (s : State) : State :=
  match s.seatUnder a.player a.claim with
  | some (n, c) => s.knownSeat a n c
  | none =>
    match s.entryUnder a.player a.claim with
    | some _ => s.refreshEntry a
    | none => s.pastClaim a

/-- R34, R166: the body of an ASK reaches the arbiter of the element it targets. -/
def askBody (f : RxFrame) (s : State) : State :=
  if f.body.length < 5 then s
  else if !s.isElement || !decide (idAt f.body 0 = s.ownId) then s
  else if f.header.role = 0 ∧ s.port.nodeState = .running then s.checkAsk (askOf f)
  else s.countArbiterIgnore

/-- ASK_FRAME (R34, R35). -/
def execAskFrame (s : State) : Host.Outcome State Fault Refusal := .next (s.dispatch 2 discardOwn askBody)

/-! ## YIELD (R41) -/

/-- R41: a YIELD that matches no seat and no entry. -/
def State.pastYield (p : NodeId) (claim : Byte) (s : State) : State :=
  match s.lastEnded p with
  | some (c, reason) => if c = claim then s.answer p claim (.ended reason.code) else s.countArbiterIgnore
  | none => s.countArbiterIgnore

/-- R41: a YIELD from a PLAYER, taken in RUNNING. -/
def State.checkYield (p : NodeId) (claim : Byte) (s : State) : State :=
  match s.seatUnder p claim with
  | some (n, _) => s.endSeatAndResolve n .yielded
  | none =>
    match s.entryUnder p claim with
    | some e => s.endEntry e .withdrawn
    | none => s.pastYield p claim

/-- R41, R166: the body of a YIELD reaches the arbiter of the element it targets. -/
def yieldBody (f : RxFrame) (s : State) : State :=
  if f.body.length < 2 then s
  else if !s.isElement || !decide (idAt f.body 0 = s.ownId) then s
  else if f.header.role = 0 ∧ s.port.nodeState = .running then s.checkYield f.header.sender (byteAt f.body 1)
  else s.countArbiterIgnore

/-- YIELD_FRAME (R41). -/
def execYieldFrame (s : State) : Host.Outcome State Fault Refusal := .next (s.dispatch 3 discardOwn yieldBody)

end Sys2Proof.Machine
end

