-- ==== Sys2Proof/Machine/OrderFrames.lean ====
section
/-! DEFINITION. MARK, SANCTION, TURN, HALT and PATTERN frames (R42, R55 to R60, R89, R118, R128, R176). -/

namespace Sys2Proof.Machine

/-! ## MARK and HALT -/

/-- R118: the body of a MARK. -/
def markBody (f : RxFrame) (s : State) : State :=
  if f.body.length < 6 then s
  else match phaseOfCode (byteAt f.body 1).toNat with
    | none => s.countMarkIgnore
    | some new =>
      if f.header.role = 2 then s.judgeMark (byteAt f.body 0) new (quadAt f.body 2) else s.countMarkIgnore

/-- MARK_FRAME (R118). -/
def execMarkFrame (s : State) : Host.Outcome State Fault Refusal := .next (s.dispatch 5 discardOwn markBody)

/-- R128: a HALT sets the latch and the last-HALT time. -/
def haltBody (_f : RxFrame) (s : State) : State := s.setLatch.noteHalt

/-- HALT_FRAME (R128). -/
def execHaltFrame (s : State) : Host.Outcome State Fault Refusal := .next (s.dispatch 8 discardOwn haltBody)

/-! ## The order test (R55) -/

/-- R55: the order ignore count rises by one. -/
def State.countOrderIgnore (s : State) : State := s.mapPeers fun p => { p with orderIgnore := inc16 p.orderIgnore }

/-- R55: the last order seq of a referee's slot becomes the frame's. -/
def State.adoptOrder (id : NodeId) (seq : Byte) (s : State) : State :=
  s.mapPeers fun p =>
    { p with referees := p.referees.map fun r => if r.id = id then { r with lastSeq := some seq } else r }

/-- R55: an order frame is tested against its referee slot; `take` is the role's handling of a taken order. -/
def State.testOrder (h : Header) (seq : Byte) (take : State → State) (s : State) : State :=
  if h.role ≠ 2 then s.countOrderIgnore
  else match s.peers.referees.find? fun r => decide (r.id = h.sender) with
    | none => s.countOrderIgnore
    | some r =>
      match r.lastSeq with
      | none => take (s.adoptOrder h.sender seq)
      | some last =>
        if newer seq last then take (s.adoptOrder h.sender seq)
        else if seq = last then s
        else s.countOrderIgnore

/-- R55: orders are tested in RUNNING and TEST. -/
def State.takesOrders (s : State) : Bool := s.port.nodeState.sends

/-! ## SANCTION -/

/-- R56, R57, R89: a BENCH duration in ms, clamped into 10..600 units first. -/
def benchMs (duration : Half) : Nat := max 10 (min 600 duration.toNat) * 100

/-- R59: an EJECT at an element: the flag, and the end of the player's seat or entry. -/
def State.eject (p : NodeId) (s : State) : State :=
  let t := s.setRecord p fun r => { r with ejected := true }
  match s.seatOf p with
  | some (n, _) => t.endSeatAndResolve n .sanction
  | none =>
    match s.entry p with
    | some e => t.endEntry e .sanction
    | none => t

/-- R60: a CLEAR at an element; the end of a bench starts a resolution. The resolution of a bench that ran out before
keeps its own event (log entry 1). -/
def State.clearBench (p : NodeId) (s : State) : State :=
  let t := s.setRecord p fun r => { r with bench := 0 }
  match s.record p with
  | some r => if r.benched then t.resolve else t
  | none => t

/-- R56 step 3: the kind of a sanction applied to a standing record. -/
def State.applySanction (p : NodeId) (kind : SanctionKind) (duration : Half) (s : State) : State :=
  match kind with
  | .bench => s.setRecord p fun r => { r with bench := benchMs duration }
  | .eject => s.eject p
  | .clear => s.clearBench p

/-- R56 step 1: the peer table knows the target under another role. -/
def State.notPlayer (s : State) (p : NodeId) : Bool :=
  match lookupId p s.peers.slots with
  | some x => decide (x.role ≠ 0)
  | none => false

/-- R56: a taken SANCTION at an element. -/
def State.sanctionElement (seq : Byte) (p : NodeId) (kind : SanctionKind) (duration : Half) (s : State) : State :=
  if s.notPlayer p then s.countOrderIgnore
  else if (s.record p).isNone ∧ 24 ≤ s.arb.ring.length then s.countOrderIgnore
  else ((s.ensureRecord p).applySanction p kind duration).postNotice .sanctionTaken (idByte p) seq
    (kind.code.setWidth 16)

/-- R89: the kind of a sanction applied to the player's own state. -/
def State.sanctionSelf (kind : SanctionKind) (duration : Half) (s : State) : State :=
  match kind with
  | .bench => s.mapReq fun u => { u with bench := benchMs duration }
  | .eject =>
    (s.mapReq fun u => { u with ejected := true }).endAllRequests .ended (reasonDetail .sanction)
  | .clear => s.mapReq fun u => { u with bench := 0 }

/-- R89: a taken SANCTION at a player. -/
def State.sanctionPlayer (referee : NodeId) (seq : Byte) (p : NodeId) (kind : SanctionKind) (duration : Half)
    (s : State) : State :=
  if p = s.ownId then
    (s.sanctionSelf kind duration).postNotice .sanctioned (idByte referee) seq (kind.code.setWidth 16)
  else s

/-- R55: a taken SANCTION by the node's role; a referee does nothing further (R140). -/
def State.takeSanction (referee : NodeId) (seq : Byte) (p : NodeId) (kind : SanctionKind) (duration : Half)
    (s : State) : State :=
  match s.role with
  | some .element => s.sanctionElement seq p kind duration
  | some .player => s.sanctionPlayer referee seq p kind duration
  | some .referee | none => s

/-- R55, R192: the body of a SANCTION; a kind that names none is not given to the order test. -/
def sanctionBody (f : RxFrame) (s : State) : State :=
  if f.body.length < 5 ∨ s.takesOrders = false then s
  else match sanctionKindOfCode (byteAt f.body 2).toNat with
    | none => s
    | some kind =>
      s.testOrder f.header (byteAt f.body 0)
        (State.takeSanction f.header.sender (byteAt f.body 0) (idAt f.body 1) kind (halfAt f.body 3))

/-- SANCTION_FRAME (R55). -/
def execSanctionFrame (s : State) : Host.Outcome State Fault Refusal := .next (s.dispatch 6 discardOwn sanctionBody)

/-! ## TURN -/

/-- R42: a taken TURN at the element it names. -/
def State.takeTurn (referee : NodeId) (seq : Byte) (element p : NodeId) (s : State) : State :=
  if !s.isElement || !decide (element = s.ownId) then s
  else if (s.record p).isSome then
    ((s.mapArb fun a => { a with ring := turnRing p a.ring }).postNotice .turnTaken (idByte p) seq
      (referee.setWidth 16)).resolve
  else s.countArbiterIgnore

/-- R42, R55: the body of a TURN. -/
def turnBody (f : RxFrame) (s : State) : State :=
  if f.body.length < 3 ∨ s.takesOrders = false then s
  else s.testOrder f.header (byteAt f.body 0)
    (State.takeTurn f.header.sender (byteAt f.body 0) (idAt f.body 1) (idAt f.body 2))

/-- TURN_FRAME (R42). -/
def execTurnFrame (s : State) : Host.Outcome State Fault Refusal := .next (s.dispatch 7 discardOwn turnBody)

/-! ## PATTERN -/

/-- R176 case 1: the seed frame. -/
def Link.seed (sender : NodeId) (bits : List Byte) (seq : Half) (l : Link) : Link :=
  { l with patternSource := some sender, checkGen := some (patternLoad bits), expectedSeq := seq + 1,
           record := { l.record with seedFrames := inc16 l.record.seedFrames } }

/-- R176: a frame counted as ignored. -/
def Link.ignorePattern (l : Link) : Link := { l with record := { l.record with ignored := inc16 l.record.ignored } }

/-- R176 case 3: a frame of the source, d frames after the one expected, compared. -/
def Link.compare (g : BitVec 15) (d : Nat) (bits : List Byte) (seq : Half) (l : Link) : Link :=
  let g1 := patternSteps (256 * d) g
  { l with checkGen := some (patternSteps 256 g1), expectedSeq := seq + 1,
           record := { l.record with
             missed := min (l.record.missed + d) 65535,
             bitErrors := min (l.record.bitErrors + bitDifferences bits (patternBytes 32 g1)) (2 ^ 32 - 1),
             compared := inc16 l.record.compared } }

/-- R176: a PATTERN frame checked. -/
def Link.check (sender : NodeId) (bits : List Byte) (seq : Half) (l : Link) : Link :=
  match l.checkGen with
  | none => l.seed sender bits seq
  | some g =>
    if l.patternSource ≠ some sender then l.ignorePattern
    else
      let d := (seq - l.expectedSeq).toNat
      if 32768 ≤ d then l.ignorePattern else l.compare g d bits seq

/-- R176: PATTERN frames are checked in the kinds PATTERN_CHECK and LOOPBACK. -/
def State.checksPatterns (s : State) : Bool :=
  decide (s.port.nodeState = .test) &&
    decide (s.link.testKind = some .patternCheck ∨ s.link.testKind = some .loopback)

/-- R176: the body of a PATTERN. -/
def patternBody (f : RxFrame) (s : State) : State :=
  if f.body.length < 34 ∨ s.checksPatterns = false then s
  else s.mapLink (Link.check f.header.sender (f.body.take 32) (halfAt f.body 32))

/-- PATTERN_FRAME (R176); in a loopback test the node's own PATTERN is checked (R177). -/
def execPatternFrame (s : State) : Host.Outcome State Fault Refusal := .next (s.dispatch 9 patternBody patternBody)

end Sys2Proof.Machine
end

