-- ==== Sys2Proof/Machine/PeerFrames.lean ====
section
/-! DEFINITION. PRESENCE frames (R62, R70, R84, R142, R143, R166) and ANSWER frames (R63, R79 to R85). -/

namespace Sys2Proof.Machine

/-! ## PRESENCE -/

/-- R70, R71: the entry a PRESENCE body leaves in the element view. -/
def viewEntryFrom (seats : List ViewSeat) (waiting : Byte) (offers : List ViewOffer) (now : Nat) (silent : Bool) :
    ViewEntry :=
  { seats := seats, waiting := waiting, offers := offers, lastHeard := now, silent := silent }

/-- R84: the updated entry shows the player on its seat. -/
def ViewEntry.confirms (v : ViewEntry) (seat : Nat) (own : NodeId) : Bool :=
  match v.seats[seat]? with
  | some x => x.occupied && decide (x.holder = some own)
  | none => false

/-- R84: a SEATED request whose seat the updated entry does not confirm ends with LOST_SEAT. -/
def State.checkSeat (id : NodeId) (v : ViewEntry) (s : State) : State :=
  match s.request id with
  | some r =>
    if r.state = .seated ∧ v.confirms r.seat.toNat s.ownId = false then
      s.closeRequest r .ended (reasonDetail .lostSeat)
    else s
  | none => s

/-- R70, R71: the element view takes a PRESENCE body. -/
def State.takeView (id : NodeId) (seats : List ViewSeat) (waiting : Byte) (offers : List ViewOffer) (s : State) : State :=
  match lookupId id s.req.view with
  | some old =>
    let v := viewEntryFrom seats waiting offers s.fieldMs old.silent
    (s.mapReq fun u => { u with view := insertId id v u.view }).checkSeat id v
  | none =>
    if s.req.view.length < 32 then
      let v := viewEntryFrom seats waiting offers s.fieldMs false
      (s.mapReq fun u => { u with view := insertId id v u.view }).checkSeat id v
    else s.mapReq fun u => { u with viewIgnore := inc16 u.viewIgnore }

/-- R166: an element's PRESENCE goes to the request unit of a player and to the interlock of an element. -/
def State.elementSeen (f : RxFrame) (s : State) : State :=
  match elementPresenceOf f.body with
  | none => s
  | some (seats, waiting, offers) =>
    if s.isPlayer then s.takeView f.header.sender seats waiting offers
    else if s.isElement then s.updateView f.header.sender (PartnerView.takePresence seats s.fieldMs)
    else s

/-- R142: a referee's PRESENCE is recorded in its referee slot. -/
def State.refereeSeen (f : RxFrame) (s : State) : State :=
  if f.body.length < 2 then s
  else s.mapPeers fun p =>
    { p with referees := p.referees.map fun r =>
        if r.id = f.header.sender then { r with ad := some ((byteAt f.body 0).getLsbD 7, byteAt f.body 1) } else r }

/-- R143, R92: the advertised player state of a PRESENCE. -/
def playerAdOf (body : List Byte) : PlayerAd :=
  { benched := (byteAt body 0).getLsbD 7, ejected := (byteAt body 0).getLsbD 6, requests := (byteAt body 0).toNat % 8 }

/-- R143: a player's PRESENCE is recorded in its peer slot. -/
def State.playerSeen (f : RxFrame) (s : State) : State :=
  if f.body.length < 1 then s
  else match lookupId f.header.sender s.peers.slots with
    | some p => s.setSlot f.header.sender { p with ad := some (playerAdOf f.body) }
    | none => s

/-- R166: the body of a PRESENCE, used in RUNNING only. -/
def presenceBodyTaken (f : RxFrame) (s : State) : State :=
  if s.port.nodeState ≠ .running then s
  else if f.header.role = 1 then s.elementSeen f
  else if f.header.role = 2 then s.refereeSeen f
  else s.playerSeen f

/-- PRESENCE_FRAME (R166). -/
def execPresenceFrame (s : State) : Host.Outcome State Fault Refusal := .next (s.dispatch 1 discardOwn presenceBodyTaken)

/-! ## ANSWER at a player -/

/-- R85: the stray count rises by one. -/
def State.countStray (s : State) : State := s.mapReq fun u => { u with strayCount := inc16 u.strayCount }

/-- R83: a request takes a seat: seat index, granted hold and countdown set, no margin. -/
def Request.takeSeat (seat : Byte) (hold : Half) (r : Request) : Request :=
  { r with seat := seat, granted := hold, countdown := hold.toNat, margin := none }

/-- R80: a request in ASKING or WAITING takes an answer. -/
def State.answerOpen (r : Request) (a : AnswerBody) (s : State) : State :=
  match a with
  | .granted seat hold _ =>
    (s.setRequest r.element fun q =>
      { (q.noWait).takeSeat seat hold with state := .seated, refreshDue := none }).postNotice .granted
      (idByte r.element) r.claim hold
  | .waiting position count =>
    let t := s.setRequest r.element fun q =>
      { q.noWait with state := .waiting, position := position, count := count, refreshDue := some (s.localMs + 500) }
    if r.state = .asking then t.postNotice .waiting (idByte r.element) r.claim (position.setWidth 16) else t
  | .refused reason => s.closeRequest r .refused (reason.setWidth 16)
  | .ended reason => s.closeRequest r .ended (reason.setWidth 16)
  | .renewed _ | .renewDenied _ => s.countStray

/-- R81: an answer settles an open wait while renew pending is clear. -/
def Request.settleUnlessRenewing (r : Request) : Request := if r.renewPending then r else r.noWait

/-- R81: a SEATED request takes an answer. -/
def State.answerSeated (r : Request) (a : AnswerBody) (s : State) : State :=
  match a with
  | .granted seat hold _ =>
    s.setRequest r.element fun q =>
      if q.seat = seat then q.settleUnlessRenewing else q.settleUnlessRenewing.takeSeat seat hold
  | .renewed hold =>
    (s.setRequest r.element fun q =>
      { q.noWait with renewPending := false, countdown := hold.toNat, margin := none }).postNotice .renewed
      (idByte r.element) r.claim hold
  | .renewDenied reason =>
    (s.setRequest r.element fun q => { q.noWait with renewPending := false }).postNotice .renewDenied
      (idByte r.element) r.claim (reason.setWidth 16)
  | .ended reason => s.closeRequest r .ended (reason.setWidth 16)
  | .waiting _ _ | .refused _ => s.countStray

/-- R82: a YIELDING request takes an answer. -/
def State.answerYielding (r : Request) (a : AnswerBody) (s : State) : State :=
  match a with
  | .ended reason => s.closeRequest r .ended (reason.setWidth 16)
  | .granted _ _ _ => s
  | .waiting _ _ | .refused _ | .renewed _ | .renewDenied _ => s.countStray

/-- R85: an answer that matches no request. -/
def State.strayAnswer (sender : NodeId) (fromElement : Bool) (claim : Byte) (a : AnswerBody) (s : State) : State :=
  match a with
  | .granted _ _ _ => if fromElement then s.send (.yield sender claim) else s.countStray
  | .waiting _ _ | .refused _ | .ended _ | .renewed _ | .renewDenied _ => s.countStray

/-- R79: an answer whose target is this player. -/
def State.takeAnswer (sender : NodeId) (fromElement : Bool) (claim : Byte) (a : AnswerBody) (s : State) : State :=
  if !fromElement then s.strayAnswer sender false claim a
  else match s.requestOf sender claim with
    | none => s.strayAnswer sender true claim a
    | some r =>
      match r.state with
      | .asking | .waiting => s.answerOpen r a
      | .seated => s.answerSeated r a
      | .yielding => s.answerYielding r a

/-- R166: the body of an ANSWER, used in RUNNING only, by the player it targets and by an element whose partner sent
it. -/
def answerBodyTaken (f : RxFrame) (s : State) : State :=
  if s.port.nodeState ≠ .running then s
  else match answerOf f.body with
    | none => s
    | some a =>
      if s.isPlayer then
        if idAt f.body 0 = s.ownId then
          s.takeAnswer f.header.sender (decide (f.header.role = 1)) (byteAt f.body 1) a
        else s
      else if s.isElement && decide (f.header.role = 1) then
        s.updateView f.header.sender (PartnerView.takeAnswer (idAt f.body 0) (byteAt f.body 1) a s.fieldMs)
      else s

/-- ANSWER_FRAME (R79, R63). -/
def execAnswerFrame (s : State) : Host.Outcome State Fault Refusal := .next (s.dispatch 4 discardOwn answerBodyTaken)

end Sys2Proof.Machine
end

