-- ==== Sys2Proof/Machine/PinEvents.lean ====
section
/-! DEFINITION. Events on the input pins: STOPn (R129), a sense input of a silent holder's seat (R20), carrier detect
(R160, R161). -/

namespace Sys2Proof.Machine

/-- STOP_ACTIVE (R129): STOPn is read low. In CONFIG it is not read (R116); a STOP state already active stays so. -/
def execStopActive (s : State) : Host.Outcome State Fault Refusal :=
  let t := s.mapPins fun p => { p with stopLow := true }
  .next (if t.port.nodeState.isStarted && !t.phase.stop then t.activateStop else t)

/-- STOP_INACTIVE (R129): STOPn is read high. -/
def execStopInactive (s : State) : Host.Outcome State Fault Refusal :=
  let t := s.mapPins fun p => { p with stopLow := false }
  .next (if t.port.nodeState.isStarted && t.phase.stop then t.deactivateStop else t)

/-- R20: the seat is occupied and held for a silent holder. -/
def Seat.isSilentHeld : Seat → Bool
  | .guard _ _ h => h
  | .held _ _ _ h => h
  | .free | .clearing _ => false

/-- SILENT_HOLDER_SENSE_LOST (R20): the seat is held for a silent holder and its input is read inactive (log entry
30). -/
def execSilentHolderSenseLost (n : Nat) (s : State) : Host.Outcome State Fault Refusal :=
  .next (match s.seatAt n with
    | some x => if x.isSilentHeld && !s.senseActive n then s.endSeatAndResolve n .silent else s
    | none => s)

/-- R160, R161: a rise of CD on the contention in progress: before the draw the gap is lost and k rises; after it the
gap is lost, or the countdown is frozen with the slots counted so far (log entry 7). -/
def Channel.carrierRise (slotsCounted : Nat) (c : Channel) : Channel :=
  match c.contention with
  | none => c
  | some k =>
    match k.slots with
    | none => { c with contention := some (Contention.waiting none) }.raiseExponent
    | some b =>
      let left := if k.gapDone then b - max slotsCounted k.passed else b
      { c with contention := some (Contention.waiting (some left)) }

/-- CARRIER_DETECT_RISE (R160, R161). CD is not read in a loopback test (R177). -/
def execCarrierDetectRise (slotsCounted : Nat) (s : State) : Host.Outcome State Fault Refusal :=
  .next (if s.pins.cd then s
    else
      let t := s.mapPins fun p => { p with cd := true }
      if s.inLoopback then t else t.mapChan (Channel.carrierRise slotsCounted))

/-- R160: a fall of CD starts the idle gap of a waiting or frozen contention from 0. -/
def Channel.carrierFall (c : Channel) : Channel :=
  { c with contention := c.contention.map fun k => Contention.waiting k.remaining }

/-- CARRIER_DETECT_FALL (R160). -/
def execCarrierDetectFall (s : State) : Host.Outcome State Fault Refusal :=
  .next (if s.pins.cd then
      let t := s.mapPins fun p => { p with cd := false }
      if s.inLoopback then t else t.mapChan Channel.carrierFall
    else s)

end Sys2Proof.Machine
end

