-- ==== Sys2Proof/Machine/PlayerEvents.lean ====
section
/-! DEFINITION. The expiries of the request unit (R77, R78, R83, R89). Each acts when its time has come, and otherwise
changes nothing (log entry 2). -/

namespace Sys2Proof.Machine

/-- PLAYER_BENCH_EXPIRY (R89): the bench has counted to 0, so the player is no longer benched; the event is taken and
nothing is sent or posted (log entry 1). -/
def execPlayerBenchExpiry (s : State) : Host.Outcome State Fault Refusal :=
  .next (s.mapReq fun u => { u with benchEnding := false })

/-- ANSWER_WAIT_MISS (R77): the present local ms has reached the request's answer deadline. -/
def execAnswerWaitMiss (element : NodeId) (s : State) : Host.Outcome State Fault Refusal :=
  .next (match s.request element with
    | some r =>
      match r.deadline, r.waitFrame with
      | some d, some frame => if d ≤ s.localMs then s.miss r frame else s
      | _, _ => s
    | none => s)

/-- REFRESH_DUE (R78): the refresh due is cleared, tries left becomes 3, and the ASK is queued again. -/
def execRefreshDue (element : NodeId) (s : State) : Host.Outcome State Fault Refusal :=
  .next (match s.request element with
    | some r =>
      match r.refreshDue with
      | some d =>
        if r.state = .waiting ∧ d ≤ s.localMs then
          (s.setRequest element fun q => { q with refreshDue := none, tries := 3 }).sendOfRequest (r.askFrame false)
        else s
      | none => s
    | none => s)

/-- HOLD_COUNTDOWN_EXPIRY (R83): the margin of 250 ms begins. -/
def execHoldCountdownExpiry (element : NodeId) (s : State) : Host.Outcome State Fault Refusal :=
  .next (match s.request element with
    | some r =>
      if r.state = .seated ∧ r.countdown = 0 ∧ r.margin = none then
        s.setRequest element fun q => { q with margin := some 250 }
      else s
    | none => s)

/-- MARGIN_EXPIRY (R83): the request ends with EXPIRED and no frame is sent. -/
def execMarginExpiry (element : NodeId) (s : State) : Host.Outcome State Fault Refusal :=
  .next (match s.request element with
    | some r =>
      if r.state = .seated ∧ r.margin = some 0 then s.closeRequest r .ended (reasonDetail .expired) else s
    | none => s)

end Sys2Proof.Machine
end

