-- ==== Sys2Proof/Machine/RadioEvents.lean ====
section
/-! DEFINITION. The field channel's events: contention, transmission (R153 to R162, R170, R171, R177, R178) and
reception (R163, R164, R168). -/

namespace Sys2Proof.Machine

/-! ## The PRESENCE body (R23, R92, R142, R192) -/

/-- R23: a seat as the element's PRESENCE shows it. -/
def Seat.presenceBytes (x : Seat) : List Byte :=
  [x.code, holderByte (x.claim?.map Claim.player)]
    ++ bytesOf 2 (match x.claim? with | some c => c.mark.toNat | none => 0)

/-- R23, R192: an offer as the element's PRESENCE shows it, open now by R2. -/
def State.offerPresence (s : State) (o : OfferSlot) : List Byte :=
  [(o.kind.setWidth 2 : BitVec 2) ++ BitVec.ofBool (s.openNow o) ++ (o.restriction.setWidth 2 : BitVec 2) ++ (0 : BitVec 3),
    o.cost] ++ bytesOf 2 o.maxHold.toNat

/-- R23: the body of an element's PRESENCE; the bits of an offer that R192 leaves out are 0 (log entry 41). -/
def State.elementPresence (s : State) : List Byte :=
  [BitVec.ofNat 8 s.seat.table.length] ++ s.seat.table.flatMap Seat.presenceBytes
    ++ [BitVec.ofNat 8 s.arb.waiting.length, BitVec.ofNat 8 s.offerCount]
    ++ (List.range s.offerCount).flatMap fun i => s.offerPresence (s.offer i)

/-- R92: the body of a player's PRESENCE; the bits that R192 leaves out are 0 (log entry 41). -/
def State.playerPresence (s : State) : List Byte :=
  [BitVec.ofBool s.req.benched ++ BitVec.ofBool s.req.ejected ++ (0 : BitVec 3) ++ BitVec.ofNat 3 s.req.list.length]

/-- R142: the body of a referee's PRESENCE; the bits that R192 leaves out are 0 (log entry 41). -/
def State.refereePresence (s : State) : List Byte :=
  [BitVec.ofBool s.sourceFlag ++ (0 : BitVec 7), s.ref.orderSeq]

/-- R155: the body of a PRESENCE, composed by the sender's role from the state at that moment. -/
def State.presenceBody (s : State) : List Byte :=
  match s.role with
  | some .element => s.elementPresence
  | some .player => s.playerPresence
  | some .referee => s.refereePresence
  | none => []

/-! ## Contention (R160, R161) -/

/-- R161: the slots of a contention, made at its first completed gap: none for a HALT at the head, otherwise a draw of
k bits. -/
def State.drawSlots (s : State) : State × Nat :=
  if (headOf s.chan.txQueue).map QueuedFrame.body = some .halt then (s, 0) else s.draw s.chan.exponent

/-- The contention of the channel replaced. -/
def State.setContention (k : Option Contention) (s : State) : State := s.mapChan fun c => { c with contention := k }

/-- IDLE_GAP_COMPLETE (R160, R161): CD has been low for 128 µs. -/
def execIdleGapComplete (s : State) : Host.Outcome State Fault Refusal :=
  .next (match s.chan.contention with
    | some k =>
      if k.gapDone || s.carrier then s
      else match k.slots with
        | some b => s.setContention (some (Contention.counting b))
        | none =>
          let (t, b) := s.drawSlots
          t.setContention (some (Contention.counting b))
    | none => s)

/-! ## Transmission -/

/-- R178: the first body bit inverted. -/
def invertFirst (body : List Byte) : List Byte :=
  match body with
  | [] => []
  | b :: rest => (b ^^^ 0x80) :: rest

/-- R155, R178: the body of a frame as its transmission begins, and link supervision's note of an inserted error. -/
def State.composeBody (body : TxBody) (s : State) : State × List Byte :=
  match body with
  | .presence => (s, s.presenceBody)
  | .pattern bits seq =>
    if s.link.insertPending then
      (s.mapLink fun l =>
        { l with insertPending := false,
                 record := { l.record with errorsInserted := inc16 l.record.errorsInserted } },
        invertFirst (TxBody.pattern bits seq).bytes)
    else (s, (TxBody.pattern bits seq).bytes)
  | .ask t c r o h => (s, (TxBody.ask t c r o h).bytes)
  | .yield t c => (s, (TxBody.yield t c).bytes)
  | .answer t c a => (s, (TxBody.answer t c a).bytes)
  | .mark q p b => (s, (TxBody.mark q p b).bytes)
  | .sanction q t k d => (s, (TxBody.sanction q t k d).bytes)
  | .turn q e p => (s, (TxBody.turn q e p).bytes)
  | .halt => (s, [])

/-- R155: a transmission begins with the frame at the head of the queue; a reception in progress is abandoned when TXEN
rises, which it does not in a loopback test (R177). -/
def State.beginTransmission (f : QueuedFrame) (s : State) : State :=
  let looped := s.inLoopback
  let header := s.headerFor f.body.kindCode
  let (t, body) := s.composeBody f.body
  t.mapChan fun c =>
    { c with txQueue := withoutHead c.txQueue, contention := none,
             reception := if looped then c.reception else none,
             txFrame := some { frame := f, header := header, body := body, stampOpen := true, looped := looped } }

/-- CONTENTION_COMPLETE (R160): the gap is complete, the slots are counted down and CD is low. -/
def execContentionComplete (s : State) : Host.Outcome State Fault Refusal :=
  .next (match s.chan.contention, headOf s.chan.txQueue with
    | some k, some f =>
      if k.gapDone && k.slots.isSome && !s.carrier && s.chan.txFrame.isNone then s.beginTransmission f else s
    | _, _ => s)

/-- R170, R171: the power judgment of a frame sent with TXEN, one that a loopback test has found in transmission among them (log
entry 40). -/
def State.judgePower (seen : Bool) (s : State) : State :=
  let t := s.mapLink fun l => { l with lastPower := some (if seen then .seen else .notSeen), txFault := !seen }
  if s.link.txFault = !seen then t
  else if seen then (t.setFlag .txFault).resolve
  else t.setFlag .txFault

/-- R76, R78: the end of the transmission of a request's ASK or YIELD opens its answer wait. -/
def State.openWait (f : QueuedFrame) (s : State) : State :=
  match f.request s with
  | some r =>
    s.setRequest r.element fun q =>
      { q with deadline := some (s.localMs + 40), waitFrame := some f.body, refreshDue := none }
  | none => s

/-- TRANSMISSION_END (R155): k returns to 3, the frame is counted and judged, its answer wait begins, and the next
contention begins if the queue holds a frame. -/
def execTransmissionEnd (txpdSeen : Bool) (s : State) : Host.Outcome State Fault Refusal :=
  .next (match s.chan.txFrame with
    | some f =>
      let s1 := (s.mapChan fun c => { c with txFrame := none, exponent := 3 }).mapLink fun l =>
        { l with window := { l.window with sent := inc16 l.window.sent } }
      let s2 := if f.looped then s1 else s1.judgePower txpdSeen
      (s2.openWait f.frame).beginContention
    | none => s)

/-! ## Reception -/

/-- The reception of the channel replaced. -/
def State.setReception (r : Option Reception) (s : State) : State := s.mapChan fun c => { c with reception := r }

/-- R177, R154: in a loopback test the receiver takes the frame as it is sent, both stamps taken at its sync word. -/
def State.loopSync (f : TxFrame) (s : State) : State :=
  let sent := { f with header := { f.header with stamp := s.ftStamp }, stampOpen := false }
  (s.mapChan fun c => { c with txFrame := some sent }).setReception
    (some { stamp := s.ftStamp, looped := some (frameBytes sent.header sent.body) })

/-- SYNC_WORD_FOUND (R163): the receiver, hunting, finds the sync word and takes the local stamp. -/
def execSyncWordFound (s : State) : Host.Outcome State Fault Refusal :=
  .next (if !s.port.nodeState.isStarted || s.chan.reception.isSome then s
    else if s.inLoopback then
      match s.chan.txFrame with
      | some f => if f.looped && f.stampOpen then s.loopSync f else s
      | none => s
    else if s.txen then s
    else s.setReception (some { stamp := s.ftStamp, looped := none }))

/-- R168: a valid frame: the link remaining is reloaded, and a lost link is back, with a resolution (R169). -/
def State.linkHeard (s : State) : State :=
  let t := s.mapLink fun l => { l with remaining := 2000, lost := false }
  if s.link.lost then (t.setFlag .linkBack).resolve else t

/-- R164: a good frame enters the receive queue, or is dropped at a full one and counted. -/
def State.enterRx (f : RxFrame) (s : State) : State :=
  if s.chan.rxQueue.length < 4 then s.mapChan fun c => { c with rxQueue := c.rxQueue ++ [f] }
  else s.mapLink fun l => { l with window := { l.window with overflow := inc16 l.window.overflow } }

/-- R163, R168, R172: a good frame is counted and reported, and then queued. -/
def State.takeGood (f : RxFrame) (s : State) : State :=
  let t := s.mapLink fun l => { l with window := { l.window with good := inc16 l.window.good } }
  (if f.header.sender = s.ownId then t else t.linkHeard).enterRx f

/-- R163: the checks of a frame whose bytes, the length byte first, have been received; too few bytes leave it in
reception (log entry 14). -/
def State.receive (bs : List Byte) (stamp : Quad) (s : State) : State :=
  let n := (byteAt bs 0).toNat
  let covered := bs.take (n + 1)
  let header := headerOf (covered.drop 1)
  let ended := s.setReception none
  if bs = [] then s
  else if n < 8 ∨ 56 < n then
    ended.mapLink fun l => { l with window := { l.window with format := inc16 l.window.format } }
  else if bs.length < n + 3 then s
  else if crc16 covered ≠ halfAt bs (n + 1) then
    ended.mapLink fun l => { l with window := { l.window with crc := inc16 l.window.crc } }
  else if !namesKind header.kind then
    ended.mapLink fun l => { l with window := { l.window with kind := inc16 l.window.kind } }
  else ended.takeGood { header := header, body := covered.drop 9, stamp := stamp }

/-- R177: the bytes a reception reads: the node's own frame in a loopback test, otherwise what RXD carries. -/
def State.receivedBytes (s : State) (r : Reception) (rxd : List Byte) : List Byte :=
  if s.inLoopback then r.looped.getD rxd else rxd

/-- FRAME_RECEIVED (R163). -/
def execFrameReceived (bytes : List Byte) (s : State) : Host.Outcome State Fault Refusal :=
  .next (match s.chan.reception with
    | some r => s.receive (s.receivedBytes r bytes) r.stamp
    | none => s)

end Sys2Proof.Machine
end

