-- ==== Sys2Proof/Machine/SeatEvents.lean ====
section
/-! DEFINITION. The expiries of the seat timers (R6, R8, R10, R11, R15, R19), of a waiting entry (R31) and of a bench at
an element (R58). Each acts when its counter has run out, and otherwise changes nothing (log entry 2). -/

namespace Sys2Proof.Machine

/-- GUARD_EXPIRY (R6): the seat enters HELD with its entry actions. -/
def execGuardExpiry (n : Nat) (s : State) : Host.Outcome State Fault Refusal :=
  .next (match s.seatAt n with
    | some (.guard c remaining h) => if remaining = 0 then s.setSeat n (s.enterHeld c h) else s
    | some .free | some (.held _ _ _ _) | some (.clearing _) | none => s)

/-- HOLD_EXPIRY (R8): the seat ends with EXPIRED. -/
def execHoldExpiry (n : Nat) (s : State) : Host.Outcome State Fault Refusal :=
  .next (match s.seatAt n with
    | some (.held c _ _ _) => if c.hold = 0 then s.endSeatAndResolve n .expired else s
    | some .free | some (.guard _ _ _) | some (.clearing _) | none => s)

/-- R10: what an expired pulse countdown does: one unit is charged and a pulse begins, or the seat ends BUDGET_SPENT. -/
def State.pulseDue (n : Nat) (c : Claim) (release : Nat) (silentHeld : Bool) (s : State) : State :=
  if 1 ≤ s.budgetOf c.player then
    (s.charge c.player 1).setSeat n
      (.held { c with countdown := (s.offer c.offer).pulsePeriod.toNat } (some 50) release silentHeld)
  else s.endSeatAndResolve n .budgetSpent

/-- PULSE_COUNTDOWN_EXPIRY (R10): the hold expiry of the same boundary is taken first. -/
def execPulseCountdownExpiry (n : Nat) (s : State) : Host.Outcome State Fault Refusal :=
  .next (match s.seatAt n with
    | some (.held c _ release h) =>
      if s.metered c.offer && decide (c.countdown = 0) then
        if c.hold = 0 then s.endSeatAndResolve n .expired else s.pulseDue n c release h
      else s
    | some .free | some (.guard _ _ _) | some (.clearing _) | none => s)

/-- PULSE_END (R11). -/
def execPulseEnd (n : Nat) (s : State) : Host.Outcome State Fault Refusal :=
  .next (match s.seatAt n with
    | some (.held c (some p) release h) => if p = 0 then s.setSeat n (.held c none release h) else s
    | some (.held _ none _ _) | some .free | some (.guard _ _ _) | some (.clearing _) | none => s)

/-- SENSE_RELEASE_EXPIRY (R19): the seat ends with SENSE_LOST, unless it is held for a silent holder (R20). -/
def execSenseReleaseExpiry (n : Nat) (s : State) : Host.Outcome State Fault Refusal :=
  .next (match s.seatAt n with
    | some (.held _ _ release h) =>
      if s.senseUse && !h && decide (release = 0) then s.endSeatAndResolve n .senseLost else s
    | some .free | some (.guard _ _ _) | some (.clearing _) | none => s)

/-- CLEARING_EXPIRY (R15): the seat enters FREE and a resolution starts. -/
def execClearingExpiry (n : Nat) (s : State) : Host.Outcome State Fault Refusal :=
  .next (match s.seatAt n with
    | some (.clearing remaining) => if remaining = 0 then (s.setSeat n .free).resolve else s
    | some .free | some (.guard _ _ _) | some (.held _ _ _ _) | none => s)

/-- ENTRY_STALE (R31): the field ms has reached the entry's last-refresh time plus 1,500. -/
def execEntryStale (player : NodeId) (s : State) : Host.Outcome State Fault Refusal :=
  .next (match s.entry player with
    | some e => if e.refreshed + 1500 ≤ s.fieldMs then s.endEntry e .stale else s
    | none => s)

/-- BENCH_EXPIRY (R58): the bench has counted to 0 and a resolution starts. -/
def execBenchExpiry (player : NodeId) (s : State) : Host.Outcome State Fault Refusal :=
  .next (match s.record player with
    | some r =>
      if r.benchEnding then (s.setRecord player fun q => { q with benchEnding := false }).resolve else s
    | none => s)

end Sys2Proof.Machine
end

