-- ==== Sys2Proof/Machine/Dispatch.lean ====
section
/-! DEFINITION. The effect of each command of the block, one arm for each row of spec/opcode_table.json. -/

namespace Sys2Proof.Machine

def exec (i : Instr) (s : State) : Host.Outcome State Fault Refusal :=
  match i with
  | .setNode nodeId role alliance => Sys2Proof.Machine.execSetNode nodeId role alliance s
  | .setTiming presencePeriod silenceTime linkDelay stepLimit windowLength => Sys2Proof.Machine.execSetTiming presencePeriod silenceTime linkDelay stepLimit windowLength s
  | .setElement seats offers budgetBase reloadPhases ringMode clearing senseUse mute => Sys2Proof.Machine.execSetElement seats offers budgetBase reloadPhases ringMode clearing senseUse mute s
  | .setOffer slot kind maxHold cost openPhases restriction pulsePeriod => Sys2Proof.Machine.execSetOffer slot kind maxHold cost openPhases restriction pulsePeriod s
  | .setPartner count id0 rule0 id1 rule1 => Sys2Proof.Machine.execSetPartner count id0 rule0 id1 rule1 s
  | .setReferee source => Sys2Proof.Machine.execSetReferee source s
  | .start => Sys2Proof.Machine.execStart s
  | .reset => Sys2Proof.Machine.execReset s
  | .ask element offer hold => Sys2Proof.Machine.execAsk element offer hold s
  | .yield element => Sys2Proof.Machine.execYield element s
  | .renew element => Sys2Proof.Machine.execRenew element s
  | .sendMark phase lead => Sys2Proof.Machine.execSendMark phase lead s
  | .sendSanction player kind duration => Sys2Proof.Machine.execSendSanction player kind duration s
  | .sendTurn element player => Sys2Proof.Machine.execSendTurn element player s
  | .haltOn => Sys2Proof.Machine.execHaltOn s
  | .haltOff => Sys2Proof.Machine.execHaltOff s
  | .trimMode mode => Sys2Proof.Machine.execTrimMode mode s
  | .trimSet trim => Sys2Proof.Machine.execTrimSet trim s
  | .testBegin kind => Sys2Proof.Machine.execTestBegin kind s
  | .testEnd => Sys2Proof.Machine.execTestEnd s
  | .insertError => Sys2Proof.Machine.execInsertError s
  | .readSeats start => Sys2Proof.Machine.execReadSeats start s
  | .readWaiting start => Sys2Proof.Machine.execReadWaiting start s
  | .readRing start => Sys2Proof.Machine.execReadRing start s
  | .readRequests start => Sys2Proof.Machine.execReadRequests start s
  | .readView start => Sys2Proof.Machine.execReadView start s
  | .readPeer nodeId => Sys2Proof.Machine.execReadPeer nodeId s
  | .readTime => Sys2Proof.Machine.execReadTime s
  | .readLink part => Sys2Proof.Machine.execReadLink part s
  | .readNotices => Sys2Proof.Machine.execReadNotices s
  | .readConfig => Sys2Proof.Machine.execReadConfig s
  | .unknownCommand code => Sys2Proof.Machine.execUnknownCommand code s
  | .eventFlagsWrite place value => Sys2Proof.Machine.execEventFlagsWrite place value s
  | .eventMaskWrite place value => Sys2Proof.Machine.execEventMaskWrite place value s
  | .portWrite offset value => Sys2Proof.Machine.execPortWrite offset value s
  | .pinReset => Sys2Proof.Machine.execPinReset s
  | .stopActive => Sys2Proof.Machine.execStopActive s
  | .stopInactive => Sys2Proof.Machine.execStopInactive s
  | .silentHolderSenseLost seat => Sys2Proof.Machine.execSilentHolderSenseLost seat s
  | .carrierDetectRise slotsCounted => Sys2Proof.Machine.execCarrierDetectRise slotsCounted s
  | .ftAdvance sense => Sys2Proof.Machine.execFtAdvance sense s
  | .guardExpiry seat => Sys2Proof.Machine.execGuardExpiry seat s
  | .holdExpiry seat => Sys2Proof.Machine.execHoldExpiry seat s
  | .pulseCountdownExpiry seat => Sys2Proof.Machine.execPulseCountdownExpiry seat s
  | .pulseEnd seat => Sys2Proof.Machine.execPulseEnd seat s
  | .senseReleaseExpiry seat => Sys2Proof.Machine.execSenseReleaseExpiry seat s
  | .clearingExpiry seat => Sys2Proof.Machine.execClearingExpiry seat s
  | .entryStale player => Sys2Proof.Machine.execEntryStale player s
  | .benchExpiry player => Sys2Proof.Machine.execBenchExpiry player s
  | .playerBenchExpiry => Sys2Proof.Machine.execPlayerBenchExpiry s
  | .holdoverExpiry => Sys2Proof.Machine.execHoldoverExpiry s
  | .markBoundaryReached => Sys2Proof.Machine.execMarkBoundaryReached s
  | .haltDue => Sys2Proof.Machine.execHaltDue s
  | .markCopyDue => Sys2Proof.Machine.execMarkCopyDue s
  | .orderCopyDue => Sys2Proof.Machine.execOrderCopyDue s
  | .answerWaitMiss element => Sys2Proof.Machine.execAnswerWaitMiss element s
  | .refreshDue element => Sys2Proof.Machine.execRefreshDue element s
  | .holdCountdownExpiry element => Sys2Proof.Machine.execHoldCountdownExpiry element s
  | .marginExpiry element => Sys2Proof.Machine.execMarginExpiry element s
  | .peerSilent node => Sys2Proof.Machine.execPeerSilent node s
  | .linkLost => Sys2Proof.Machine.execLinkLost s
  | .windowEnd => Sys2Proof.Machine.execWindowEnd s
  | .listenEnd => Sys2Proof.Machine.execListenEnd s
  | .presenceDue => Sys2Proof.Machine.execPresenceDue s
  | .patternDue => Sys2Proof.Machine.execPatternDue s
  | .idleGapComplete => Sys2Proof.Machine.execIdleGapComplete s
  | .contentionComplete => Sys2Proof.Machine.execContentionComplete s
  | .transmissionEnd txpdSeen => Sys2Proof.Machine.execTransmissionEnd txpdSeen s
  | .frameReceived bytes => Sys2Proof.Machine.execFrameReceived bytes s
  | .presenceFrame => Sys2Proof.Machine.execPresenceFrame s
  | .askFrame => Sys2Proof.Machine.execAskFrame s
  | .yieldFrame => Sys2Proof.Machine.execYieldFrame s
  | .answerFrame => Sys2Proof.Machine.execAnswerFrame s
  | .markFrame => Sys2Proof.Machine.execMarkFrame s
  | .sanctionFrame => Sys2Proof.Machine.execSanctionFrame s
  | .turnFrame => Sys2Proof.Machine.execTurnFrame s
  | .haltFrame => Sys2Proof.Machine.execHaltFrame s
  | .patternFrame => Sys2Proof.Machine.execPatternFrame s
  | .carrierDetectFall => Sys2Proof.Machine.execCarrierDetectFall s
  | .syncWordFound => Sys2Proof.Machine.execSyncWordFound s

end Sys2Proof.Machine
end

