-- ==== Sys2Proof/Safety.lean ====
section
/-! DEFINITION. What the model's statements speak of: when no expiry is due, what a completed command shows, what is kept
outside a block, and the laws the spec gives the state. -/

namespace Sys2Proof.Machine

/-! ## No expiry is due (log entry 1) -/

/-- No timer of a seat has run out. -/
def State.seatSettled (s : State) (x : Seat) : Bool :=
  match x with
  | .free => true
  | .guard _ remaining _ => decide (remaining ≠ 0)
  | .clearing remaining => decide (remaining ≠ 0)
  | .held c pulse release h =>
    decide (c.hold ≠ 0) && !(s.metered c.offer && decide (c.countdown = 0)) && decide (pulse ≠ some 0)
      && !(s.senseUse && !h && decide (release = 0))

/-- No timer of a request has run out. -/
def State.requestSettled (s : State) (r : Request) : Bool :=
  (match r.deadline with | some d => decide (s.localMs < d) | none => true)
    && (match r.refreshDue with | some d => decide (s.localMs < d) | none => true)
    && !(decide (r.state = .seated) && (decide (r.margin = some 0) || decide (r.margin = none ∧ r.countdown = 0)))

/-- No due time is reached. -/
def State.later (s : State) (due : Option Nat) : Bool :=
  match due with
  | some d => decide (s.localMs < d)
  | none => true

/-- No expiry of any block is due: what holds when every row of an expiry that has come has been taken. -/
def State.settled (s : State) : Bool :=
  s.seat.table.all s.seatSettled && s.req.list.all s.requestSettled
    && s.arb.waiting.all (fun e => decide (s.fieldMs < e.refreshed + 1500)) && s.arb.ring.all (fun r => !r.benchEnding)
    && !s.req.benchEnding && !(decide (s.time.align = .holdover ∧ s.time.holdover = 0))
    && (match s.phase.pending with | some m => decide (s.time.ft < m.boundary) | none => true)
    && s.later s.phase.haltDue && s.later (s.ref.marks.map MarkSchedule.due) && s.later (s.ref.orders.map OrderSchedule.due)
    && s.later s.chan.presenceDue && s.later s.link.patternDue
    && s.peers.slots.all (fun x => !(x.2.heard && decide (x.2.silence = 0)))
    && (s.link.lost || decide (s.link.remaining ≠ 0)) && decide (s.link.elapsed < s.link.windowLength)
    && !(decide (s.port.nodeState = .listening ∧ s.port.listenRemaining = 0))

/-! ## A completed command (R182) -/

/-- R182: what the completion of a command shows at the port. -/
def Shows (t : State) (result : ResultCode) (reply : List Byte) : Prop :=
  t.port.token = 0 ∧ t.port.result = result.code ∧ t.port.replyLength = BitVec.ofNat 8 reply.length ∧
    t.port.reply = reply ++ List.replicate (62 - reply.length) 0 ∧ t.hasFlag .commandDone = true

/-- Every block but the port is as it was. -/
def SameOutsidePort (s t : State) : Prop :=
  t.chan = s.chan ∧ t.link = s.link ∧ t.peers = s.peers ∧ t.time = s.time ∧ t.phase = s.phase ∧ t.seat = s.seat ∧
    t.arb = s.arb ∧ t.views = s.views ∧ t.req = s.req ∧ t.ref = s.ref ∧ t.pins = s.pins ∧ t.localMs = s.localMs ∧
    t.freeIndex = s.freeIndex ∧ t.pending = s.pending

/-- The port's mask, notices, node state, listen remaining, stored configuration and open transaction are as they were. -/
def SamePort (s t : State) : Prop :=
  t.port.mask = s.port.mask ∧ t.port.notices = s.port.notices ∧ t.port.nodeState = s.port.nodeState ∧
    t.port.listenRemaining = s.port.listenRemaining ∧ t.port.cfg = s.port.cfg ∧ t.port.spi = s.port.spi

/-- R182: COMMAND_DONE is set, and no other event flag changes. -/
def OnlyDone (s t : State) : Prop := t.port.flags = s.port.flags ||| (1#16 <<< EventFlag.commandDone.bit)

/-- R183: the command was refused: nothing changes beyond its completion. -/
def Refused (s t : State) (result : ResultCode) : Prop :=
  Shows t result [] ∧ SameOutsidePort s t ∧ SamePort s t ∧ OnlyDone s t

/-- R184: a configuration command is stored: the stored configuration is `cfg`, and nothing else changes beyond the
completion. -/
def Stores (s : State) (c : Instr) (cfg : StoredConfig) : Prop :=
  ∃ t, exec c s = .next t ∧ Shows t .done [] ∧ SameOutsidePort s t ∧ OnlyDone s t ∧ t.port.cfg = cfg ∧
    t.port.mask = s.port.mask ∧ t.port.notices = s.port.notices ∧ t.port.nodeState = s.port.nodeState ∧
    t.port.listenRemaining = s.port.listenRemaining ∧ t.port.spi = s.port.spi

/-- A command completes with a refusal and changes nothing else. -/
def IsRefused (s : State) (c : Instr) (result : ResultCode) : Prop := ∃ t, exec c s = .next t ∧ Refused s t result

/-- A command completes with DONE and a reply, and nothing but the port's completion changes. -/
def OnlyReads (s : State) (c : Instr) (reply : List Byte) : Prop :=
  ∃ t, exec c s = .next t ∧ Shows t .done reply ∧ SameOutsidePort s t ∧ SamePort s t ∧ OnlyDone s t

/-- The blocks that a player's command can reach are the port, the channel, the request unit and link supervision's
count of drops; every other block is as it was. -/
def SameOutsidePlayer (s t : State) : Prop :=
  t.peers = s.peers ∧ t.time = s.time ∧ t.phase = s.phase ∧ t.seat = s.seat ∧ t.arb = s.arb ∧ t.views = s.views ∧
    t.ref = s.ref ∧ t.pins = s.pins ∧ t.localMs = s.localMs ∧ t.freeIndex = s.freeIndex ∧ t.pending = s.pending ∧
    t.port.cfg = s.port.cfg ∧ t.port.nodeState = s.port.nodeState ∧ t.port.mask = s.port.mask ∧ t.port.spi = s.port.spi

/-- Every block but the seat unit is as it was. -/
def SameOutsideSeat (s t : State) : Prop :=
  t.port = s.port ∧ t.chan = s.chan ∧ t.link = s.link ∧ t.peers = s.peers ∧ t.time = s.time ∧ t.phase = s.phase ∧
    t.arb = s.arb ∧ t.views = s.views ∧ t.req = s.req ∧ t.ref = s.ref ∧ t.pins = s.pins ∧ t.localMs = s.localMs ∧
    t.freeIndex = s.freeIndex ∧ t.pending = s.pending

/-- What no command of the element's seats and list reaches: field time, the phase unit, the peer table, the partner
views, the referee unit, the pins, the node state and the stored configuration. -/
def SameOutsideElement (s t : State) : Prop :=
  t.peers = s.peers ∧ t.time = s.time ∧ t.phase = s.phase ∧ t.views = s.views ∧ t.ref = s.ref ∧ t.pins = s.pins ∧
    t.localMs = s.localMs ∧ t.freeIndex = s.freeIndex ∧ t.pending = s.pending ∧ t.port.cfg = s.port.cfg ∧
    t.port.nodeState = s.port.nodeState ∧ t.port.mask = s.port.mask ∧ t.port.spi = s.port.spi

/-! ## Laws of the state -/

/-- R94, R97, R98: FT within 40 bits, the fraction below 256, both trims in range, the alarm as T stands. -/
def TimeLaw (s : State) : Prop :=
  s.time.ft ≤ ftMax ∧ s.time.fraction < 256 ∧ -512 ≤ s.time.trim ∧ s.time.trim ≤ 511 ∧
    s.time.alarm = trimAlarm s.time.trim ∧ -512 ≤ s.time.commanded ∧ s.time.commanded ≤ 511

/-- R102: the level is set with the align state. -/
def LevelLaw (s : State) : Prop :=
  match s.time.align with
  | .source => s.time.level = 0
  | .locked | .holdover => 1 ≤ s.time.level ∧ s.time.level ≤ 6
  | .unaligned | .acquiring => s.time.level = 7

/-- R156, R164, R188: the queues stay within their places, and at most one PRESENCE waits. -/
def QueueLaw (s : State) : Prop :=
  s.port.notices.length ≤ 16 ∧ s.chan.rxQueue.length ≤ 4 ∧ s.chan.txQueue.length ≤ 8 ∧
    (s.chan.txQueue.filter fun f => decide (f.body = .presence)).length ≤ 1

/-- R161, R162: k lies in 3..7 and the backoff generator is never 0. -/
def BackoffLaw (s : State) : Prop := 3 ≤ s.chan.exponent ∧ s.chan.exponent ≤ 7 ∧ s.chan.backoff ≠ 0

/-- R71, R73: at most 4 requests, at most one per element; the element view holds at most 32 entries by rising id. -/
def RequestLaw (s : State) : Prop :=
  s.req.list.length ≤ 4 ∧ (s.req.list.map (·.element)).Nodup ∧ s.req.view.length ≤ 32 ∧
    (s.req.view.map (·.1)).Pairwise (· < ·)

/-- The holders of the occupied seats. -/
def State.holders (s : State) : List NodeId := s.seat.table.filterMap fun x => x.claim?.map Claim.player

/-- R3, R25, R28: at most 4 seats, no player on two of them; at most 24 records and 16 entries, each of one player;
every entry's player has a record, and none holds a seat. -/
def ElementLaw (s : State) : Prop :=
  s.seat.table.length ≤ 4 ∧ s.holders.Nodup ∧ s.arb.ring.length ≤ 24 ∧ (s.arb.ring.map (·.player)).Nodup ∧
    s.arb.waiting.length ≤ 16 ∧ (s.arb.waiting.map (·.player)).Nodup ∧
    ∀ e ∈ s.arb.waiting, e.player ∈ s.arb.ring.map (·.player) ∧ e.player ∉ s.holders

/-- R50: every budget lies between 0 and B. In CONFIG the receiver is off and no record exists (R27, R143). -/
def BudgetLaw (s : State) : Prop :=
  (∀ r ∈ s.arb.ring, r.budget ≤ s.budgetBase) ∧
    (s.port.nodeState = .config → s.arb.ring = [] ∧ s.chan.rxQueue = [] ∧ s.chan.reception = none)

/-- R54, R143: the peer table stands by rising id, its own id absent is not asked here; at most two referee slots, each
of one referee. -/
def PeerLaw (s : State) : Prop :=
  (s.peers.slots.map (·.1)).Pairwise (· < ·) ∧ s.peers.referees.length ≤ 2 ∧ (s.peers.referees.map (·.id)).Nodup

end Sys2Proof.Machine
end

