-- ==== Sys2Proof/WellFormed.lean ====
section
/-! DEFINITION. Which commands the outside world can form: the ranges of the operands that no type already bounds. -/

namespace Sys2Proof

/-- R183: the codes of the command summary. -/
def namedCodes : List Byte :=
  [16, 17, 18, 19, 20, 21, 30, 31, 32, 33, 34, 48, 49, 50, 51, 52, 64, 65, 80, 81, 82, 96, 97, 98, 99, 100, 101, 102,
    103, 104, 105]

/-- A well-formed command: a seat number names one of at most four seats (R3), a port write reaches an offset other
than the event flags and the mask (R181), an unknown command has a code that names none (R183), the slots counted are
fewer than the largest draw 2^7 (R161), and the bytes of a frame are at least its length byte and at most a longest
frame (R154). -/
def Instr.wf : Instr → Bool
  | .silentHolderSenseLost n | .guardExpiry n | .holdExpiry n | .pulseCountdownExpiry n | .pulseEnd n
  | .senseReleaseExpiry n | .clearingExpiry n => decide (n < 4)
  | .portWrite offset _ => decide (offset.toNat < 96 ∨ 99 < offset.toNat)
  | .unknownCommand code => !namedCodes.contains code
  | .carrierDetectRise slots => decide (slots < 128)
  | .frameReceived bytes => decide (1 ≤ bytes.length ∧ bytes.length ≤ 59)
  | _ => true

end Sys2Proof
end

