-- ==== Sys2Proof/Certificates/Slice0/Obligations.lean ====
section
/-! DEFINITION. The statements for the provers, one definition each. Every statement is about all states that meet its
hypotheses; none speaks of a run. -/

open Sys2Proof Sys2Proof.Machine

/-! ## What the statements speak of -/

/-- An event flag set, nothing else changed. -/
def Sys2Proof.Machine.withFlag (f : EventFlag) (s : State) : State :=
  { s with port := { s.port with flags := s.port.flags ||| (1#16 <<< f.bit) } }

/-- An event flag set where a condition holds. -/
def Sys2Proof.Machine.withFlagIf (b : Bool) (f : EventFlag) (s : State) : State := if b then withFlag f s else s

/-- The seat n replaced. -/
def Sys2Proof.Machine.withSeat (s : State) (n : Nat) (x : Seat) : State :=
  { s with seat := { s.seat with table := s.seat.table.set n x } }

/-- The requests to an element changed by f. -/
def Sys2Proof.Machine.withRequest (s : State) (e : NodeId) (f : Request → Request) : State :=
  { s with req := { s.req with list := s.req.list.map fun r => if r.element = e then f r else r } }

/-- A notice posted with the present field ms, or dropped at a full queue with NOTICE_LOST. -/
def Sys2Proof.Machine.posted (kind : NoticeKind) (id claim : Byte) (detail : Half) (s : State) : State :=
  if s.port.notices.length < 16 then withFlag .notice { s with port := { s.port with notices := s.port.notices ++
    [{ kind := kind, id := id, claim := claim, detail := detail, time := BitVec.ofNat 16 (s.time.ft / 1000) }] } }
  else withFlag .noticeLost s

/-- A request has left the list with its one closing notice. -/
def Sys2Proof.Machine.closed (r : Request) (kind : NoticeKind) (detail : Half) (s : State) : State :=
  { posted kind (r.element.setWidth 8) r.claim detail s with
    req := { s.req with list := s.req.list.filter fun q => decide (q.element ≠ r.element) } }

/-- Every request has left the list, in list order, each with its one closing notice. -/
def Sys2Proof.Machine.allClosed (kind : NoticeKind) (detail : Half) (s : State) : State :=
  { s.req.list.foldl (fun t r => posted kind (r.element.setWidth 8) r.claim detail t) s with
    req := { s.req with list := [] } }

/-- A loopback test runs. -/
abbrev Sys2Proof.Machine.inLoop (s : State) : Prop := s.port.nodeState = .test ∧ s.link.testKind = some .loopback

/-- A phase is in a phase set: bit 0 is AUTONOMOUS, bit 1 DRIVER, bit 2 ENDGAME. -/
def Sys2Proof.Machine.inPhaseSet (set : Byte) (p : Phase) : Bool :=
  match p with
  | .autonomous => set.getLsbD 0
  | .driver => set.getLsbD 1
  | .endgame => set.getLsbD 2
  | .prematch | .paused | .ended => false

/-- R2: the phase in which an offer is open now: the current one, or in PAUSED the paused phase. -/
def Sys2Proof.Machine.phaseForOffers (s : State) : Phase :=
  if s.phase.phase = .paused then s.phase.pausedPhase else s.phase.phase

/-! ### Frames placed -/

/-- A frame has entered the transmit queue. A contention begins where the node sends, no frame is in transmission and none
is in progress, with k raised while CD is high; a HALT makes the slots of a contention in progress 0. -/
def Sys2Proof.Machine.entered (f : QueuedFrame) (s : State) : State :=
  let begins : Bool := decide (s.port.nodeState = .running ∨ s.port.nodeState = .test) && s.chan.txFrame.isNone
    && s.chan.contention.isNone
  { s with chan := { s.chan with
    txQueue := s.chan.txQueue ++ [f],
    contention :=
      if begins then some { gapDone := false, gapCount := 0, slots := none, passed := 0 }
      else if f.body = .halt then s.chan.contention.map fun k => { k with slots := k.slots.map fun _ => 0 }
      else s.chan.contention,
    exponent := if begins = true ∧ s.pins.cd = true ∧ ¬ inLoop s then min (s.chan.exponent + 1) 7 else s.chan.exponent } }

/-- A number of drops counted. -/
def Sys2Proof.Machine.dropped (n : Nat) (s : State) : State :=
  { s with link := { s.link with window := { s.link.window with drop := min (s.link.window.drop + n) 65535 } } }

/-- The request that a frame of the request unit was queued for. -/
def Sys2Proof.Machine.requestOfFrame (f : QueuedFrame) (s : State) : Option Request :=
  if f.ofRequest then
    match f.body with
    | .ask e claim _ _ _ => s.req.list.find? fun r => decide (r.element = e ∧ r.claim = claim)
    | .yield e claim => s.req.list.find? fun r => decide (r.element = e ∧ r.claim = claim)
    | .presence | .answer _ _ _ | .mark _ _ _ | .sanction _ _ _ _ | .turn _ _ _ | .halt | .pattern _ _ => none
  else none

/-- What a request does at its final miss: LOST, YIELD_UNCONFIRMED, or a renewal denied with NO_ANSWER. -/
def Sys2Proof.Machine.lastMiss (r : Request) (s : State) : State :=
  match r.state with
  | .asking | .waiting => closed r .lost 0 s
  | .yielding => closed r .ended 17 s
  | .seated => posted .renewDenied (r.element.setWidth 8) r.claim 51
      (withRequest s r.element fun q => { q with deadline := none, waitFrame := none, renewPending := false })

/-! ### Seats -/

/-- The entry to HELD: the granted hold, a METERED offer's pulse period, no pulse, the sense release. -/
def Sys2Proof.Machine.heldEntry (s : State) (c : Claim) (silentHeld : Bool) : Seat :=
  .held { c with hold := c.granted,
                 countdown := if (s.port.cfg.offer c.offer).kind = 2 then (s.port.cfg.offer c.offer).pulsePeriod.toNat
                   else 0 }
    none (if s.port.cfg.senseUse ≠ 0 then 300 else 0) silentHeld

/-- The claim of the seat n, while it is in GUARD or HELD. -/
def Sys2Proof.Machine.claimAt (s : State) (n : Nat) : Option Claim :=
  match s.seat.table[n]? with
  | some (.guard c _ _) => some c
  | some (.held c _ _ _) => some c
  | some .free | some (.clearing _) | none => none

/-- What the end of a seat leaves in the ring: the last-ended claim, no engagement, and in ROTATE_ON_RELEASE the holder's
record at the tail, unless the match has ended. -/
def Sys2Proof.Machine.ringAfterEnd (s : State) (c : Claim) (reason : Reason) : List StandingRecord :=
  let written := s.arb.ring.map fun x =>
    if x.player = c.player then { x with engagement := .none, lastEnded := some (c.number, reason) } else x
  if s.port.cfg.ringMode = 3 ∧ reason ≠ .matchEnd then
    written.filter (fun x => decide (x.player ≠ c.player)) ++ written.filter (fun x => decide (x.player = c.player))
  else written

/-- The seat n, under the claim c, has ended for a reason: ENDED is sent to its holder unless the match has ended,
SEAT_ENDED is posted, and the seat is CLEARING, or FREE where the clearing time is 0. -/
def Sys2Proof.Machine.seatEnded (n : Nat) (c : Claim) (reason : Reason) (s : State) : State :=
  let written : State := { s with arb := { s.arb with ring := s.arb.ring.map fun x =>
    if x.player = c.player then { x with engagement := .none, lastEnded := some (c.number, reason) } else x } }
  let told := if reason = .matchEnd then written
    else written.send (.answer c.player c.number (.ended reason.code))
  let turned : Seat := if s.port.cfg.clearing = 0 then .free else .clearing s.port.cfg.clearing.toNat
  { posted .seatEnded (c.player.setWidth 8) c.number (reason.code.setWidth 16) told with
    arb := { s.arb with ring := ringAfterEnd s c reason },
    seat := { s.seat with table := s.seat.table.set n turned } }

/-- The same, and the resolution that a seat turned FREE starts. -/
def Sys2Proof.Machine.seatEnds (n : Nat) (c : Claim) (reason : Reason) (s : State) : State :=
  if s.port.cfg.clearing = 0 then (seatEnded n c reason s).resolve else seatEnded n c reason s

/-- Of the seats listed, those whose claim meets a test have ended for a reason, one after another. -/
def Sys2Proof.Machine.seatsEnded (test : Nat → Claim → Bool) (reason : Reason) : List Nat → State → State
  | [], s => s
  | n :: rest, s => seatsEnded test reason rest (match claimAt s n with
    | some c => if test n c then seatEnded n c reason s else s
    | none => s)

/-- The same over every seat of the table, in seat order. -/
def Sys2Proof.Machine.endingSeats (test : Nat → Claim → Bool) (reason : Reason) (s : State) : State :=
  seatsEnded test reason (List.range s.seat.table.length) s

/-! ### Partner views -/

/-- A view's seat is in GUARD or HELD. -/
def Sys2Proof.Machine.taken (x : ViewSeat) : Bool := decide (x.state = 1 ∨ x.state = 2)

/-- R66: a COMPANION view that is silent, or shows the player on no seat in GUARD or HELD, ends the player's seat. -/
def Sys2Proof.Machine.companionLost (v : PartnerView) (p : NodeId) : Bool :=
  decide (v.rule = .companion) && (v.silent || !v.seats.any fun x => taken x && decide (x.holder = some p))

/-- R67: an EXCLUSIVE view shows a taken seat with an earlier grant mark, or with the same mark at a partner of a lower
id. -/
def Sys2Proof.Machine.conflictLost (s : State) (mark : Half) : Bool :=
  s.views.any fun v => decide (v.rule = .exclusive) && v.seats.any fun x => taken x &&
    decide ((1 ≤ (mark - x.mark).toNat ∧ (mark - x.mark).toNat ≤ 32767) ∨
      (mark = x.mark ∧ v.id < s.port.cfg.nodeId.setWidth 6))

/-- R64: what follows a change of a partner's view: the companion losses under that view, the conflict yields against every
EXCLUSIVE view, one resolution (the model's choice of order and of the views tested, log entry 24). -/
def Sys2Proof.Machine.afterViewChange (v : PartnerView) (s : State) : State :=
  let a := endingSeats (fun _ c => companionLost v c.player) .interlock s
  (endingSeats (fun _ c => conflictLost s c.mark) .interlock a).resolve

/-- R64: two states of a view differ in the silent flag, the seat count, or a seat's state, holder or grant mark. -/
def Sys2Proof.Machine.viewDiffers (v w : PartnerView) : Prop :=
  v.silent ≠ w.silent ∨
    v.seats.map (fun x => (x.state, x.holder, x.mark)) ≠ w.seats.map (fun x => (x.state, x.holder, x.mark))

/-- The view of a partner updated by f, with the work of a change (log entry 24); a node that is no partner has none. -/
def Sys2Proof.Machine.ViewUpdated (id : NodeId) (f : PartnerView → PartnerView) (s t : State) : Prop :=
  let m : State := { s with views := s.views.map fun v => if v.id = id then f v else v }
  ((∀ v ∈ s.views, v.id ≠ id) → t = s) ∧
  ∀ v, s.views.find? (fun v => decide (v.id = id)) = some v →
    (viewDiffers v (f v) → t = afterViewChange (f v) m) ∧ (¬ viewDiffers v (f v) → t = m)

/-- R62: the seats that a partner's PRESENCE shows, each with its claim number kept where the holder and the grant mark
are as before. -/
def Sys2Proof.Machine.shownSeats (old shown : List ViewSeat) : List ViewSeat :=
  shown.mapIdx fun i x => { x with claim :=
    match old[i]? with
    | some o => if o.holder = x.holder ∧ o.mark = x.mark then o.claim else none
    | none => none }

/-- R63: the seats of a view after a GRANTED of the partner. Where seat n shows the player with the mark, only the claim
number is taken; otherwise the player's other seats are CLEARING, seat n is GUARD, and a seat added below n is FREE. -/
def Sys2Proof.Machine.grantedSeats (p : NodeId) (claim : Byte) (n : Nat) (mark : Half) (seats : List ViewSeat) :
    List ViewSeat :=
  let same (x : ViewSeat) : Bool := taken x && decide (x.holder = some p ∧ x.mark = mark)
  if (seats[n]?).any same then seats.mapIdx fun i x => if i = n then { x with claim := some claim } else x
  else (List.range (max seats.length (n + 1))).map fun i =>
    if i = n then { state := 1, holder := some p, mark := mark, claim := some claim }
    else match seats[i]? with
      | some y => if y.holder = some p then { state := 3, holder := none, mark := 0, claim := none } else y
      | none => { state := 0, holder := none, mark := 0, claim := none }

/-- R63: the seats of a view after an ENDED of the partner with another reason than WITHDRAWN and STALE. -/
def Sys2Proof.Machine.endedSeats (p : NodeId) (claim reason : Byte) (seats : List ViewSeat) : List ViewSeat :=
  if reason = 10 ∨ reason = 11 then seats
  else seats.map fun x => if x.holder = some p ∧ x.claim = some claim then
    { state := 3, holder := none, mark := 0, claim := none } else x

/-- R63: a partner's view after an ANSWER of that partner to a player. -/
def Sys2Proof.Machine.viewAnswered (p : NodeId) (claim : Byte) (a : AnswerBody) (now : Nat) (v : PartnerView) :
    PartnerView :=
  { v with lastHeard := now, seats :=
    match a with
    | .granted n _ mark => grantedSeats p claim n.toNat mark v.seats
    | .ended reason => endedSeats p claim reason v.seats
    | .waiting _ _ | .refused _ | .renewed _ | .renewDenied _ => v.seats }

/-! ### Tests and marks -/

/-- R159: a PRESENCE has been placed, and the next is due the presence period and a draw of four bits from now. -/
def Sys2Proof.Machine.presenceStarted (s : State) : State :=
  let t := s.send .presence
  let g := backoffStep s.chan.backoff
  { t with chan := { t.chan with
    backoff := g, presenceDue := some (s.localMs + s.chan.presencePeriod + g.toNat % 16) } }

/-- R174: a test has ended: RUNNING, no test kind, the link remaining 2,000, and the PRESENCE schedule anew. -/
def Sys2Proof.Machine.testEnded (cause : EndCause) (s : State) : State :=
  presenceStarted { s with
    port := { s.port with nodeState := .running },
    link := { s.link with
      testKind := none, patternDue := none, insertPending := false, remaining := 2000,
      record := { s.link.record with endCause := some cause } } }

/-- What R121 writes when a mark is applied: the phase unit with the latch of R131, and the two flags. -/
def Sys2Proof.Machine.adopted (seq : Byte) (new : Phase) (carried : Option Quad) (s : State) : State :=
  let old := s.phase.phase
  let quiet : Bool := !s.phase.stop && !s.phase.haltSending &&
    match s.phase.lastHalt with
    | none => true
    | some h => decide (250000 ≤ s.time.ft - h)
  withFlagIf (decide (new ≠ old)) .phaseChanged (withFlagIf (s.phase.latch && quiet) .haltChanged { s with
    phase := { s.phase with
      phase := new, seq := seq, fresh := false, currentPhase := new, currentCarried := carried, pending := none,
      pausedPhase := if new = old then s.phase.pausedPhase else if new = .paused then old
        else if new = .prematch then .prematch else s.phase.pausedPhase,
      latch := s.phase.latch && !quiet } })

/-- R17, R33, R90: the end of the match at the seats, the waiting list and the requests. -/
def Sys2Proof.Machine.matchEnded (s : State) : State :=
  let a := endingSeats (fun _ _ => true) .matchEnd s
  allClosed .ended 9 { a with arb := { a.arb with
    waiting := [],
    ring := a.arb.ring.map fun r =>
      if a.arb.waiting.any (fun e => decide (e.player = r.player)) then { r with engagement := .none } else r } }

/-- R18, R27, R33, R90: match reset at the seats, the waiting list, the ring and the requests. -/
def Sys2Proof.Machine.matchReset (s : State) : State :=
  let a := allClosed .ended 9 { s with
    seat := { s.seat with table := s.seat.table.map fun _ => .free }, arb := { s.arb with waiting := [], ring := [] } }
  { a with req := { a.req with bench := 0, benchEnding := false, ejected := false } }

/-- R51: every budget current is B again. -/
def Sys2Proof.Machine.reloaded (s : State) : State :=
  { s with arb := { s.arb with ring := s.arb.ring.map fun r => { r with budget := s.port.cfg.budgetBase.toNat } } }

/-- An applied mark, by its kind: a confirming mark, with the resolution of a latch that clears in a running phase; a
pause; the end of the match; match reset; and an entry or a resume of a running phase, which ends a test, closes the seats
whose offer is not open, at an entry into a reload phase reloads the budgets, and starts one resolution. That it ends a
loopback test like any other is the model's choice against R177 (log entry 37). -/
def Sys2Proof.Machine.MarkApplied (s : State) (seq : Byte) (new : Phase) (carried : Option Quad) (t : State) : Prop :=
  let old := s.phase.phase
  let m := adopted seq new carried s
  let a := if s.port.nodeState = .test then testEnded .phase m else m
  let b := endingSeats (fun _ c => !inPhaseSet (s.port.cfg.offer c.offer).openPhases new) .phaseClosed a
  let resumes := old = .paused ∧ s.phase.pausedPhase = new
  (new = old → s.phase.latch = true → m.phase.latch = false → new.isRunningPhase = true → t = m.resolve) ∧
  (new = old → s.phase.latch = false ∨ m.phase.latch = true ∨ new.isRunningPhase = false → t = m) ∧
  (new ≠ old → new = .paused → t = m) ∧
  (new ≠ old → new = .ended → t = matchEnded m) ∧
  (new ≠ old → new = .prematch → t = matchReset m) ∧
  (new ≠ old → new.isRunningPhase = true →
    (resumes ∨ inPhaseSet s.port.cfg.reloadPhases new = false → t = b.resolve) ∧
    (¬ resumes → inPhaseSet s.port.cfg.reloadPhases new = true → t = (reloaded b).resolve))

/-- A seq is newer than the node's phase seq and, when a mark is pending, than that mark's; at a fresh node, than none but
0 (R117), while the pending mark's is compared serially there too (the model's reading, log entry 25). -/
def Sys2Proof.Machine.MarkIsNewer (u : State) (seq : Byte) : Prop :=
  (if u.phase.fresh then seq ≠ 0 else newer seq u.phase.seq = true) ∧
    ∀ m, u.phase.pending = some m → newer seq m.seq = true

/-! ### Commands of the port -/

/-- A command completes with DONE and a reply, and leaves the state w but for its completion. -/
def Sys2Proof.Machine.Leaves (s : State) (c : Instr) (w : State) (reply : List Byte) : Prop :=
  ∃ t, exec c s = .next t ∧ Shows t .done reply ∧ SameOutsidePort w t ∧ SamePort w t ∧ OnlyDone w t

/-! ## The step and reset -/

/-- The front command runs on the state with the queue's rest; with an empty queue the block idles (the model's choice,
log entry 3). -/
def Obligations.StepTakesTheFrontCommand : Prop :=
  (∀ (c : Instr) (rest : List Instr) (s : State),
    step (s.withPending (c :: rest)) = exec c (s.withPending rest)) ∧
  ∀ s : State, s.pending = [] → step s = .next s

/-- PIN_RESET, and RESET taken with the token 0, return every block to its reset values, and a transaction in progress is
abandoned. The levels of the input pins and the free-value index are kept (the model's choices, log entries 6 and 8). -/
def Sys2Proof.Machine.ResetCommandsReturnEveryBlock : Prop :=
  ∀ s : State,
    (∃ t, exec .pinReset s = .next t ∧
      t = { State.reset with pins := s.pins, freeIndex := s.freeIndex, pending := s.pending }) ∧
    (s.port.token = 0 → ∃ t, exec .reset s = .next t ∧
      t = { State.reset with pins := s.pins, freeIndex := s.freeIndex, pending := s.pending })

/-- What reset leaves at the port, the phase unit, field time, the channel and the element's tables. -/
def Sys2Proof.Machine.ResetLeavesTheSpecsValues : Prop :=
  State.reset.port.spi = none ∧
  State.reset.port.token = 0 ∧ State.reset.port.result = 0 ∧ State.reset.port.replyLength = 0 ∧
  State.reset.port.block = List.replicate 31 0 ∧ State.reset.port.reply = List.replicate 62 0 ∧
  (∀ f : EventFlag, State.reset.hasFlag f = decide (f = .ready)) ∧ State.reset.port.mask = 0xFFFF ∧
  State.reset.evtn = false ∧ State.reset.port.notices = [] ∧ State.reset.nodeState = .config ∧
  State.reset.port.listenRemaining = 0 ∧
  State.reset.time.ft = 0 ∧ State.reset.time.fraction = 0 ∧ State.reset.time.trim = 0 ∧ State.reset.time.stall = 0 ∧
  State.reset.time.align = .unaligned ∧ State.reset.time.level = 7 ∧ State.reset.time.mode = .track ∧
  State.reset.phase.phase = .prematch ∧ State.reset.phase.seq = 0 ∧ State.reset.phase.fresh = true ∧
  State.reset.phase.latch = false ∧ State.reset.phase.pending = none ∧ State.reset.phase.lastHalt = none ∧
  State.reset.chan.txQueue = [] ∧ State.reset.chan.rxQueue = [] ∧ State.reset.chan.exponent = 3 ∧
  State.reset.chan.backoff = 1 ∧ State.reset.link.remaining = 2000 ∧ State.reset.link.lost = false ∧
  State.reset.seat.table = [.free] ∧ State.reset.arb.waiting = [] ∧ State.reset.arb.ring = [] ∧
  State.reset.views = [] ∧ State.reset.req.list = [] ∧ State.reset.req.view = [] ∧ State.reset.req.claimCounter = 0 ∧
  State.reset.peers.slots = [] ∧ State.reset.peers.referees = [] ∧ State.reset.ref.orderSeq = 0

/-- Every law holds after reset. -/
def Sys2Proof.Machine.LawsHoldAfterReset : Prop :=
  TimeLaw State.reset ∧ LevelLaw State.reset ∧ QueueLaw State.reset ∧ BackoffLaw State.reset ∧
    RequestLaw State.reset ∧ ElementLaw State.reset ∧ BudgetLaw State.reset ∧ PeerLaw State.reset

/-- Reset: the commands that make it, the values it leaves, and the laws of the state that hold after it. -/
def Obligations.ResetReturnsEveryBlock : Prop :=
  ResetCommandsReturnEveryBlock ∧ ResetLeavesTheSpecsValues ∧ LawsHoldAfterReset

/-! ## Configuration -/

/-- In CONFIG the SET commands store their arguments as given and complete with DONE. -/
def Sys2Proof.Machine.SetCommandsStoreInConfig : Prop :=
  ∀ s : State, s.port.token = 0 → s.port.nodeState = .config →
    (∀ i r a : Byte, Stores s (.setNode i r a) { s.port.cfg with nodeId := i, role := r, alliance := a }) ∧
    (∀ (p q : Half) (d : Byte) (l w : Half), Stores s (.setTiming p q d l w)
      { s.port.cfg with presencePeriod := p, silenceTime := q, linkDelay := d, stepLimit := l, windowLength := w }) ∧
    (∀ (n o b r m : Byte) (c : Half) (u v : Byte), Stores s (.setElement n o b r m c u v)
      { s.port.cfg with seatCount := n, offerCount := o, budgetBase := b, reloadPhases := r, ringMode := m,
                        clearing := c, senseUse := u, mute := v }) ∧
    (∀ n i0 r0 i1 r1 : Byte, Stores s (.setPartner n i0 r0 i1 r1)
      { s.port.cfg with partnerCount := n, partner0 := { id := i0, rule := r0 },
                        partner1 := { id := i1, rule := r1 } }) ∧
    ∀ f : Byte, Stores s (.setReferee f) { s.port.cfg with source := f }

/-- SET_OFFER in CONFIG writes the slot it names and no other; a slot above 3 is refused BAD_ARGUMENT. -/
def Sys2Proof.Machine.SetOfferWritesTheSlotItNames : Prop :=
  ∀ (s : State) (n : Nat) (o : OfferSlot), s.port.token = 0 → s.port.nodeState = .config → n < 256 →
    let c : Instr :=
      .setOffer (BitVec.ofNat 8 n) o.kind o.maxHold o.cost o.openPhases o.restriction o.pulsePeriod
    (n < 4 → ∃ cfg : StoredConfig, Stores s c cfg ∧ (∀ j, j < 4 → cfg.offer j = if j = n then o else s.port.cfg.offer j) ∧
      { cfg with offer0 := s.port.cfg.offer0, offer1 := s.port.cfg.offer1, offer2 := s.port.cfg.offer2,
                 offer3 := s.port.cfg.offer3 } = s.port.cfg) ∧
    (4 ≤ n → IsRefused s c .badArgument)

/-- Outside CONFIG every SET command is refused with LOCKED. -/
def Sys2Proof.Machine.SetCommandsAreLockedAfterStart : Prop :=
  ∀ s : State, s.port.token = 0 → s.port.nodeState ≠ .config →
    (∀ i r a : Byte, IsRefused s (.setNode i r a) .locked) ∧
    (∀ (p q : Half) (d : Byte) (l w : Half), IsRefused s (.setTiming p q d l w) .locked) ∧
    (∀ (n o b r m : Byte) (c : Half) (u v : Byte), IsRefused s (.setElement n o b r m c u v) .locked) ∧
    (∀ (n k : Byte) (h : Half) (c p r : Byte) (u : Half), IsRefused s (.setOffer n k h c p r u) .locked) ∧
    (∀ n i0 r0 i1 r1 : Byte, IsRefused s (.setPartner n i0 r0 i1 r1) .locked) ∧
    ∀ f : Byte, IsRefused s (.setReferee f) .locked

/-- R2, R185: the field checks of an offer slot in their order, each with what fails it and its field number. -/
def Sys2Proof.Machine.offerChecks (o : OfferSlot) : List (Bool × Byte) :=
  [(decide (2 < o.kind.toNat), 1),
    (decide (o.maxHold.toNat < 100 ∨ 60000 < o.maxHold.toNat ∨ o.maxHold.toNat % 100 ≠ 0), 2),
    (decide (15 < o.cost.toNat), 3), (decide (o.openPhases &&& 7 = 0), 4), (decide (2 < o.restriction.toNat), 5),
    (decide (o.kind = 2 ∧ (o.pulsePeriod.toNat < 100 ∨ 5000 < o.pulsePeriod.toNat)), 6)]

/-- R1: the partner entries within the count. -/
def Sys2Proof.Machine.partnersWithin (c : StoredConfig) : List PartnerEntry :=
  [c.partner0, c.partner1].take c.partnerCount.toNat

/-- R185: the items of the table in their order, each with what fails it, its item number and its field number; items 8 to
18 are checked of an ELEMENT, and items 12 to 15 of the offer slots below the offer count. -/
def Sys2Proof.Machine.configChecks (c : StoredConfig) : List (Bool × Byte × Byte) :=
  [(decide (63 < c.nodeId.toNat), 1, 0), (decide (2 < c.role.toNat), 2, 0),
    (if c.role = 0 then decide (c.alliance ≠ 1 ∧ c.alliance ≠ 2) else decide (c.alliance ≠ 0), 3, 0),
    (decide (c.presencePeriod.toNat < 100 ∨ 1000 < c.presencePeriod.toNat), 4, 0),
    (decide (c.silenceTime.toNat < 500 ∨ 5000 < c.silenceTime.toNat), 5, 0),
    (decide (c.silenceTime.toNat < 2 * c.presencePeriod.toNat), 6, 0),
    (decide (c.windowLength.toNat < 1000 ∨ 60000 < c.windowLength.toNat), 7, 0)]
  ++ if c.role = 1 then
      [(decide (c.seatCount.toNat < 1 ∨ 4 < c.seatCount.toNat), 8, 0),
        (decide (c.offerCount.toNat < 1 ∨ 4 < c.offerCount.toNat), 9, 0), (decide (3 < c.ringMode.toNat), 10, 0),
        (decide (2000 < c.clearing.toNat), 11, 0)]
      ++ ((List.range 4).flatMap fun i => (offerChecks (c.offer i)).map fun x =>
        (decide (i < c.offerCount.toNat) && x.1, BitVec.ofNat 8 (12 + i), x.2))
      ++ [(decide (2 < c.partnerCount.toNat), 16, 0),
        ((partnersWithin c).any fun e => decide (63 < e.id.toNat ∨ e.id = c.nodeId ∨ (e.rule ≠ 1 ∧ e.rule ≠ 2)), 17, 0),
        (decide (c.partnerCount = 2 ∧ c.partner0.id = c.partner1.id), 18, 0)]
    else []

/-- R185: the item number and the field number of the first item that fails, none when every item holds. -/
def Sys2Proof.Machine.firstFault (c : StoredConfig) : Option (Byte × Byte) :=
  ((configChecks c).find? fun x => x.1).map fun x => x.2

/-- START refused: BAD_CONFIG with the item number and the field number of the first item of R185 that fails, or
WRONG_STATE outside CONFIG. -/
def Sys2Proof.Machine.StartIsRefused : Prop :=
  ∀ s : State, s.port.token = 0 →
    (s.port.nodeState ≠ .config → IsRefused s .start .wrongState) ∧
    (∀ item field, s.port.nodeState = .config → firstFault s.port.cfg = some (item, field) →
      ∃ t, exec .start s = .next t ∧ Shows t .badConfig [item, field] ∧ SameOutsidePort s t ∧ SamePort s t ∧ OnlyDone s t)

/-- The SET commands store what they are given in CONFIG and are LOCKED after START; START outside CONFIG, and over a
configuration with a fault, is refused. -/
def Obligations.ConfigurationCommands : Prop :=
  SetCommandsStoreInConfig ∧ SetOfferWritesTheSlotItNames ∧ SetCommandsAreLockedAfterStart ∧ StartIsRefused

/-- The values START accepts in an offer slot in use. -/
def Sys2Proof.Machine.OfferAccepted (o : OfferSlot) : Prop :=
  o.kind.toNat ≤ 2 ∧ 100 ≤ o.maxHold.toNat ∧ o.maxHold.toNat ≤ 60000 ∧ o.maxHold.toNat % 100 = 0 ∧ o.cost.toNat ≤ 15 ∧
    o.openPhases &&& 7 ≠ 0 ∧ o.restriction.toNat ≤ 2 ∧
    (o.kind = 2 → 100 ≤ o.pulsePeriod.toNat ∧ o.pulsePeriod.toNat ≤ 5000)

/-- The checks of START are the items of R185 in their order, each with its item number and field number. -/
def Sys2Proof.Machine.StartReportsTheFirstFault : Prop := ∀ c : StoredConfig, c.fault = firstFault c

/-- START finds no fault exactly when every item of the table of R185 holds. -/
def Sys2Proof.Machine.StartFindsNoFault : Prop :=
  ∀ c : StoredConfig, firstFault c = none ↔
    c.nodeId.toNat ≤ 63 ∧ c.role.toNat ≤ 2 ∧
    (if c.role = 0 then c.alliance = 1 ∨ c.alliance = 2 else c.alliance = 0) ∧
    100 ≤ c.presencePeriod.toNat ∧ c.presencePeriod.toNat ≤ 1000 ∧
    500 ≤ c.silenceTime.toNat ∧ c.silenceTime.toNat ≤ 5000 ∧ 2 * c.presencePeriod.toNat ≤ c.silenceTime.toNat ∧
    1000 ≤ c.windowLength.toNat ∧ c.windowLength.toNat ≤ 60000 ∧
    (c.role = 1 → 1 ≤ c.seatCount.toNat ∧ c.seatCount.toNat ≤ 4 ∧ 1 ≤ c.offerCount.toNat ∧ c.offerCount.toNat ≤ 4 ∧
      c.ringMode.toNat ≤ 3 ∧ c.clearing.toNat ≤ 2000 ∧ (∀ i, i < c.offerCount.toNat → OfferAccepted (c.offer i)) ∧
      c.partnerCount.toNat ≤ 2 ∧
      (∀ e ∈ partnersWithin c, e.id.toNat ≤ 63 ∧ e.id ≠ c.nodeId ∧ (e.rule = 1 ∨ e.rule = 2)) ∧
      (c.partnerCount = 2 → c.partner0.id ≠ c.partner1.id))

/-- The checks of START: the pair that each refused field reports, and the values that pass. -/
def Obligations.StartAcceptsExactlyTheTable : Prop :=
  StartReportsTheFirstFault ∧ StartFindsNoFault

/-- START with no fault in CONFIG: the node listens, and what START fixes, forms, seeds and reads is as R186 says. An element
forms one partner view for each configured partner, in their order, silent and with no seats (R61). -/
def Obligations.StartEntersListening : Prop :=
  ∀ s : State, s.port.token = 0 → s.port.nodeState = .config → firstFault s.port.cfg = none →
    ∃ t, exec .start s = .next t ∧ Shows t .done [] ∧ t.port.cfg = s.port.cfg ∧ t.port.nodeState = .listening ∧
      t.port.listenRemaining = 2 * s.port.cfg.presencePeriod.toNat ∧
      t.chan.presencePeriod = s.port.cfg.presencePeriod.toNat ∧ t.peers.silenceTime = s.port.cfg.silenceTime.toNat ∧
      t.link.windowLength = s.port.cfg.windowLength.toNat ∧
      t.time.stepLimit = max 200 (min 10000 s.port.cfg.stepLimit.toNat) ∧
      t.chan.backoff.toNat = s.port.cfg.nodeId.toNat * 257 + 1 ∧ t.chan.exponent = 3 ∧
      t.chan.txQueue = s.chan.txQueue ∧ t.link.remaining = 2000 ∧ t.link.elapsed = 0 ∧
      (s.port.cfg.role = 1 → t.seat.table = List.replicate s.port.cfg.seatCount.toNat .free ∧
        t.seat.guardTime = (if (partnersWithin s.port.cfg).any (fun e => decide (e.rule = 1)) then 30 else 0) ∧
        t.views = (partnersWithin s.port.cfg).map fun e =>
          { id := e.id.setWidth 6, rule := if e.rule = 1 then .exclusive else .companion, seats := [], lastHeard := 0,
            silent := true }) ∧
      (s.port.cfg.role ≠ 1 → t.seat = s.seat ∧ t.views = s.views) ∧
      (s.port.cfg.role = 2 ∧ s.port.cfg.source ≠ 0 → t.time.align = .source ∧ t.time.level = 0 ∧
        t.time.trim = clampTrim s.time.commanded ∧ t.hasFlag .alignChanged = true) ∧
      (s.port.cfg.role ≠ 2 ∨ s.port.cfg.source = 0 →
        t.time = { s.time with stepLimit := max 200 (min 10000 s.port.cfg.stepLimit.toNat) }) ∧
      (s.pins.stopLow = true → t.phase.stop = true ∧ t.phase.latch = true) ∧
      (s.pins.stopLow = false → t.phase = s.phase) ∧
      t.time.ft = s.time.ft ∧ t.arb = s.arb ∧ t.req = s.req ∧ t.ref = s.ref ∧ t.peers.slots = s.peers.slots

/-! ## The player's commands -/

/-- The result of the first check of R74 that applies to an ASK command, none when it is taken. -/
def Sys2Proof.Machine.askCheck (s : State) (element offer : Byte) (hold : Half) : Option ResultCode :=
  if s.port.cfg.role ≠ 0 then some .wrongRole
  else if s.port.nodeState ≠ .running then some .wrongState
  else if 0 < s.req.bench ∨ s.req.ejected = true then some .wrongState
  else if 63 < element.toNat ∨ 600 < hold.toNat then some .badArgument
  else if 4 ≤ s.req.list.length then some .listFull
  else match lookupId (element.setWidth 6) s.req.view with
    | none => some .notKnown
    | some v =>
      if v.silent = true then some .notKnown
      else if v.offers.length ≤ offer.toNat then some .badArgument
      else if (s.request (element.setWidth 6)).isSome = true then some .wrongState
      else none

/-- An ASK command refused by a check of R74 changes nothing. -/
def Sys2Proof.Machine.AskCommandIsRefusedInOrder : Prop :=
  ∀ (s : State) (element offer : Byte) (hold : Half) (r : ResultCode), s.port.token = 0 →
    askCheck s element offer hold = some r → IsRefused s (.ask element offer hold) r

/-- R75: the request that a taken ASK command adds. -/
def Sys2Proof.Machine.askedRequest (element offer : Byte) (hold : Half) (claim : Byte) : Request :=
  { element := element.setWidth 6, offer := offer.toNat, claim := claim, hold := hold, state := .asking, tries := 3,
    deadline := none, waitFrame := none, refreshDue := none, position := 0, count := 0, seat := 0, granted := 0,
    countdown := 0, margin := none, renewPending := false }

/-- An ASK command that passes the checks is taken: the claim counter rises, the reply gives it, the request is added in
ASKING at the tail of the list (the model's choice of its place in the list order, log entry 39) and its ASK frame placed.
With room in the transmit queue the frame waits there and nothing else happens. -/
def Sys2Proof.Machine.AskCommandIsTaken : Prop :=
  ∀ (s : State) (element offer : Byte) (hold : Half), s.port.token = 0 → askCheck s element offer hold = none →
    let e : NodeId := element.setWidth 6
    let claim := s.req.claimCounter + 1
    let frame : QueuedFrame := { body := .ask e claim false offer.toNat hold, ofRequest := true }
    let h := s.handOver 32 ([element, offer] ++ bytesOf 2 hold.toNat)
    let asked : State := { h with req := { s.req with
      claimCounter := claim, list := s.req.list ++ [askedRequest element offer hold claim] } }
    Leaves s (.ask element offer hold) (asked.place frame) [claim] ∧
    (s.chan.txQueue.length < 8 → (asked.place frame).chan.txQueue = s.chan.txQueue ++ [frame] ∧
      asked.place frame = { asked with chan := (asked.place frame).chan })

/-- The ASK command: its checks, and what it does when taken. -/
def Obligations.AskCommand : Prop :=
  AskCommandIsRefusedInOrder ∧ AskCommandIsTaken

/-- The result of the first check of R86 that applies to a YIELD command, none when it is taken. -/
def Sys2Proof.Machine.yieldCheck (s : State) (element : Byte) : Option ResultCode :=
  if s.port.cfg.role ≠ 0 then some .wrongRole
  else if s.port.nodeState ≠ .running then some .wrongState
  else if 63 < element.toNat then some .badArgument
  else match s.request (element.setWidth 6) with
    | none => some .notKnown
    | some r => if r.state = .asking ∨ r.state = .yielding then some .wrongState else none

/-- A YIELD command is refused by the checks of R86 in order, or taken: the request enters YIELDING with tries left 3 and
its YIELD frame is placed; the other requests are kept. -/
def Sys2Proof.Machine.YieldCommand : Prop :=
  ∀ (s : State) (element : Byte), s.port.token = 0 →
    (∀ r, yieldCheck s element = some r → IsRefused s (.yield element) r) ∧
    (yieldCheck s element = none → ∀ q, s.request (element.setWidth 6) = some q →
      let frame : QueuedFrame := { body := .yield (element.setWidth 6) q.claim, ofRequest := true }
      let yielding := withRequest (s.handOver 33 [element]) (element.setWidth 6) fun x =>
        { x with state := .yielding, tries := 3, deadline := none, waitFrame := none, refreshDue := none,
                 countdown := 0, margin := none, renewPending := false }
      Leaves s (.yield element) (yielding.place frame) [] ∧
      (s.chan.txQueue.length < 8 → (yielding.place frame).chan.txQueue = s.chan.txQueue ++ [frame] ∧
        yielding.place frame = { yielding with chan := (yielding.place frame).chan }))

/-- The result of the first check of R87 that applies to a RENEW command, none when it is taken. -/
def Sys2Proof.Machine.renewCheck (s : State) (element : Byte) : Option ResultCode :=
  if s.port.cfg.role ≠ 0 then some .wrongRole
  else if s.port.nodeState ≠ .running then some .wrongState
  else if 63 < element.toNat then some .badArgument
  else match s.request (element.setWidth 6) with
    | none => some .notKnown
    | some r =>
      if r.state ≠ .seated ∨ r.renewPending = true then some .wrongState
      else match lookupId (element.setWidth 6) s.req.view with
        | none => some .wrongState
        | some v =>
          match v.offers[r.offer]? with
          | none => some .wrongState
          | some o => if o.kind = 1 then none else some .wrongState

/-- A RENEW command is refused by the checks of R87 in order, or taken: renew pending is set with tries left 3 and an ASK
with the renew flag is placed; the seat's fields are kept. -/
def Sys2Proof.Machine.RenewCommand : Prop :=
  ∀ (s : State) (element : Byte), s.port.token = 0 →
    (∀ r, renewCheck s element = some r → IsRefused s (.renew element) r) ∧
    (renewCheck s element = none → ∀ q, s.request (element.setWidth 6) = some q →
      let frame : QueuedFrame :=
        { body := .ask (element.setWidth 6) q.claim true q.offer q.hold, ofRequest := true }
      let renewing := withRequest (s.handOver 34 [element]) (element.setWidth 6) fun x =>
        { x with renewPending := true, tries := 3 }
      Leaves s (.renew element) (renewing.place frame) [] ∧
      (s.chan.txQueue.length < 8 → (renewing.place frame).chan.txQueue = s.chan.txQueue ++ [frame] ∧
        renewing.place frame = { renewing with chan := (renewing.place frame).chan }))

/-- The YIELD and RENEW commands: their checks, and what they do when taken. -/
def Obligations.YieldAndRenewCommands : Prop :=
  YieldCommand ∧ RenewCommand

/-! ## The referee's commands -/

/-- The result of the first check of R134 that applies to a SEND_MARK, none when it is taken. -/
def Sys2Proof.Machine.markCheck (s : State) (phase : Byte) : Option ResultCode :=
  if s.port.cfg.role ≠ 2 then some .wrongRole
  else if s.port.nodeState = .config ∨ s.port.nodeState = .listening then some .wrongState
  else if 5 < phase.toNat then some .badArgument
  else if s.time.align = .unaligned ∨ s.time.align = .acquiring then some .wrongState
  else if s.phase.phase = .ended ∧ phase ≠ 0 then some .wrongState
  else none

/-- SEND_MARK is refused by the checks of R134 in order, or taken. The seq is the one after the pending mark's, or after
the phase seq; the boundary lies the lead ahead. The node's own phase unit takes the mark: it is pending, or applied where
its boundary is reached. The first copy is placed, two further copies are scheduled, and the reply gives seq and boundary.
A seq that this node's own phase unit does not call newer is counted there and sent all the same (the model's choice, log
entry 34; at a fresh node, log entry 25); at a fresh node whose pending mark has the seq 255 the new seq is 0, and the mark is
judged against the current mark of reset (the model's choice, log entry 38). A mark applied in a loopback test ends it (the
model's choice, log entry 37). -/
def Obligations.SendMarkBuildsTheMark : Prop :=
  ∀ (s : State) (phase : Byte) (lead : Half) (new : Phase), s.port.token = 0 →
    (∀ r, markCheck s phase = some r → IsRefused s (.sendMark phase lead) r) ∧
    (markCheck s phase = none → new.code = phase → s.time.ft ≤ 2 ^ 40 - 1 →
      let seq := match s.phase.pending with
        | some m => m.seq + 1
        | none => s.phase.seq + 1
      let boundary := min (s.time.ft + min lead.toNat 5000 * 1000) (2 ^ 40 - 1)
      let carried : Quad := BitVec.ofNat 32 boundary
      let h := s.handOver 48 (phase :: bytesOf 2 lead.toNat)
      ∃ j : State,
        Leaves s (.sendMark phase lead)
          { j.send (.mark seq new carried) with ref := { s.ref with
            marks := some { seq := seq, phase := new, carried := carried, copies := 2, due := s.localMs + 20 } } }
          (seq :: bytesOf 5 boundary) ∧
        (j.chan.txQueue.length < 8 → (j.send (.mark seq new carried)).chan.txQueue =
          j.chan.txQueue ++ [{ body := .mark seq new carried, ofRequest := false }]) ∧
        (MarkIsNewer s seq → s.time.ft < boundary → j = { h with phase := { s.phase with
          pending := some { seq := seq, phase := new, boundary := boundary, carried := carried } } }) ∧
        (MarkIsNewer s seq → boundary ≤ s.time.ft → MarkApplied h seq new (some carried) j) ∧
        (¬ MarkIsNewer s seq → seq ≠ s.phase.seq → j = { h with phase := { s.phase with
          ignoreCount := min (s.phase.ignoreCount + 1) 65535 } }) ∧
        (¬ MarkIsNewer s seq → seq = s.phase.seq →
          let repeats := new = s.phase.currentPhase ∧
            (s.phase.currentCarried = none ∨ s.phase.currentCarried = some carried)
          (repeats → j = h) ∧
          (¬ repeats → j = withFlag .markConflict { h with phase := { s.phase with
            conflictCount := min (s.phase.conflictCount + 1) 65535 } })))

/-- The result of the first check of R137 that applies to an order whose ids and kind are given, none when it is
taken. -/
def Sys2Proof.Machine.orderCheck (s : State) (bad : Bool) : Option ResultCode :=
  if s.port.cfg.role ≠ 2 then some .wrongRole
  else if s.port.nodeState = .config ∨ s.port.nodeState = .listening then some .wrongState
  else if bad then some .badArgument
  else match s.ref.orders with
    | some o => if 0 < o.copies then some .wrongState else none
    | none => none

/-- SEND_SANCTION and SEND_TURN are refused by the checks of R137 in order, or taken: the order seq rises, the first copy
is placed, the schedule holds two further copies, and the reply gives the seq (and a sanction's duration as sent). -/
def Obligations.SendOrdersRaiseTheOrderSeq : Prop :=
  ∀ (s : State), s.port.token = 0 →
    let seq := s.ref.orderSeq + 1
    let scheduled (frame : TxBody) (h : State) : State := { h.send frame with ref := { s.ref with
      orderSeq := seq, orders := some { frame := frame, copies := 2, due := s.localMs + 20 } } }
    (∀ (player kind : Byte) (d : Half) (r : ResultCode),
      orderCheck s (decide (63 < player.toNat ∨ kind.toNat < 1 ∨ 3 < kind.toNat)) = some r →
      IsRefused s (.sendSanction player kind d) r) ∧
    (∀ (player : Byte) (kind : SanctionKind) (d : Half), orderCheck s (decide (63 < player.toNat)) = none →
      let sent : Half := if kind = .bench then BitVec.ofNat 16 (max 10 (min 600 d.toNat)) else 0
      Leaves s (.sendSanction player kind.code d)
        (scheduled (.sanction seq (player.setWidth 6) kind sent)
          (s.handOver 49 ([player, kind.code] ++ bytesOf 2 d.toNat))) (seq :: bytesOf 2 sent.toNat)) ∧
    (∀ (element player : Byte) (r : ResultCode),
      orderCheck s (decide (63 < element.toNat ∨ 63 < player.toNat)) = some r →
      IsRefused s (.sendTurn element player) r) ∧
    (∀ (element player : Byte), orderCheck s (decide (63 < element.toNat ∨ 63 < player.toNat)) = none →
      Leaves s (.sendTurn element player)
        (scheduled (.turn seq (element.setWidth 6) (player.setWidth 6)) (s.handOver 50 [element, player])) [seq]) ∧
    (∀ (h : State) (frame : TxBody), h.chan.txQueue.length < 8 → frame.kindCode = 6 ∨ frame.kindCode = 7 →
      (h.send frame).chan.txQueue = h.chan.txQueue ++ [{ body := frame, ofRequest := false }])

/-- The reply of HALT_ON and HALT_OFF: halt latch, STOP state, halt sending. -/
def Sys2Proof.Machine.haltFlags (u : PhaseUnit) : List Byte := [flagByte u.latch, flagByte u.stop, flagByte u.haltSending]

/-- HALT_ON and HALT_OFF: WRONG_ROLE away from a REFEREE, WRONG_STATE in CONFIG, and otherwise the table of R139. A HALT_ON
that begins the HALT schedule places the first HALT frame in RUNNING and TEST, unless one of this node's still waits, and the
next is due 20 local ms later (the row that places the first is the model's reading, log entry 23). -/
def Obligations.HaltOnAndHaltOff : Prop :=
  ∀ s : State, s.port.token = 0 →
    (s.port.cfg.role ≠ 2 → IsRefused s .haltOn .wrongRole ∧ IsRefused s .haltOff .wrongRole) ∧
    (s.port.cfg.role = 2 → s.port.nodeState = .config →
      IsRefused s .haltOn .wrongState ∧ IsRefused s .haltOff .wrongState) ∧
    (s.port.cfg.role = 2 → s.port.nodeState ≠ .config →
      (s.phase.haltSending = true → OnlyReads s .haltOn (haltFlags s.phase)) ∧
      (s.phase.haltSending = false → OnlyReads s .haltOff (haltFlags s.phase)) ∧
      (s.phase.haltSending = false →
        let begun : State := withFlagIf (!s.phase.latch) .haltChanged { s.handOver 51 [] with
          phase := { s.phase with haltSending := true, latch := true,
                                  haltDue := if s.phase.haltDue.isSome then s.phase.haltDue
                                    else some (s.localMs + 20) } }
        let places := s.phase.haltDue = none ∧ (s.port.nodeState = .running ∨ s.port.nodeState = .test) ∧
          ∀ f ∈ s.chan.txQueue, f.body ≠ .halt
        (places → Leaves s .haltOn (begun.send .halt) (haltFlags begun.phase) ∧
          (s.chan.txQueue.length < 8 → (begun.send .halt).chan.txQueue =
            s.chan.txQueue ++ [{ body := .halt, ofRequest := false }])) ∧
        (¬ places → Leaves s .haltOn begun (haltFlags begun.phase))) ∧
      (s.phase.haltSending = true → ∃ t, exec .haltOff s = .next t ∧ Shows t .done (haltFlags t.phase) ∧
        t.phase = { s.phase with haltSending := false, lastHalt := some s.time.ft,
                                 haltDue := if s.phase.stop then s.phase.haltDue else none } ∧
        t.time = s.time ∧ t.seat = s.seat ∧ t.arb = s.arb ∧ t.chan = s.chan))

/-! ## Field-time and test commands -/

/-- TRIM_MODE: WRONG_STATE in SOURCE, then BAD_ARGUMENT; the mode already in force changes nothing; TRACK and FREEZE set
the mode alone; FIXED makes the entry of R110. -/
def Obligations.TrimModeSetsTheMode : Prop :=
  ∀ (s : State) (mode : Byte), s.port.token = 0 →
    (s.time.align = .source → IsRefused s (.trimMode mode) .wrongState) ∧
    (s.time.align ≠ .source → 2 < mode.toNat → IsRefused s (.trimMode mode) .badArgument) ∧
    (s.time.align ≠ .source → ∀ m : TrimMode, m.code = mode →
      (m = s.time.mode → OnlyReads s (.trimMode mode) [s.time.align.code]) ∧
      (m ≠ s.time.mode → m ≠ .fixed → ∃ t, exec (.trimMode mode) s = .next t ∧ Shows t .done [s.time.align.code] ∧
        t.time = { s.time with mode := m } ∧ SameOutsidePort { s with time := t.time } t) ∧
      (m ≠ s.time.mode → m = .fixed → ∃ t, exec (.trimMode mode) s = .next t ∧
        Shows t .done [AlignState.unaligned.code] ∧ t.time.mode = .fixed ∧ t.time.trim = clampTrim s.time.commanded ∧
        t.time.reference = none ∧ t.time.lockCount = 0 ∧ t.time.holdover = 0 ∧ t.time.align = .unaligned ∧
        t.time.alarm = decide (t.time.trim ≤ -510 ∨ 509 ≤ t.time.trim) ∧ t.time.commanded = s.time.commanded ∧
        t.time.ft = s.time.ft ∧ t.time.fraction = s.time.fraction ∧ t.time.stall = s.time.stall ∧
        (s.time.align ≠ .unaligned → t.time.level = 7 ∧ t.time.lastCause = .fixedMode ∧
          t.hasFlag .alignChanged = true) ∧
        (s.time.align = .unaligned → t.time.level = s.time.level ∧ t.time.lastCause = s.time.lastCause ∧
          t.hasFlag .alignChanged = s.hasFlag .alignChanged) ∧
        (t.time.alarm ≠ s.time.alarm → t.hasFlag .trimLimit = true) ∧
        SameOutsidePort { s with time := t.time } t))

/-- TRIM_SET: WRONG_STATE in SOURCE; otherwise the clamped value becomes the commanded trim and T, the alarm is judged,
a changed alarm sets TRIM_LIMIT, and the reply gives the value. -/
def Obligations.TrimSetClampsAndSets : Prop :=
  ∀ (s : State) (trim : Half), s.port.token = 0 →
    (s.time.align = .source → IsRefused s (.trimSet trim) .wrongState) ∧
    (s.time.align ≠ .source →
      let v := max (-512) (min 511 trim.toInt)
      ∃ t, exec (.trimSet trim) s = .next t ∧ Shows t .done (bytesOf 2 (BitVec.ofInt 16 v).toNat) ∧
        t.time = { s.time with commanded := v, trim := v, alarm := decide (v ≤ -510 ∨ 509 ≤ v) } ∧
        (s.time.alarm ≠ decide (v ≤ -510 ∨ 509 ≤ v) → t.hasFlag .trimLimit = true) ∧
        (s.time.alarm = decide (v ≤ -510 ∨ 509 ≤ v) → OnlyDone s t) ∧
        SameOutsidePort { s with time := t.time } t)

/-- TEST_BEGIN: WRONG_STATE outside RUNNING or outside PREMATCH and ENDED, then BAD_ARGUMENT; taken, the node is in TEST
with a cleared record and without the waiting frames of the four kinds, and every request has ended with LOST. Where the
node sends PATTERN frames the first is due at once, and PATTERN_DUE places it (the model's reading, log entry 23); a
loopback test gives up a reception in progress (log entry 15). -/
def Sys2Proof.Machine.TestBeginEntersTest : Prop :=
  ∀ (s : State) (kind : Byte), s.port.token = 0 →
    (s.port.nodeState ≠ .running ∨ (s.phase.phase ≠ .prematch ∧ s.phase.phase ≠ .ended) →
      IsRefused s (.testBegin kind) .wrongState) ∧
    (s.port.nodeState = .running → s.phase.phase = .prematch ∨ s.phase.phase = .ended →
      (kind.toNat < 1 ∨ 3 < kind.toNat → IsRefused s (.testBegin kind) .badArgument) ∧
      (∀ k : TestKind, k.code = kind →
        let h := s.handOver 80 [kind]
        let queue := s.chan.txQueue.filter fun f => decide (f.body.kindCode ≠ 1 ∧ f.body.kindCode ≠ 2 ∧
          f.body.kindCode ≠ 3 ∧ f.body.kindCode ≠ 4)
        let l := { s.link with testKind := some k, record := TestRecord.cleared, insertPending := false,
                               checkGen := none, patternSource := none }
        Leaves s (.testBegin kind) (allClosed .lost 0 { h with
          port := { h.port with nodeState := .test },
          link := if k = .patternCheck then l
            else { l with sendGen := 32767, sendSeq := 0, patternDue := some s.localMs },
          chan := { s.chan with
            txQueue := queue, presenceDue := none,
            contention := if queue = [] then none else s.chan.contention,
            reception := if k = .loopback then none else s.chan.reception } }) []))

/-- TEST_END and INSERT_ERROR in and outside TEST. TEST_END returns the node to RUNNING, places a PRESENCE and restarts
its schedule. -/
def Sys2Proof.Machine.TestEndAndInsertError : Prop :=
  ∀ s : State, s.port.token = 0 →
    (s.port.nodeState ≠ .test → IsRefused s .testEnd .wrongState ∧ IsRefused s .insertError .wrongState) ∧
    (s.port.nodeState = .test →
      Leaves s .testEnd (testEnded .command (s.handOver 81 [])) [] ∧
      (s.link.testKind = some .patternSend ∨ s.link.testKind = some .loopback →
        Leaves s .insertError { s with link := { s.link with insertPending := true } } []) ∧
      (s.link.testKind ≠ some .patternSend → s.link.testKind ≠ some .loopback →
        IsRefused s .insertError .wrongState))

/-- TEST_BEGIN, TEST_END and INSERT_ERROR. -/
def Obligations.LineTestCommands : Prop :=
  TestBeginEntersTest ∧ TestEndAndInsertError

/-! ## READ commands -/

/-- The checks of an element's READ command in their order: WRONG_STATE in CONFIG, WRONG_ROLE, BAD_ARGUMENT, DONE. -/
def Sys2Proof.Machine.ElementRead (s : State) (c : Instr) (start : Byte) (highest : Nat) (reply : List Byte) : Prop :=
  (s.port.nodeState = .config → IsRefused s c .wrongState) ∧
  (s.port.nodeState ≠ .config → s.port.cfg.role ≠ 1 → IsRefused s c .wrongRole) ∧
  (s.port.nodeState ≠ .config → s.port.cfg.role = 1 → highest < start.toNat → IsRefused s c .badArgument) ∧
  (s.port.nodeState ≠ .config → s.port.cfg.role = 1 → start.toNat ≤ highest → OnlyReads s c reply)

/-- R24: the 18 bytes of a seat. A pulse is in progress while its remaining is above 0 (R11). That the bytes of the offer
kinds always take four, and are 0 where they do not apply, is the model's reading (log entry 17). -/
def Sys2Proof.Machine.seatRow (s : State) (x : Seat) : List Byte :=
  let claim (c : Claim) : List Byte := [c.player.setWidth 8, c.number, BitVec.ofNat 8 c.offer]
    ++ bytesOf 2 c.granted ++ bytesOf 2 c.hold ++ bytesOf 2 c.mark.toNat
  let kind (c : Claim) (pulsing : Bool) : List Byte :=
    if (s.port.cfg.offer c.offer).kind = 2 then bytesOf 2 c.countdown ++ [flagByte pulsing, 0]
    else if (s.port.cfg.offer c.offer).kind = 1 then [0, 0, 0, BitVec.ofNat 8 c.renews]
    else [0, 0, 0, 0]
  match x with
  | .free => [0] ++ List.replicate 17 0
  | .guard c remaining h => [1] ++ claim c ++ kind c false ++ [BitVec.ofNat 8 remaining, 0, 0, flagByte h]
  | .held c pulse _ h => [2] ++ claim c ++ kind c (pulse.any fun m => decide (0 < m)) ++ [0, 0, 0, flagByte h]
  | .clearing remaining => [3] ++ List.replicate 14 0 ++ bytesOf 2 remaining ++ [0]

/-- R48: the 8 bytes of a waiting entry. -/
def Sys2Proof.Machine.entryRow (s : State) (e : Entry) : List Byte :=
  [e.player.setWidth 8, e.claim, BitVec.ofNat 8 e.offer, flagByte (s.eligible e)] ++ bytesOf 2 e.hold
    ++ bytesOf 2 e.refreshed

/-- R49: the 9 bytes of a standing record; an absent last-ended claim is written 255 twice (the model's reading, log entry
17). -/
def Sys2Proof.Machine.recordRow (r : StandingRecord) : List Byte :=
  [r.player.setWidth 8, BitVec.ofNat 8 r.budget] ++ bytesOf 2 r.bench ++ [flagByte r.ejected, flagByte r.silent,
    match r.engagement with
    | .none => 0
    | .waiting => 1
    | .seated n => BitVec.ofNat 8 (16 + n)]
  ++ match r.lastEnded with
    | none => [255, 255]
    | some (claim, reason) => [claim, reason.code]

/-- READ_SEATS, READ_WAITING and READ_RING: checks, rows, row sizes, and no change beyond the completion. The order of the
rows' items and their absent values are the model's reading (log entry 17). -/
def Sys2Proof.Machine.ElementReadsAreCheckedAndOnlyRead : Prop :=
  ∀ (s : State) (start : Byte), s.port.token = 0 →
    let seats := (s.seat.table.drop start.toNat).take 3
    let entries := (s.arb.waiting.drop start.toNat).take 7
    let records := (s.arb.ring.drop start.toNat).take 6
    ElementRead s (.readSeats start) start 3
      ([countByte s.seat.table, start, countByte seats] ++ seats.flatMap (seatRow s)) ∧
    ElementRead s (.readWaiting start) start 15
      ([countByte s.arb.waiting, start, countByte entries] ++ bytesOf 2 s.arb.ignoreCount
        ++ entries.flatMap (entryRow s)) ∧
    ElementRead s (.readRing start) start 23
      ([countByte s.arb.ring, s.port.cfg.ringMode, start, countByte records] ++ records.flatMap recordRow) ∧
    (∀ x : Seat, (seatRow s x).length = 18) ∧ (∀ e : Entry, (entryRow s e).length = 8) ∧
    ∀ r : StandingRecord, (recordRow r).length = 9

/-- R93: the 17 bytes of a request. The zeros of a request that is not SEATED are the model's reading (log entry 18). -/
def Sys2Proof.Machine.requestRow (now : Nat) (r : Request) : List Byte :=
  let state : Byte := match r.state with
    | .asking => 0
    | .waiting => 1
    | .seated => 2
    | .yielding => 3
  let left : Nat := match r.deadline with
    | some d => d - now
    | none => 0
  [r.element.setWidth 8, BitVec.ofNat 8 r.offer, r.claim] ++ bytesOf 2 r.hold.toNat
    ++ [state, BitVec.ofNat 8 r.tries, BitVec.ofNat 8 left, r.position, r.count]
    ++ (if r.state = .seated then [r.seat] ++ bytesOf 2 r.granted.toNat ++ bytesOf 2 r.countdown
          ++ [BitVec.ofNat 8 (r.margin.getD 0)] else [0, 0, 0, 0, 0, 0]) ++ [flagByte r.renewPending]

/-- A holder's id, 255 for none. -/
def Sys2Proof.Machine.idOrNone (h : Option NodeId) : Byte :=
  match h with
  | some n => n.setWidth 8
  | none => 255

/-- R68: the bytes of a partner view; an absent claim number is written 255 (log entry 17). -/
def Sys2Proof.Machine.partnerRow (v : PartnerView) : List Byte :=
  let satisfied : Byte :=
    if v.silent then 0
    else match v.rule with
      | .exclusive => if v.seats.any taken then 0 else 2
      | .companion => if v.seats.any fun x => decide (x.state = 2) && x.holder.isSome then 1 else 0
  [v.id.setWidth 8, (match v.rule with | .exclusive => 1 | .companion => 2), flagByte v.silent] ++ bytesOf 2 v.lastHeard
    ++ [satisfied, countByte v.seats]
    ++ v.seats.flatMap fun x => [x.state, idOrNone x.holder] ++ bytesOf 2 x.mark.toNat ++ [x.claim.getD 255]

/-- R93: the bytes of an entry of the element view, seat by seat and offer by offer (the model's reading, log entry 17). -/
def Sys2Proof.Machine.viewRow (id : NodeId) (v : ViewEntry) : List Byte :=
  [id.setWidth 8, countByte v.seats]
    ++ (v.seats.flatMap fun x => [x.state, idOrNone x.holder] ++ bytesOf 2 x.mark.toNat)
    ++ [v.waiting, countByte v.offers]
    ++ (v.offers.flatMap fun o => [o.kind.setWidth 8, flagByte o.openNow, o.restriction.setWidth 8, o.cost]
          ++ bytesOf 2 o.maxHold.toNat)
    ++ bytesOf 2 v.lastHeard ++ [flagByte v.silent]

/-- READ_REQUESTS at a PLAYER and READ_VIEW at a PLAYER and at an ELEMENT: checks, reply, and no change beyond the
completion. The contents of the rows rest on the model's readings (log entries 17 and 18). -/
def Sys2Proof.Machine.RequestAndViewReads : Prop :=
  ∀ (s : State) (start : Byte), s.port.token = 0 →
    (s.port.nodeState = .config → IsRefused s (.readRequests start) .wrongState ∧
      IsRefused s (.readView start) .wrongState) ∧
    (s.port.nodeState ≠ .config →
      (s.port.cfg.role ≠ 0 → IsRefused s (.readRequests start) .wrongRole) ∧
      (s.port.cfg.role = 0 → 3 < start.toNat → IsRefused s (.readRequests start) .badArgument) ∧
      (s.port.cfg.role = 0 → start.toNat ≤ 3 →
        let requests := (s.req.list.drop start.toNat).take 3
        OnlyReads s (.readRequests start)
          ([s.req.claimCounter] ++ bytesOf 2 s.req.bench ++ [flagByte s.req.ejected] ++ bytesOf 2 s.req.strayCount
            ++ bytesOf 2 s.req.viewIgnore ++ [countByte s.req.list, start, countByte requests]
            ++ requests.flatMap (requestRow s.localMs)) ∧
        ∀ r : Request, (requestRow s.localMs r).length = 17) ∧
      (s.port.cfg.role ≠ 0 → s.port.cfg.role ≠ 1 → IsRefused s (.readView start) .wrongRole) ∧
      (s.port.cfg.role = 1 →
        OnlyReads s (.readView start) (countByte s.views :: s.views.flatMap partnerRow)) ∧
      (s.port.cfg.role = 0 → 31 < start.toNat → IsRefused s (.readView start) .badArgument) ∧
      (s.port.cfg.role = 0 → start.toNat ≤ 31 → OnlyReads s (.readView start) (countByte s.req.view ::
        match s.req.view[start.toNat]? with
        | some x => viewRow x.1 x.2
        | none => [])))

/-- The READ commands that one role answers. Item order, absent values and the zeros of what does not apply are the model's
choices (log entries 17 and 18). -/
def Obligations.ReadsOfOneRole : Prop :=
  ElementReadsAreCheckedAndOnlyRead ∧ RequestAndViewReads

/-- R151: the 60 bytes of READ_PEER; the absent values are the model's reading (log entry 17). -/
def Sys2Proof.Machine.peerRow (s : State) (id : Byte) : List Byte :=
  let slot := lookupId (id.setWidth 6) s.peers.slots
  let heard (n i : Nat) : Bool := match lookupId (BitVec.ofNat 6 (8 * n + i)) s.peers.slots with
    | some p => p.heard
    | none => false
  let bits (b : Nat → Bool) : Byte := BitVec.ofBool (b 7) ++ BitVec.ofBool (b 6) ++ BitVec.ofBool (b 5)
    ++ BitVec.ofBool (b 4) ++ BitVec.ofBool (b 3) ++ BitVec.ofBool (b 2) ++ BitVec.ofBool (b 1) ++ BitVec.ofBool (b 0)
  let referee (r : Option RefSlot) : List Byte := match r with
    | none => [255, 0, 255, 255]
    | some r => [r.id.setWidth 8, bits fun i => match i with
        | 7 => r.lastSeq.isSome
        | 6 => r.ad.isSome
        | 5 => match r.ad with
          | some a => a.1
          | none => false
        | _ => false, r.lastSeq.getD 255, match r.ad with
          | some a => a.2
          | none => 255]
  let u := s.phase
  [id]
    ++ (match slot with
      | none => List.replicate 11 0
      | some p => [bits fun i => match i with
          | 7 => true
          | 6 => p.heard
          | 5 => p.halted
          | 4 => p.test
          | _ => false, BitVec.ofNat 8 (16 * p.role.toNat + p.alliance.toNat),
          BitVec.ofNat 8 (16 * p.level.toNat + p.align.toNat), p.phase.setWidth 8, p.seq]
        ++ bytesOf 2 p.lastHeard ++ bytesOf 2 p.silence ++ bytesOf 2 p.frames)
    ++ [7, 6, 5, 4, 3, 2, 1, 0].map (fun n => bits (heard n))
    ++ [countByte s.peers.slots, countByte (s.peers.slots.filter fun x => x.2.heard)]
    ++ bytesOf 2 s.peers.clashCount ++ bytesOf 2 s.peers.rejectCount ++ [idOrNone s.peers.lastChanged]
    ++ referee s.peers.referees[0]? ++ referee s.peers.referees[1]? ++ bytesOf 2 s.peers.orderIgnore
    ++ [u.phase.code, u.seq, bits fun i => match i with
          | 7 => u.fresh
          | 6 => u.latch
          | 5 => u.stop
          | 4 => u.haltSending
          | 3 => u.currentCarried.isSome
          | 2 => u.pending.isSome
          | 1 => u.lastHalt.isSome
          | _ => false, u.pausedPhase.code, u.currentPhase.code]
    ++ bytesOf 4 ((u.currentCarried.map BitVec.toNat).getD 0)
    ++ (match u.pending with
      | none => List.replicate 7 0
      | some m => [m.seq, m.phase.code] ++ bytesOf 5 m.boundary)
    ++ bytesOf 2 ((u.lastHalt.map fun t => t / 1000).getD 0) ++ bytesOf 2 u.ignoreCount ++ bytesOf 2 u.conflictCount
    ++ [match slot with
      | none => 0
      | some p => match p.ad with
        | none => 0
        | some a => BitVec.ofNat 8 (128 + (if a.benched then 64 else 0) + (if a.ejected then 32 else 0) + a.requests % 8)]

/-- R114: the 31 bytes of READ_TIME; the absent values are the model's reading (log entry 17). -/
def Sys2Proof.Machine.timeRow (s : State) : List Byte :=
  let t := s.time
  let mode : Byte := match t.mode with
    | .track => 0
    | .freeze => 1
    | .fixed => 2
  let align : Byte := match t.align with
    | .unaligned => 0
    | .acquiring => 1
    | .locked => 2
    | .holdover => 3
    | .source => 4
  let cause : Byte := match t.lastCause with
    | .none => 0
    | .referenceChosen => 1
    | .referenceBetter => 2
    | .referenceLost => 3
    | .lockReached => 4
    | .lockLost => 5
    | .holdoverExpired => 6
    | .sourceStart => 7
    | .fixedMode => 8
  let sample : List Byte := match t.lastSample with
    | none => [0, 0, 0, 0, 255]
    | some x => bytesOf 4 (BitVec.ofInt 32 x.offset).toNat ++ [match x.kind with
        | .slew => 1
        | .step => 2]
  bytesOf 5 t.ft ++ [BitVec.ofNat 8 t.fraction] ++ bytesOf 2 (BitVec.ofInt 16 t.trim).toNat
    ++ bytesOf 2 (BitVec.ofInt 16 t.commanded).toNat ++ [mode] ++ bytesOf 4 t.stall
    ++ [align, idOrNone t.reference, BitVec.ofNat 8 t.level, BitVec.ofNat 8 t.lockCount]
    ++ bytesOf 2 t.holdover ++ [flagByte t.alarm] ++ sample ++ [cause, s.port.cfg.linkDelay]
    ++ bytesOf 2 (if s.port.nodeState = .config then s.port.cfg.stepLimit.toNat else s.time.stepLimit)

/-- R172: the seven counts of a window. -/
def Sys2Proof.Machine.windowRow (w : WindowCounts) : List Byte :=
  [w.sent, w.good, w.crc, w.format, w.kind, w.overflow, w.drop].flatMap (bytesOf 2)

/-- R179, R167: the 50 bytes of READ_LINK part 0, with the slots remaining as they are found. -/
def Sys2Proof.Machine.linkRow (s : State) (slots : Option Nat) : List Byte :=
  let l := s.link
  let c := s.chan
  [flagByte l.lost] ++ bytesOf 2 l.remaining ++ [flagByte l.txFault, match l.lastPower with
      | none => 255
      | some .seen => 1
      | some .notSeen => 2]
    ++ windowRow l.window ++ bytesOf 2 l.elapsed ++ windowRow l.lastWindow ++ bytesOf 2 l.lastWindowNumber
    ++ [countByte c.txQueue] ++ [0, 1, 2, 3].map (fun k => countByte (c.txQueue.filter fun f => decide (f.body.urgency = k)))
    ++ [flagByte c.contention.isSome, match slots with
      | some n => BitVec.ofNat 8 n
      | none => 255, BitVec.ofNat 8 c.exponent] ++ bytesOf 2 c.backoff.toNat
    ++ bytesOf 2 ((c.presenceDue.map fun d => d - s.localMs).getD 0) ++ [countByte c.rxQueue]

/-- R179: the 24 bytes of READ_LINK part 1. -/
def Sys2Proof.Machine.testRow (l : Link) : List Byte :=
  let r := l.record
  let kind : Byte := match l.testKind with
    | none => 255
    | some .patternSend => 1
    | some .patternCheck => 2
    | some .loopback => 3
  let cause : Byte := match r.endCause with
    | none => 255
    | some .command => 1
    | some .phase => 2
  [kind, flagByte l.insertPending, idOrNone l.patternSource]
    ++ bytesOf 2 l.sendSeq.toNat ++ bytesOf 2 l.expectedSeq.toNat
    ++ [r.patternsSent, r.errorsInserted, r.seedFrames, r.compared, r.missed, r.ignored].flatMap (bytesOf 2)
    ++ bytesOf 4 r.bitErrors ++ [cause]

/-- R193: the 59 bytes of READ_CONFIG. -/
def Sys2Proof.Machine.configRow (c : StoredConfig) : List Byte :=
  let two (h : Half) : List Byte := bytesOf 2 h.toNat
  let slot (o : OfferSlot) : List Byte :=
    [o.kind] ++ two o.maxHold ++ [o.cost, o.openPhases, o.restriction] ++ two o.pulsePeriod
  [c.nodeId, c.role, c.alliance] ++ two c.presencePeriod ++ two c.silenceTime ++ [c.linkDelay] ++ two c.stepLimit
    ++ two c.windowLength ++ [c.source, c.seatCount, c.offerCount, c.budgetBase, c.reloadPhases, c.ringMode]
    ++ two c.clearing ++ [c.senseUse, c.mute, c.partnerCount, c.partner0.id, c.partner0.rule, c.partner1.id,
      c.partner1.rule] ++ slot c.offer0 ++ slot c.offer1 ++ slot c.offer2 ++ slot c.offer3

/-- READ_PEER, READ_TIME, READ_LINK and READ_CONFIG, in every node state and role: arguments, replies whole, and no change
beyond the completion. While a countdown is in progress part 0 of READ_LINK finds a number of its slots passed that nothing
but its range decides, and later readings find no fewer (a free value, log entry 7). -/
def Sys2Proof.Machine.ReadsInEveryNodeState : Prop :=
  ∀ s : State, s.port.token = 0 →
    (∀ id : Byte, 63 < id.toNat → IsRefused s (.readPeer id) .badArgument) ∧
    (∀ id : Byte, id.toNat ≤ 63 → OnlyReads s (.readPeer id) (peerRow s id) ∧ (peerRow s id).length = 60) ∧
    OnlyReads s .readTime (timeRow s) ∧ (timeRow s).length = 31 ∧
    (∀ slots, (linkRow s slots).length = 50) ∧
    (s.chan.contention = none → OnlyReads s (.readLink 0) (linkRow s none)) ∧
    (∀ k, s.chan.contention = some k →
      (k.gapDone = false ∨ k.slots = none → OnlyReads s (.readLink 0)
        (linkRow s (k.slots.map fun b => b - k.passed))) ∧
      (∀ b, k.gapDone = true → k.slots = some b →
        (b ≤ k.passed → OnlyReads s (.readLink 0) (linkRow s (some 0))) ∧
        (k.passed < b → ∃ p, k.passed ≤ p ∧ p < b ∧ Leaves s (.readLink 0)
          { s with chan := { s.chan with contention := some { k with passed := p } }, freeIndex := s.freeIndex + 1 }
          (linkRow s (some (b - p)))))) ∧
    OnlyReads s (.readLink 1) (testRow s.link) ∧ (testRow s.link).length = 24 ∧
    (∀ part : Byte, part ≠ 0 → part ≠ 1 → IsRefused s (.readLink part) .badArgument) ∧
    OnlyReads s .readConfig (configRow s.port.cfg) ∧ (configRow s.port.cfg).length = 59

/-- READ_NOTICES takes up to four records from the head of the queue and gives them, seven bytes each, with their number
and the number left. -/
def Sys2Proof.Machine.ReadNoticesTakesTheOldest : Prop :=
  ∀ s : State, s.port.token = 0 →
    Leaves s .readNotices { s with port := { s.port with notices := s.port.notices.drop 4 } }
      ([countByte (s.port.notices.take 4), countByte (s.port.notices.drop 4)]
        ++ (s.port.notices.take 4).flatMap fun n =>
          [n.kind.code, n.id, n.claim] ++ bytesOf 2 n.detail.toNat ++ bytesOf 2 n.time.toNat)

/-- The READ commands that every role answers. Item order and absent values in the replies of READ_PEER, READ_TIME and
READ_LINK are the model's choices (log entry 17). -/
def Obligations.ReadsOfEveryRole : Prop :=
  ReadsInEveryNodeState ∧ ReadNoticesTakesTheOldest

/-! ## The port area -/

/-- A code that names no command completes UNKNOWN_COMMAND and changes nothing else. -/
def Sys2Proof.Machine.UnknownCommandIsRefused : Prop :=
  ∀ (s : State) (code : Byte), s.port.token = 0 → (Instr.unknownCommand code).wf = true →
    IsRefused s (.unknownCommand code) .unknownCommand

/-- A byte written to the port area: the command block and the token while the token is 0, COMMAND_OVERRUN while it is
not, the event flags cleared by ones, the mask replaced, and every other offset ignored. -/
def Sys2Proof.Machine.PortWritesReachTheirRegions : Prop :=
  ∀ (s : State) (offset : BitVec 7) (v : Byte) (place : PairByte),
    let w : Half := match place with
      | .first => v ++ (0 : Byte)
      | .second => (0 : Byte) ++ v
    let all : Half := match place with
      | .first => 0xFF00
      | .second => 0x00FF
    (offset.toNat < 31 → s.port.token = 0 → exec (.portWrite offset v) s =
      .next { s with port := { s.port with block := s.port.block.set offset.toNat v } }) ∧
    (offset.toNat = 31 → s.port.token = 0 → exec (.portWrite offset v) s =
      .next { s with port := { s.port with token := v } }) ∧
    (offset.toNat ≤ 31 → s.port.token ≠ 0 → exec (.portWrite offset v) s =
      .next { s with port := { s.port with flags := s.port.flags ||| 4#16 } }) ∧
    (32 ≤ offset.toNat → offset.toNat < 96 ∨ 99 < offset.toNat → exec (.portWrite offset v) s = .next s) ∧
    exec (.eventFlagsWrite place v) s =
      .next { s with port := { s.port with flags := s.port.flags &&& ~~~ w } } ∧
    exec (.eventMaskWrite place v) s =
      .next { s with port := { s.port with mask := (s.port.mask &&& ~~~ all) ||| w } }

/-- The command block of a command: its code and its arguments in their bytes; none for what is no command. -/
def Sys2Proof.Machine.blockOf (c : Instr) : Option (List Byte) :=
  let two (h : Half) : List Byte := bytesOf 2 h.toNat
  match c with
  | .setNode i r a => some [16, i, r, a]
  | .setTiming p q d l w => some ([17] ++ two p ++ two q ++ [d] ++ two l ++ two w)
  | .setElement n o b r m c u v => some ([18, n, o, b, r, m] ++ two c ++ [u, v])
  | .setOffer n k h c p r u => some ([19, n, k] ++ two h ++ [c, p, r] ++ two u)
  | .setPartner n i r j q => some [20, n, i, r, j, q]
  | .setReferee f => some [21, f]
  | .start => some [30]
  | .reset => some [31]
  | .ask e o h => some ([32, e, o] ++ two h)
  | .yield e => some [33, e]
  | .renew e => some [34, e]
  | .sendMark p l => some ([48, p] ++ two l)
  | .sendSanction p k d => some ([49, p, k] ++ two d)
  | .sendTurn e p => some [50, e, p]
  | .haltOn => some [51]
  | .haltOff => some [52]
  | .trimMode m => some [64, m]
  | .trimSet t => some ([65] ++ two t)
  | .testBegin k => some [80, k]
  | .testEnd => some [81]
  | .insertError => some [82]
  | .readSeats i => some [96, i]
  | .readWaiting i => some [97, i]
  | .readRing i => some [98, i]
  | .readRequests i => some [99, i]
  | .readView i => some [100, i]
  | .readPeer i => some [101, i]
  | .readTime => some [102]
  | .readLink p => some [103, p]
  | .readNotices => some [104]
  | .readConfig => some [105]
  | .unknownCommand code => some [code]
  | _ => none

/-- A command handed over by a byte at offset 31, of whatever nonzero value, with its block in place, is the command that is
taken: the row of that command then does what it does where it writes the block itself, and the row of another command is
ignored with COMMAND_OVERRUN, the held command being taken (the model's reading of a row that meets a nonzero token, log entry
5). -/
def Sys2Proof.Machine.HandedOverCommandsAreTaken : Prop :=
  ∀ (c : Instr) (bytes : List Byte), blockOf c = some bytes → c.wf = true →
    ∀ (s : State) (token : Byte), s.port.token = 0 → s.port.block.take bytes.length = bytes → token ≠ 0 →
    let held : State := { s with port := { s.port with token := token } }
    exec (.portWrite 31 token) s = .next held ∧
    exec c held = exec c s ∧
    ∀ (d : Instr) (other : List Byte), blockOf d = some other → d.wf = true →
      s.port.block.take other.length ≠ other → exec d held = exec c (withFlag .commandOverrun held)

/-- Bytes written to the port area, codes that name no command, and commands handed over by such bytes. -/
def Obligations.PortWritesAndUnknownCodes : Prop :=
  UnknownCommandIsRefused ∧ PortWritesReachTheirRegions ∧ HandedOverCommandsAreTaken

/-- What a read of each offset of the port area captures, and EVTn. That bits 1 and 0 of offset 103 read 0 is the model's choice
(log entry 41). -/
def Sys2Proof.Machine.PortReadsShowTheArea : Prop :=
  ∀ (s : State),
    (∀ o : BitVec 7, o.toNat < 31 → s.portRead o = s.port.block.getD o.toNat 0) ∧
    s.portRead 31 = s.port.token ∧ s.portRead 32 = s.port.result ∧ s.portRead 33 = s.port.replyLength ∧
    (∀ o : BitVec 7, 34 ≤ o.toNat → o.toNat < 96 → s.portRead o = s.port.reply.getD (o.toNat - 34) 0) ∧
    (∀ i, i < 8 → (s.portRead 96).getLsbD i = s.port.flags.getLsbD (i + 8) ∧
      (s.portRead 97).getLsbD i = s.port.flags.getLsbD i ∧ (s.portRead 98).getLsbD i = s.port.mask.getLsbD (i + 8) ∧
      (s.portRead 99).getLsbD i = s.port.mask.getLsbD i) ∧
    s.portRead 100 = (match s.port.nodeState with
      | .config => 0
      | .listening => 1
      | .running => 2
      | .test => 3) ∧
    s.portRead 101 = s.phase.phase.code ∧
    s.portRead 102 = (match s.time.align with
      | .unaligned => 0
      | .acquiring => 1
      | .locked => 2
      | .holdover => 3
      | .source => 4) ∧
    ((s.portRead 103).getLsbD 7 = s.phase.latch ∧ (s.portRead 103).getLsbD 6 = s.phase.stop ∧
      (s.portRead 103).getLsbD 5 = s.phase.haltSending ∧ (s.portRead 103).getLsbD 4 = s.link.lost ∧
      (s.portRead 103).getLsbD 3 = s.link.txFault ∧ (s.portRead 103).getLsbD 2 = decide (3 ≤ s.chan.rxQueue.length) ∧
      (s.portRead 103).getLsbD 1 = false ∧ (s.portRead 103).getLsbD 0 = false) ∧
    (∀ o : BitVec 7, 104 ≤ o.toNat → s.portRead o = 0) ∧
    (s.evtn = false ↔ ∃ i, i < 16 ∧ s.port.flags.getLsbD i = true ∧ s.port.mask.getLsbD i = true)

/-- A transaction: CSn falls, the access byte opens a write or a read, each byte of a write takes effect at its offset as a
PORT_WRITE does, each byte of a read is captured at its first bit, and CSn rises. The pair of event flags, and that of the
mask, stands as the first of its bytes was captured; SDO is driven in a read alone; a command handed over in a write is
taken when CSn rises. -/
def Sys2Proof.Machine.TransactionsMoveBytes : Prop :=
  ∀ s : State,
    let spi (x : Option Transaction) (t : State) : State := { t with port := { t.port with spi := x } }
    s.csFall = spi (some .access) s ∧
    (s.port.spi = none ∨ s.port.spi = some .access ∨ (∃ o, s.port.spi = some (.writing o)) →
      s.spiOut = none ∧ s.sdoDriven = false ∧ s.spiCapture = s) ∧
    (s.port.spi = some .access → ∀ b : Byte,
      s.spiByte b = spi (some (if b.getLsbD 7 then .reading (b.setWidth 7) none none else .writing (b.setWidth 7))) s) ∧
    (∀ o, s.port.spi = some (.writing o) → ∀ b : Byte,
      ∃ t, exec (.portWrite o b) s = .next t ∧ s.spiByte b = spi (some (.writing (o + 1))) t) ∧
    (∀ o flags mask, s.port.spi = some (.reading o flags mask) →
      s.sdoDriven = true ∧ (∀ b : Byte, s.spiByte b = spi (some (.reading (o + 1) flags mask)) s) ∧
      (o ≠ 96 → o ≠ 97 → o ≠ 98 → o ≠ 99 → s.spiOut = some (s.portRead o) ∧ s.spiCapture = s) ∧
      (o = 96 ∨ o = 97 → s.spiOut = some ((flags.getD s.port.flags).extractLsb' (if o = 96 then 8 else 0) 8) ∧
        s.spiCapture = spi (some (.reading o (some (flags.getD s.port.flags)) mask)) s) ∧
      (o = 98 ∨ o = 99 → s.spiOut = some ((mask.getD s.port.mask).extractLsb' (if o = 98 then 8 else 0) 8) ∧
        s.spiCapture = spi (some (.reading o flags (some (mask.getD s.port.mask)))) s)) ∧
    ((∀ o, s.port.spi ≠ some (.writing o)) ∨ s.port.token = 0 → s.csRise = spi none s) ∧
    (∀ o, s.port.spi = some (.writing o) → s.port.token ≠ 0 → ∀ c bytes, blockOf c = some bytes → c.wf = true →
      s.port.block.take bytes.length = bytes → exec c (spi none s) = .next s.csRise) ∧
    ∀ (access : Byte) (bytes : List Byte), s.transaction access bytes =
      ((access :: bytes).foldl (fun t b => t.spiCapture.spiByte b) s.csFall).csRise

/-- TXEN is high, and TXD carries the bits of the frame's run, exactly while a frame is in transmission in RUNNING or TEST
and is none of a loopback test; otherwise both are low. A frame already in transmission when a loopback test begins is none of
that test's and is sent to its end (the model's choice, log entry 40). -/
def Sys2Proof.Machine.TxdCarriesTheFrame : Prop :=
  ∀ s : State,
    (s.txen = true ↔ (s.port.nodeState = .running ∨ s.port.nodeState = .test) ∧
      ∃ f, s.chan.txFrame = some f ∧ f.looped = false) ∧
    (s.txen = false → ∀ bit, s.txd bit = false) ∧
    (s.txen = true → ∀ f, s.chan.txFrame = some f → ∀ byte i, i < 8 →
      s.txd (8 * byte + i) = (([0xAA, 0xAA, 0x76, 0xB1] ++ frameBytes f.header f.body).getD byte 0).getLsbD (7 - i)) ∧
    State.reset.txen = false

/-- What the controller reads at the port, and what the channel's output lines show. -/
def Obligations.PortReadsAndLines : Prop :=
  PortReadsShowTheArea ∧ TransactionsMoveBytes ∧ TxdCarriesTheFrame

/-! ## Events on the input pins -/

/-- STOPn falling: in CONFIG, or with the STOP state already active, only the pin's level changes; otherwise the STOP
state and the halt latch are set and the HALT schedule begins. STOPn rising ends the STOP state, sets the last-HALT time
and keeps the latch; the schedule stops unless halt sending is on. That the falling edge's own row places the first HALT and
makes the next due 20 local ms later is the model's reading (log entry 23); that a row without its cause, a fall with the
STOP state active or a rise with it inactive, changes only the pin's level is the model's choice (log entry 2). -/
def Obligations.StopInput : Prop :=
  ∀ s : State,
    let low : State := { s with pins := { s.pins with stopLow := true } }
    let high : State := { s with pins := { s.pins with stopLow := false } }
    (s.port.nodeState = .config → exec .stopActive s = .next low ∧ exec .stopInactive s = .next high) ∧
    (s.phase.stop = true → exec .stopActive s = .next low) ∧
    (s.phase.stop = false → exec .stopInactive s = .next high) ∧
    (s.port.nodeState ≠ .config → s.phase.stop = false →
      ∃ t, exec .stopActive s = .next t ∧
        t.phase = { s.phase with stop := true, latch := true,
                                 haltDue := if s.phase.haltDue.isSome then s.phase.haltDue
                                   else some (s.localMs + 20) } ∧
        (s.phase.latch = false → t.hasFlag .haltChanged = true) ∧
        (s.phase.haltDue = none → s.port.nodeState = .running ∨ s.port.nodeState = .test →
          (∀ f ∈ s.chan.txQueue, f.body ≠ .halt) → s.chan.txQueue.length < 8 →
          t.chan.txQueue = s.chan.txQueue ++ [{ body := .halt, ofRequest := false }]) ∧
        (s.phase.haltDue.isSome = true ∨ s.port.nodeState = .listening → t.chan = s.chan ∧ t.req = s.req) ∧
        SameOutsidePlayer { low with phase := t.phase } t) ∧
    (s.port.nodeState ≠ .config → s.phase.stop = true →
      exec .stopInactive s = .next { high with phase := { s.phase with
        stop := false, lastHalt := some s.time.ft,
        haltDue := if s.phase.haltSending then s.phase.haltDue else none } })

/-- A rise and a fall of CD on the contention in progress: before the draw the gap is lost and k rises by one, up to 7;
after it the gap is lost and a running countdown keeps the slots left, that is, those held less the slots counted since
the gap was complete: the operand, and no fewer than a reading has found passed (log entry 7). In a loopback test only the
pin's level changes. A rise with CD already high and a fall with CD already low change nothing (the model's choice, log
entry 2). -/
def Obligations.CarrierDetect : Prop :=
  ∀ (s : State) (n : Nat),
    let up : State := { s with pins := { s.pins with cd := true } }
    let down : State := { s with pins := { s.pins with cd := false } }
    let gap (slots : Option Nat) : Contention := { gapDone := false, gapCount := 0, slots := slots, passed := 0 }
    (s.pins.cd = true → exec (.carrierDetectRise n) s = .next s) ∧
    (s.pins.cd = false → exec .carrierDetectFall s = .next s) ∧
    (s.pins.cd = false → inLoop s ∨ s.chan.contention = none → exec (.carrierDetectRise n) s = .next up) ∧
    (s.pins.cd = true → inLoop s ∨ s.chan.contention = none → exec .carrierDetectFall s = .next down) ∧
    (s.pins.cd = false → ¬ inLoop s → ∀ k, s.chan.contention = some k →
      (k.slots = none → exec (.carrierDetectRise n) s = .next { up with chan := { s.chan with
        contention := some (gap none), exponent := min (s.chan.exponent + 1) 7 } }) ∧
      (∀ b, k.slots = some b → exec (.carrierDetectRise n) s = .next { up with chan := { s.chan with
        contention := some (gap (some (if k.gapDone then b - max n k.passed else b))) } })) ∧
    (s.pins.cd = true → ¬ inLoop s → ∀ k, s.chan.contention = some k →
      exec .carrierDetectFall s = .next { down with chan := { s.chan with
        contention := some (gap (k.slots.map fun b => b - k.passed)) } })

/-! ## The local ms -/

/-- One local ms moves FT, the fraction and the stall remainder by the arithmetic of R95, FT held at 2^40 - 1 (R94), and
counts the holdover by the field ms boundaries crossed, to 0 at most, where HOLDOVER stands until its row (log entry 1);
nothing else of field time changes. The local ms is counted (log entry 9) and the sense levels are read (log entry 30). -/
def Obligations.LocalMsAdvancesFieldTime : Prop :=
  ∀ (s : State) (sense : BitVec 4), TimeLaw s →
    ∃ (t : State) (a f : Nat), exec (.ftAdvance sense) s = .next t ∧
      256 * (a : Int) + (f : Int) = (s.time.fraction : Int) + 256000 + s.time.trim ∧ f < 256 ∧
      998 ≤ a ∧ a ≤ 1002 ∧ (s.time.trim = 0 → a = 1000 ∧ f = s.time.fraction) ∧ (s.time.trim = -512 → a = 998) ∧
      t.time = { s.time with
        ft := if s.time.stall = 0 then min (s.time.ft + a) (2 ^ 40 - 1)
              else if a ≤ s.time.stall then s.time.ft
              else min (s.time.ft + (a - s.time.stall)) (2 ^ 40 - 1),
        fraction := f, stall := s.time.stall - a,
        holdover := s.time.holdover - (t.time.ft / 1000 - s.time.ft / 1000) } ∧
      t.localMs = s.localMs + 1 ∧ t.pins = { s.pins with sense := sense }

/-- R7, R96: a seat's counters after k boundaries; the hold and the pulse countdown count while `run` holds, the sense
release while `away` holds. -/
def Sys2Proof.Machine.countedSeat (run away : Bool) (k : Nat) (x : Seat) : Seat :=
  match x with
  | .free => .free
  | .guard c r h => .guard c (r - k) h
  | .clearing r => .clearing (r - k)
  | .held c p r h =>
    .held (if run then { c with hold := c.hold - k, countdown := c.countdown - k } else c) (p.map fun x => x - k)
      (if away && !h then r - k else r) h

/-- R58, R83, R89: the ring and the requests after k boundaries of a running phase. A bench that reaches 0 by counting is
marked until its row (log entry 1). -/
def Sys2Proof.Machine.countedStanding (k : Nat) (s : State) : State :=
  { s with
    arb := { s.arb with ring := s.arb.ring.map fun r =>
      { r with bench := r.bench - k, benchEnding := r.benchEnding || decide (0 < r.bench ∧ r.bench ≤ k) } },
    req := { s.req with
      bench := s.req.bench - k, benchEnding := s.req.benchEnding || decide (0 < s.req.bench ∧ s.req.bench ≤ k),
      list := s.req.list.map fun r => if r.state = .seated then (match r.margin with
        | none => { r with countdown := r.countdown - k }
        | some m => { r with margin := some (m - k) }) else r } }

/-- Every counter of field ms after k boundaries, the sense inputs as last read. -/
def Sys2Proof.Machine.fieldCounted (k : Nat) (s : State) : State :=
  let run : Bool := s.phase.phase.isRunningPhase && !s.phase.latch
  let away (n : Nat) : Bool := decide (s.port.cfg.senseUse ≠ 0) && !s.pins.sense.getLsbD n
  let a : State := { s with seat := { s.seat with table := s.seat.table.mapIdx fun n x => countedSeat run (away n) k x } }
  if run then countedStanding k a else a

/-- The counters of field ms at a local ms: each falls by the boundaries crossed, to 0 at most. Hold, pulse countdown,
bench and request countdowns count only while the phase is running; a sense release is set to 300 at an active reading
and counts at an inactive one, unless the seat is held for a silent holder. The inputs are read before the counting (the
model's order, log entry 30), and a counter that reaches 0 stands there until its row is taken (log entry 1). -/
def Sys2Proof.Machine.LocalMsCountsFieldCounters : Prop :=
  ∀ (s : State) (sense : BitVec 4), ∃ t, exec (.ftAdvance sense) s = .next t ∧
    let k := t.time.ft / 1000 - s.time.ft / 1000
    let run : Bool := s.phase.phase.isRunningPhase && !s.phase.latch
    let on : Bool := decide (s.port.cfg.senseUse ≠ 0)
    t.seat.table.length = s.seat.table.length ∧
    (∀ n : Nat, s.seat.table[n]? = some Seat.free → t.seat.table[n]? = some Seat.free) ∧
    (∀ (n : Nat) c r h, s.seat.table[n]? = some (Seat.guard c r h) → t.seat.table[n]? = some (Seat.guard c (r - k) h)) ∧
    (∀ (n : Nat) r, s.seat.table[n]? = some (Seat.clearing r) → t.seat.table[n]? = some (Seat.clearing (r - k))) ∧
    (∀ (n : Nat) c p r h, s.seat.table[n]? = some (Seat.held c p r h) →
      t.seat.table[n]? = some (Seat.held
        (if run then { c with hold := c.hold - k, countdown := c.countdown - k } else c) (p.map fun x => x - k)
        (if on then (if sense.getLsbD n then 300 else if h then r else r - k) else r) h)) ∧
    t.arb.waiting = s.arb.waiting ∧ t.arb.ignoreCount = s.arb.ignoreCount ∧
    (run = false → t.arb = s.arb ∧ t.req = s.req) ∧
    (run = true → t.arb.ring = s.arb.ring.map (fun r => { r with
        bench := r.bench - k, benchEnding := r.benchEnding || decide (0 < r.bench ∧ r.bench ≤ k) }) ∧
      t.req = { s.req with
        bench := s.req.bench - k, benchEnding := s.req.benchEnding || decide (0 < s.req.bench ∧ s.req.bench ≤ k),
        list := s.req.list.map fun r => if r.state = .seated then (match r.margin with
          | none => { r with countdown := r.countdown - k }
          | some m => { r with margin := some (m - k) }) else r }) ∧
    t.seat.guardTime = s.seat.guardTime ∧ t.views = s.views ∧ t.ref = s.ref ∧ t.phase = s.phase

/-- The counters of local ms: each HEARD slot's silence remaining and the window's elapsed time count in LISTENING,
RUNNING and TEST, the link remaining in LISTENING and RUNNING, the listen remaining in LISTENING, and none in CONFIG. A
counter at 0 stands there until its row is taken (log entry 1); the link remaining counts also while the link is lost (log
entry 36). A frame in transmission keeps all but its stamp, which a movement of FT before the end of its sync word would
change; which comes first is free (log entry 6), and after the local ms the stamp stands, but for a frame of a loopback
test, whose sync word SYNC_WORD_FOUND marks. -/
def Sys2Proof.Machine.LocalMsCountsLocalCounters : Prop :=
  ∀ (s : State) (sense : BitVec 4), ∃ t, exec (.ftAdvance sense) s = .next t ∧
    let up : Bool := decide (s.port.nodeState ≠ .config)
    t.peers = { s.peers with slots := if up then s.peers.slots.map (fun x =>
      (x.1, { x.2 with silence := if x.2.heard then x.2.silence - 1 else x.2.silence })) else s.peers.slots } ∧
    t.link = { s.link with
      elapsed := if up then min (s.link.elapsed + 1) s.link.windowLength else s.link.elapsed,
      remaining := if s.port.nodeState = .listening ∨ s.port.nodeState = .running then s.link.remaining - 1
        else s.link.remaining } ∧
    t.port = { s.port with
      listenRemaining := if s.port.nodeState = .listening then s.port.listenRemaining - 1
        else s.port.listenRemaining } ∧
    (s.chan.txFrame = none → t.chan = s.chan ∧ t.freeIndex = s.freeIndex) ∧
    (∀ f, s.chan.txFrame = some f → ∃ stamp : Quad,
      t.chan = { s.chan with txFrame := some { f with
        header := { f.header with stamp := stamp }, stampOpen := f.stampOpen && f.looped } } ∧
      (f.stampOpen = false ∨ f.looped = true → stamp = f.header.stamp) ∧
      (stamp = f.header.stamp ∨ stamp = BitVec.ofNat 32 t.time.ft))

/-- What one local ms counts beside field time. -/
def Obligations.LocalMsCounts : Prop :=
  LocalMsCountsFieldCounters ∧ LocalMsCountsLocalCounters

/-! ## Expiries of the seat unit -/

/-- A GUARD whose remaining is 0 enters HELD, and a pulse whose remaining is 0 ends; nothing else changes. A seat in
another state is left as it is (the model's choice, log entry 2). -/
def Sys2Proof.Machine.GuardExpiryAndPulseEnd : Prop :=
  ∀ (s : State) (n : Nat),
    (∀ c h, s.seat.table[n]? = some (.guard c 0 h) →
      exec (.guardExpiry n) s = .next (withSeat s n (heldEntry s c h))) ∧
    ((∀ c h, s.seat.table[n]? ≠ some (.guard c 0 h)) → exec (.guardExpiry n) s = .next s) ∧
    (∀ c r h, s.seat.table[n]? = some (.held c (some 0) r h) →
      exec (.pulseEnd n) s = .next (withSeat s n (.held c none r h))) ∧
    ((∀ c r h, s.seat.table[n]? ≠ some (.held c (some 0) r h)) → exec (.pulseEnd n) s = .next s)

/-- The present budget current of a player is at least one unit. -/
def Sys2Proof.Machine.canPay (s : State) (p : NodeId) : Prop :=
  ∃ r, s.arb.ring.find? (fun x => decide (x.player = p)) = some r ∧ 1 ≤ r.budget

/-- A METERED seat whose pulse countdown is 0 with hold left and a unit of budget: one unit is charged, a pulse of 50
begins and the countdown is reloaded; nothing else changes. -/
def Sys2Proof.Machine.PulseChargesOneUnit : Prop :=
  ∀ (s : State) (n : Nat) (c : Claim) (p : Option Nat) (r : Nat) (h : Bool),
    s.seat.table[n]? = some (.held c p r h) → (s.port.cfg.offer c.offer).kind = 2 → c.countdown = 0 → c.hold ≠ 0 →
    canPay s c.player →
    exec (.pulseCountdownExpiry n) s = .next { s with
      seat := { s.seat with
        table := s.seat.table.set n
          (.held { c with countdown := (s.port.cfg.offer c.offer).pulsePeriod.toNat } (some 50) r h) },
      arb := { s.arb with
        ring := s.arb.ring.map fun x => if x.player = c.player then { x with budget := x.budget - 1 } else x } }

/-- HOLD_EXPIRY, PULSE_COUNTDOWN_EXPIRY, SENSE_RELEASE_EXPIRY and SILENT_HOLDER_SENSE_LOST end their seat with EXPIRED,
BUDGET_SPENT or EXPIRED, SENSE_LOST and SILENT; with the clearing time 0 a resolution follows. The level of a sense input
is the one last read (log entry 30). A row whose cause is absent changes nothing (the model's choice, log entry 2). -/
def Sys2Proof.Machine.TimersEndTheirSeats : Prop :=
  ∀ (s : State) (n : Nat) (c : Claim) (p : Option Nat) (r : Nat) (h : Bool),
    (s.seat.table[n]? = some (.held c p r h) →
      (c.hold = 0 → exec (.holdExpiry n) s = .next (seatEnds n c .expired s)) ∧
      (c.hold ≠ 0 → exec (.holdExpiry n) s = .next s) ∧
      ((s.port.cfg.offer c.offer).kind = 2 → c.countdown = 0 →
        (c.hold = 0 → exec (.pulseCountdownExpiry n) s = .next (seatEnds n c .expired s)) ∧
        (c.hold ≠ 0 → ¬ canPay s c.player →
          exec (.pulseCountdownExpiry n) s = .next (seatEnds n c .budgetSpent s))) ∧
      ((s.port.cfg.offer c.offer).kind ≠ 2 ∨ c.countdown ≠ 0 → exec (.pulseCountdownExpiry n) s = .next s) ∧
      (s.port.cfg.senseUse ≠ 0 → h = false → r = 0 →
        exec (.senseReleaseExpiry n) s = .next (seatEnds n c .senseLost s)) ∧
      (s.port.cfg.senseUse = 0 ∨ h = true ∨ r ≠ 0 → exec (.senseReleaseExpiry n) s = .next s) ∧
      (h = false → exec (.silentHolderSenseLost n) s = .next s)) ∧
    (s.seat.table[n]? = some (.held c p r true) ∨ s.seat.table[n]? = some (.guard c r true) →
      (s.pins.sense.getLsbD n = false →
        exec (.silentHolderSenseLost n) s = .next (seatEnds n c .silent s)) ∧
      (s.pins.sense.getLsbD n = true → exec (.silentHolderSenseLost n) s = .next s)) ∧
    ((∀ c p r h, s.seat.table[n]? ≠ some (.held c p r h)) →
      exec (.holdExpiry n) s = .next s ∧ exec (.pulseCountdownExpiry n) s = .next s ∧
        exec (.senseReleaseExpiry n) s = .next s)

/-- The end of a seat as `seatEnded` has it, told out: with room in the transmit queue, outside TEST, the ENDED waits
there; with room in the notice queue SEAT_ENDED waits there; the seat, the ring and nothing else of the element change. -/
def Sys2Proof.Machine.SeatEndsReach : Prop :=
  ∀ (s : State) (n : Nat) (c : Claim) (reason : Reason), reason ≠ .matchEnd →
    let t := seatEnded n c reason s
    let turned : Seat := if s.port.cfg.clearing = 0 then .free else .clearing s.port.cfg.clearing.toNat
    SameOutsideElement s t ∧ t.arb = { s.arb with ring := ringAfterEnd s c reason } ∧
    t.seat = { s.seat with table := s.seat.table.set n turned } ∧
    (s.port.nodeState ≠ .test → s.chan.txQueue.length < 8 → t.chan.txQueue = s.chan.txQueue ++
      [{ body := .answer c.player c.number (.ended reason.code), ofRequest := false }]) ∧
    (s.port.nodeState = .test → t.chan = s.chan) ∧
    (s.port.nodeState = .test ∨ s.chan.txQueue.length < 8 → t.req = s.req ∧ t.link = s.link ∧
      (s.port.notices.length < 16 → t.port.notices = s.port.notices ++
        [{ kind := .seatEnded, id := c.player.setWidth 8, claim := c.number, detail := reason.code.setWidth 16,
           time := BitVec.ofNat 16 (s.time.ft / 1000) }]))

/-- The timers that move a seat without ending it, and those that end it. -/
def Obligations.SeatTimers : Prop :=
  GuardExpiryAndPulseEnd ∧ PulseChargesOneUnit ∧ TimersEndTheirSeats ∧ SeatEndsReach

/-! ## Grants -/

/-- What the grant of the seat n to a waiting entry leaves: the entry gone, its cost charged, the player seated, in
ROTATE_ON_GRANT its record at the tail, the seat in GUARD or HELD, SEAT_GRANTED posted and GRANTED placed. The pulse
countdown of a METERED claim in GUARD is 0 (the model's choice, log entry 33). -/
def Sys2Proof.Machine.granted (n : Nat) (e : Entry) (s : State) : State :=
  let mark : Half := BitVec.ofNat 16 (s.time.ft / 1000)
  let c : Claim := { player := e.player, number := e.claim, offer := e.offer, granted := e.hold, hold := e.hold,
                     mark := mark, countdown := 0, renews := 0 }
  let charged := s.arb.ring.map fun x => if x.player = e.player then
    { x with budget := x.budget - (s.port.cfg.offer e.offer).cost.toNat, engagement := .seated n } else x
  let entered : Seat := if s.seat.guardTime = 0 then heldEntry s c false else .guard c s.seat.guardTime false
  State.send (.answer e.player e.claim (.granted (BitVec.ofNat 8 n) (BitVec.ofNat 16 e.hold) mark))
    { posted .seatGranted (e.player.setWidth 8) e.claim (BitVec.ofNat 16 e.hold) s with
      seat := { s.seat with table := s.seat.table.set n entered },
      arb := { s.arb with
        waiting := s.arb.waiting.filter (fun x => decide (x.player ≠ e.player)),
        ring := if s.port.cfg.ringMode = 2 then
            charged.filter (fun x => decide (x.player ≠ e.player))
              ++ charged.filter (fun x => decide (x.player = e.player))
          else charged } }

/-- A player's own standing record. -/
def Sys2Proof.Machine.recordOf (s : State) (p : NodeId) : Option StandingRecord :=
  s.arb.ring.find? fun r => decide (r.player = p)

/-- A player's own waiting entry. -/
def Sys2Proof.Machine.entryOf (s : State) (p : NodeId) : Option Entry :=
  s.arb.waiting.find? fun e => decide (e.player = p)

/-- R44: the grant gate is open exactly while its conditions hold. -/
def Sys2Proof.Machine.GateIsOpenExactly : Prop :=
  ∀ s : State, s.gateOpen = true ↔ s.port.cfg.role = 1 ∧ s.port.nodeState = .running ∧
    s.phase.phase.isRunningPhase = true ∧ s.phase.latch = false ∧
    (s.time.align = .locked ∨ s.time.align = .holdover) ∧ s.link.lost = false ∧ s.link.txFault = false

/-- R43, R65: an entry is eligible exactly when its player stands well, can pay, its offer is open in the phase, and every
partner rule is satisfied for the player. -/
def Sys2Proof.Machine.EligibleExactly : Prop :=
  ∀ (s : State) (e : Entry), s.eligible e = true ↔
    (∃ r, recordOf s e.player = some r ∧ r.bench = 0 ∧ r.ejected = false ∧ r.silent = false ∧
      (s.port.cfg.offer e.offer).cost.toNat ≤ r.budget) ∧
    inPhaseSet (s.port.cfg.offer e.offer).openPhases s.phase.phase = true ∧
    ∀ v ∈ s.views, v.silent = false ∧
      (v.rule = .exclusive → ∀ x ∈ v.seats, x.state ≠ 1 ∧ x.state ≠ 2) ∧
      (v.rule = .companion → ∃ x ∈ v.seats, x.holder = some e.player ∧ x.state = 2)

/-- R46 step 3: in QUEUE the entry chosen is the first eligible one of the list; in the other ring modes it is the
eligible entry whose player's record is nearest the head of the ring. -/
def Sys2Proof.Machine.ChosenByTheRingMode : Prop :=
  ∀ (s : State) (e : Entry), s.port.cfg.ringMode.toNat ≤ 3 →
    (s.port.cfg.ringMode = 0 → (s.chosen = some e ↔ s.eligible e = true ∧ ∃ before after,
      s.arb.waiting = before ++ e :: after ∧ ∀ x ∈ before, s.eligible x = false)) ∧
    (s.port.cfg.ringMode ≠ 0 → (s.chosen = some e ↔ s.eligible e = true ∧ ∃ before r after,
      s.arb.ring = before ++ r :: after ∧ entryOf s r.player = some e ∧
        ∀ q ∈ before, ∀ x, entryOf s q.player = some x → s.eligible x = false))

/-- R40: the WAITING answer gives the place in the choosing order, counted from 1, and the number of entries. -/
def Sys2Proof.Machine.WaitingAnswersTellThePlace : Prop :=
  ∀ (s : State) (p : NodeId) (before after : List NodeId), s.port.cfg.ringMode.toNat ≤ 3 →
    (if s.port.cfg.ringMode = 0 then s.arb.waiting.map (fun e => e.player)
      else (s.arb.ring.map fun r => r.player).filter fun q => s.arb.waiting.any fun e => decide (e.player = q))
      = before ++ p :: after → p ∉ before →
    s.waitingAnswer p = .waiting (BitVec.ofNat 8 (before.length + 1)) (BitVec.ofNat 8 s.arb.waiting.length)

/-- R46: a resolution changes nothing with the gate closed, no FREE seat or no entry to choose; otherwise it grants the
lowest FREE seat to the entry chosen and goes on from there. -/
def Sys2Proof.Machine.ResolutionsGrantSeatBySeat : Prop :=
  ∀ s : State,
    (s.gateOpen = false ∨ (∀ x ∈ s.seat.table, x ≠ .free) ∨ s.chosen = none → s.resolve = s) ∧
    ∀ (n : Nat) (e : Entry), s.gateOpen = true → s.seat.table[n]? = some .free →
      (∀ m, m < n → s.seat.table[m]? ≠ some .free) → s.chosen = some e → s.resolve = (granted n e s).resolve

/-- The grant gate, eligibility, the choice by the ring mode, the places of those who wait, and the resolution itself. -/
def Obligations.ResolutionsGrant : Prop :=
  GateIsOpenExactly ∧ EligibleExactly ∧ ChosenByTheRingMode ∧ WaitingAnswersTellThePlace ∧ ResolutionsGrantSeatBySeat

/-- A clearing seat whose remaining is 0 turns FREE and a resolution follows: with the grant gate closed, or no eligible
entry, the FREE seat is all; with the gate open and no other FREE seat, the entry chosen is granted it and the resolution
goes on. A seat in another state is left as it is (the model's choice, log entry 2). -/
def Obligations.ClearingExpiryFreesAndGrants : Prop :=
  ∀ (s : State) (n : Nat),
    ((∀ (x : Seat), s.seat.table[n]? = some x → x ≠ .clearing 0) → exec (.clearingExpiry n) s = .next s) ∧
    (s.seat.table[n]? = some (.clearing 0) →
      exec (.clearingExpiry n) s = .next (withSeat s n .free).resolve ∧
      (s.gateOpen = false ∨ s.chosen = none → exec (.clearingExpiry n) s = .next (withSeat s n .free)) ∧
      (s.gateOpen = true → (∀ x ∈ s.seat.table, x ≠ .free) → ∀ e, s.chosen = some e →
        exec (.clearingExpiry n) s = .next (granted n e s)) ∧
      ∃ t, exec (.clearingExpiry n) s = .next t ∧ SameOutsideElement s t)

/-! ## Expiries of the arbiter and of standing -/

/-- A waiting entry has ended for a reason: it is gone, the last-ended claim is written, and ENDED is sent. -/
def Sys2Proof.Machine.entryEnded (e : Entry) (reason : Reason) (s : State) : State :=
  State.send (.answer e.player e.claim (.ended reason.code)) { s with arb := { s.arb with
    waiting := s.arb.waiting.filter (fun x => decide (x.player ≠ e.player)),
    ring := s.arb.ring.map fun x =>
      if x.player = e.player then { x with engagement := .none, lastEnded := some (e.claim, reason) } else x } }

/-- A waiting entry that has reached its last-refresh time plus 1,500 field ms ends with STALE; the seats and the other
blocks are kept. Before that it is left as it is (the model's choice, log entry 2). -/
def Sys2Proof.Machine.StaleEntriesEnd : Prop :=
  ∀ (s : State) (p : NodeId),
    (entryOf s p = none → exec (.entryStale p) s = .next s) ∧
    ∀ e : Entry, entryOf s p = some e →
      (s.time.ft / 1000 < e.refreshed + 1500 → exec (.entryStale p) s = .next s) ∧
      (e.refreshed + 1500 ≤ s.time.ft / 1000 → exec (.entryStale p) s = .next (entryEnded e .stale s) ∧
        (s.port.nodeState ≠ .test → s.chan.txQueue.length < 8 → (entryEnded e .stale s).chan.txQueue =
          s.chan.txQueue ++ [{ body := .answer p e.claim (.ended 11), ofRequest := false }]) ∧
        (entryEnded e .stale s).seat = s.seat ∧ SameOutsideElement s (entryEnded e .stale s))

/-- A bench that has counted to 0 is followed by one resolution at an element; a player's own by nothing. The mark between
the count and the event is the model's, and so is that a row without it changes nothing (log entries 1 and 2). -/
def Sys2Proof.Machine.BenchesEnd : Prop :=
  ∀ s : State,
    (∀ p : NodeId, recordOf s p = none → exec (.benchExpiry p) s = .next s) ∧
    (∀ (p : NodeId) (r : StandingRecord), recordOf s p = some r →
      (r.benchEnding = false → exec (.benchExpiry p) s = .next s) ∧
      (r.benchEnding = true → exec (.benchExpiry p) s = .next ({ s with arb := { s.arb with
        ring := s.arb.ring.map fun x => if x.player = p then { x with benchEnding := false } else x } } : State).resolve)) ∧
    exec .playerBenchExpiry s = .next { s with req := { s.req with benchEnding := false } }

/-- The expiries of the waiting list and of benches. -/
def Obligations.StaleEntriesAndBenches : Prop :=
  StaleEntriesEnd ∧ BenchesEnd

/-! ## Expiries of the request unit -/

/-- An answer wait that has missed: a settled seat only loses its wait, a request with tries left places its frame again
with one try less, and a final miss ends the request with LOST or YIELD_UNCONFIRMED or denies the renewal with
NO_ANSWER. Before its deadline the wait is left as it is (the model's choice, log entry 2). -/
def Sys2Proof.Machine.AnswerWaitMisses : Prop :=
  ∀ (s : State) (e : NodeId) (r : Request) (d : Nat) (frame : TxBody), s.request e = some r → r.deadline = some d →
    r.waitFrame = some frame →
    (s.localMs < d → exec (.answerWaitMiss e) s = .next s) ∧
    (d ≤ s.localMs →
      (r.state = .seated → r.renewPending = false → exec (.answerWaitMiss e) s =
        .next (withRequest s e fun q => { q with deadline := none, waitFrame := none })) ∧
      (r.state ≠ .seated ∨ r.renewPending = true →
        (1 ≤ r.tries → exec (.answerWaitMiss e) s = .next ((withRequest s e fun q =>
          { q with deadline := none, waitFrame := none, tries := q.tries - 1 }).place
            { body := frame, ofRequest := true })) ∧
        (r.tries = 0 → exec (.answerWaitMiss e) s = .next (lastMiss r s))))

/-- A due refresh places the claim's ASK again with three tries; a SEATED request whose hold countdown is 0 enters the
margin of 250; a margin of 0 ends the request with EXPIRED and no frame. Each before its time, and without its request,
changes nothing (the model's choice, log entry 2). -/
def Sys2Proof.Machine.RequestTimers : Prop :=
  ∀ (s : State) (e : NodeId),
    (s.request e = none → exec (.answerWaitMiss e) s = .next s ∧ exec (.refreshDue e) s = .next s ∧
      exec (.holdCountdownExpiry e) s = .next s ∧ exec (.marginExpiry e) s = .next s) ∧
    ∀ r : Request, s.request e = some r →
      (r.deadline = none ∨ r.waitFrame = none → exec (.answerWaitMiss e) s = .next s) ∧
      (∀ d, r.refreshDue = some d → r.state = .waiting → d ≤ s.localMs →
        exec (.refreshDue e) s = .next ((withRequest s e fun q => { q with refreshDue := none, tries := 3 }).place
          { body := .ask r.element r.claim false r.offer r.hold, ofRequest := true })) ∧
      (r.state ≠ .waiting ∨ (∀ d, r.refreshDue = some d → s.localMs < d) → exec (.refreshDue e) s = .next s) ∧
      (r.state = .seated → r.countdown = 0 → r.margin = none → exec (.holdCountdownExpiry e) s =
        .next (withRequest s e fun q => { q with margin := some 250 })) ∧
      (r.state ≠ .seated ∨ r.countdown ≠ 0 ∨ r.margin ≠ none → exec (.holdCountdownExpiry e) s = .next s) ∧
      (r.state = .seated → r.margin = some 0 → exec (.marginExpiry e) s = .next (closed r .ended 2 s)) ∧
      (r.state ≠ .seated ∨ r.margin ≠ some 0 → exec (.marginExpiry e) s = .next s)

/-- The expiries of the request unit. -/
def Obligations.RequestTimersAndMisses : Prop :=
  AnswerWaitMisses ∧ RequestTimers

/-! ## Placing a frame -/

/-- What the discard of a frame means to the request it was placed for: a miss. A SEATED request that renews nothing loses
its wait; any other places the frame again, finds the queue as full, and comes to its final miss with a drop counted for
each of its tries. -/
def Sys2Proof.Machine.afterDiscard (r : Request) (s : State) : State :=
  if r.state = .seated ∧ r.renewPending = false then
    withRequest s r.element fun q => { q with deadline := none, waitFrame := none }
  else lastMiss r (dropped r.tries (withRequest s r.element fun q =>
    if r.tries = 0 then q else { q with deadline := none, waitFrame := none, tries := q.tries - r.tries }))

/-- Placing a frame: refused in TEST for the four kinds, a PRESENCE absorbed by one that waits, room, and a full queue. At a
full queue the frame of the highest class placed latest gives way to a more urgent one; otherwise the frame placed is the
one discarded. The drop is counted, and a discarded frame of a request is a miss at once (log entry 19). -/
def Sys2Proof.Machine.FramesArePlaced : Prop :=
  ∀ (s : State) (f : QueuedFrame),
    (s.port.nodeState = .test → f.body.kindCode.toNat ≤ 4 → s.place f = s) ∧
    (s.port.nodeState ≠ .test ∨ 4 < f.body.kindCode.toNat →
      (f.body = .presence → (∃ g ∈ s.chan.txQueue, g.body = .presence) → s.place f = s) ∧
      (f.body ≠ .presence ∨ (∀ g ∈ s.chan.txQueue, g.body ≠ .presence) →
        (s.chan.txQueue.length < 8 → s.place f = entered f s) ∧
        (8 ≤ s.chan.txQueue.length →
          (∀ before g after, s.chan.txQueue = before ++ g :: after → f.body.urgency < g.body.urgency →
            (∀ x ∈ before, x.body.urgency ≤ g.body.urgency) → (∀ x ∈ after, x.body.urgency < g.body.urgency) →
            let u := entered f (dropped 1 { s with chan := { s.chan with txQueue := before ++ after } })
            (requestOfFrame g s = none → s.place f = u) ∧
            (∀ r, requestOfFrame g s = some r → r.tries ≤ 3 → s.port.nodeState ≠ .test →
              s.place f = afterDiscard r u)) ∧
          ((∀ x ∈ s.chan.txQueue, x.body.urgency ≤ f.body.urgency) →
            (requestOfFrame f s = none → s.place f = dropped 1 s) ∧
            (∀ r, requestOfFrame f s = some r → r.tries ≤ 3 → s.place f = afterDiscard r (dropped 1 s))))))

/-- The classes of the frames, and what `send` places. -/
def Sys2Proof.Machine.FramesHaveTheirClasses : Prop :=
  (∀ b : TxBody, b.urgency = match b.kindCode.toNat with
    | 8 => 0
    | 4 | 5 | 6 | 7 => 1
    | 2 | 3 => 2
    | _ => 3) ∧
  ∀ (s : State) (b : TxBody), s.send b = s.place { body := b, ofRequest := false }

/-- An ASK command taken at a full queue of frames as urgent as its own: the ASK is discarded and placed again three times,
and the request ends with LOST. -/
def Sys2Proof.Machine.AskAtAFullQueueIsLost : Prop :=
  ∀ (s : State) (element offer : Byte) (hold : Half), s.port.token = 0 → askCheck s element offer hold = none →
    8 ≤ s.chan.txQueue.length → (∀ f ∈ s.chan.txQueue, f.body.urgency ≤ 2) →
    ∃ t, exec (.ask element offer hold) s = .next t ∧ Shows t .done [s.req.claimCounter + 1] ∧ t.chan = s.chan ∧
      t.link = (dropped 4 s).link ∧ t.req = { s.req with claimCounter := s.req.claimCounter + 1 } ∧
      t.port.notices = (posted .lost ((element.setWidth 6 : NodeId).setWidth 8) (s.req.claimCounter + 1) 0 s).port.notices

/-- Frames placed in the transmit queue, a full one among them. -/
def Obligations.PlacingAFrame : Prop :=
  FramesHaveTheirClasses ∧ FramesArePlaced ∧ AskAtAFullQueueIsLost

/-! ## Expiries of field time, link supervision and the channel -/

/-- HOLDOVER_EXPIRY, LINK_LOST and WINDOW_END: what each sets, and nothing else. Without its cause each changes nothing (the
model's choice, log entry 2), and LINK_LOST no more with the link lost already (log entry 36). -/
def Obligations.HoldoverLinkAndWindowExpiries : Prop :=
  ∀ s : State,
    (s.time.align = .holdover → s.time.holdover = 0 → exec .holdoverExpiry s = .next (withFlag .alignChanged
      { s with time := { s.time with align := .unaligned, level := 7, lastCause := .holdoverExpired } })) ∧
    (s.time.align ≠ .holdover ∨ s.time.holdover ≠ 0 → exec .holdoverExpiry s = .next s) ∧
    (s.port.nodeState ≠ .config → s.link.remaining = 0 → s.link.lost = false →
      exec .linkLost s = .next (withFlag .linkLost { s with link := { s.link with lost := true } })) ∧
    (s.port.nodeState = .config ∨ s.link.remaining ≠ 0 ∨ s.link.lost = true → exec .linkLost s = .next s) ∧
    (s.port.nodeState ≠ .config → s.link.windowLength ≤ s.link.elapsed →
      let number := if 65535 ≤ s.link.windowNumber then 1 else s.link.windowNumber + 1
      exec .windowEnd s = .next (withFlag .windowReady { s with link := { s.link with
        lastWindow := s.link.window, lastWindowNumber := number, windowNumber := number,
        window := WindowCounts.zero, elapsed := 0 } })) ∧
    (s.port.nodeState = .config ∨ s.link.elapsed < s.link.windowLength → exec .windowEnd s = .next s)

/-- LISTEN_END enters RUNNING, sets READY and starts the PRESENCE schedule; PRESENCE_DUE places a PRESENCE. Both draw
four bits for the next due time. Before its time each changes nothing (the model's choice, log entry 2). -/
def Sys2Proof.Machine.PresenceSchedule : Prop :=
  ∀ s : State,
    let g := backoffStep s.chan.backoff
    (s.port.nodeState = .listening → s.port.listenRemaining = 0 → exec .listenEnd s =
      .next (withFlag .ready (presenceStarted { s with port := { s.port with nodeState := .running } }))) ∧
    (s.port.nodeState ≠ .listening ∨ s.port.listenRemaining ≠ 0 → exec .listenEnd s = .next s) ∧
    (∀ d, s.chan.presenceDue = some d → s.port.nodeState = .running → d ≤ s.localMs →
      exec .presenceDue s = .next { s.send .presence with chan := { (s.send .presence).chan with
        backoff := g, presenceDue := some (d + s.chan.presencePeriod + g.toNat % 16) } }) ∧
    (s.port.nodeState ≠ .running ∨ (∀ d, s.chan.presenceDue = some d → s.localMs < d) →
      exec .presenceDue s = .next s) ∧
    (s.port.nodeState ≠ .test → (∀ f ∈ s.chan.txQueue, f.body ≠ .presence) → s.chan.txQueue.length < 8 →
      (s.send .presence).chan.txQueue = s.chan.txQueue ++ [{ body := .presence, ofRequest := false }]) ∧
    ((∃ f ∈ s.chan.txQueue, f.body = .presence) → s.send .presence = s)

/-- A waiting frame is a PATTERN. -/
def Sys2Proof.Machine.isPattern (f : QueuedFrame) : Bool := decide (f.body.kindCode = 9)

/-- At a due time of the PATTERN schedule one PATTERN is placed, carrying the next 256 bits and the send seq, unless one
of this node's still waits; the next is due 10 local ms later. Before its time, and outside TEST, nothing changes (the
model's choice, log entry 2). -/
def Sys2Proof.Machine.PatternSchedule : Prop :=
  (∀ s : State, s.port.nodeState ≠ .test ∨ s.link.patternDue = none → exec .patternDue s = .next s) ∧
  ∀ (s : State) (d : Nat), s.port.nodeState = .test → s.link.patternDue = some d →
    (s.localMs < d → exec .patternDue s = .next s) ∧
    (d ≤ s.localMs → s.chan.txQueue.any isPattern = true →
      exec .patternDue s = .next { s with link := { s.link with patternDue := some (d + 10) } }) ∧
    (d ≤ s.localMs → s.chan.txQueue.any isPattern = false → s.chan.txQueue.length < 8 →
      ∃ t, exec .patternDue s = .next t ∧
        t.link = { s.link with
          patternDue := some (d + 10), sendGen := patternSteps 256 s.link.sendGen, sendSeq := s.link.sendSeq + 1,
          record := { s.link.record with patternsSent := min (s.link.record.patternsSent + 1) 65535 } } ∧
        t.chan.txQueue = s.chan.txQueue ++
          [{ body := .pattern (patternBytes 32 s.link.sendGen) s.link.sendSeq, ofRequest := false }] ∧
        t.port = s.port ∧ t.req = s.req ∧ SameOutsidePlayer s t)

/-- The schedules of PRESENCE and PATTERN frames. -/
def Obligations.PresenceAndPatternSchedules : Prop :=
  PresenceSchedule ∧ PatternSchedule

/-! ## The schedules of the phase unit and the referee unit -/

/-- A due HALT is placed unless one waits or the node does not send; a due mark or order copy is placed. Each next due
time is 20 local ms after the one reached, and a schedule whose last copy went is empty. Before its time each row changes
nothing (the model's choice, log entry 2). -/
def Obligations.CopiesAreSentAtTheirDueTimes : Prop :=
  ∀ s : State,
    (∀ d, s.phase.haltDue = some d →
      let p : State := { s with phase := { s.phase with haltDue := some (d + 20) } }
      (s.localMs < d → exec .haltDue s = .next s) ∧
      (d ≤ s.localMs → s.port.nodeState = .config ∨ s.port.nodeState = .listening ∨
        (∃ f ∈ s.chan.txQueue, f.body = .halt) → exec .haltDue s = .next p) ∧
      (d ≤ s.localMs → ∃ t, exec .haltDue s = .next t ∧ SameOutsidePlayer p t ∧
        (s.port.nodeState = .running ∨ s.port.nodeState = .test → (∀ f ∈ s.chan.txQueue, f.body ≠ .halt) →
          s.chan.txQueue.length < 8 →
          t.chan.txQueue = s.chan.txQueue ++ [{ body := .halt, ofRequest := false }] ∧ t.req = s.req ∧
          t.port = s.port))) ∧
    (∀ m, s.ref.marks = some m → 1 ≤ m.copies →
      let next := if m.copies = 1 then none else some { m with copies := m.copies - 1, due := m.due + 20 }
      (s.localMs < m.due → exec .markCopyDue s = .next s) ∧
      (m.due ≤ s.localMs → ∃ t, exec .markCopyDue s = .next t ∧
        SameOutsidePlayer { s with ref := { s.ref with marks := next } } t ∧
        (s.chan.txQueue.length < 8 → t.chan.txQueue = s.chan.txQueue ++
          [{ body := .mark m.seq m.phase m.carried, ofRequest := false }] ∧ t.req = s.req ∧ t.port = s.port))) ∧
    (∀ o, s.ref.orders = some o → 1 ≤ o.copies → o.frame.urgency = 1 → o.frame.barredInTest = false →
      let next := if o.copies = 1 then none else some { o with copies := o.copies - 1, due := o.due + 20 }
      (s.localMs < o.due → exec .orderCopyDue s = .next s) ∧
      (o.due ≤ s.localMs → ∃ t, exec .orderCopyDue s = .next t ∧
        SameOutsidePlayer { s with ref := { s.ref with orders := next } } t ∧
        (s.chan.txQueue.length < 8 → t.chan.txQueue = s.chan.txQueue ++
          [{ body := o.frame, ofRequest := false }] ∧ t.req = s.req ∧ t.port = s.port)))

/-! ## Marks -/

/-- A pending mark whose boundary FT has reached is applied, or, in ENDED and not to PREMATCH, refused, counted and
removed; before its boundary, in CONFIG, and with no mark pending nothing happens (the model's choice, log entry 2). An entry
or resume applied in a loopback test ends it (the model's choice against R177, log entry 37). -/
def Obligations.PendingMarkIsApplied : Prop :=
  ∀ s : State, (s.phase.pending = none → exec .markBoundaryReached s = .next s) ∧
    ∀ m : PendingMark, s.phase.pending = some m →
      (s.port.nodeState = .config ∨ s.time.ft < m.boundary → exec .markBoundaryReached s = .next s) ∧
      (s.port.nodeState ≠ .config → m.boundary ≤ s.time.ft →
        (s.phase.phase = .ended → m.phase ≠ .prematch → exec .markBoundaryReached s = .next { s with
          phase := { s.phase with pending := none, ignoreCount := min (s.phase.ignoreCount + 1) 65535 } }) ∧
        (s.phase.phase ≠ .ended ∨ m.phase = .prematch →
          ∃ t, exec .markBoundaryReached s = .next t ∧ MarkApplied s m.seq m.phase (some m.carried) t))

/-! ## Silence -/

/-- R101: field time after the loss of the reference. -/
def Sys2Proof.Machine.lostTime (t : FieldTime) : FieldTime :=
  match t.align with
  | .locked => { t with reference := none, lockCount := 0, align := .holdover, holdover := 10000,
                        lastCause := .referenceLost }
  | .acquiring => { t with reference := none, lockCount := 0, align := .unaligned, level := 7,
                           lastCause := .referenceLost }
  | .unaligned | .holdover | .source => { t with reference := none, lockCount := 0 }

/-- R20: a player's occupied seats held, or no longer held, for a silent holder. -/
def Sys2Proof.Machine.markedSilent (id : NodeId) (b : Bool) (x : Seat) : Seat :=
  match x with
  | .guard c r h => .guard c r (if c.player = id then b else h)
  | .held c p r h => .held c p r (if c.player = id then b else h)
  | .free => .free
  | .clearing r => .clearing r

/-- R20: the sense input, at the level last read (log entry 30), does not keep a silent holder on seat n. -/
def Sys2Proof.Machine.unsensed (s : State) (n : Nat) : Bool :=
  decide (s.port.cfg.senseUse = 0) || !s.pins.sense.getLsbD n

/-- The blocks that a SILENT report meets in their order (the model's choice, log entry 10): field time; the seats that end SILENT, the others of the holder
held for a silent holder; the arbiter; the partner views; the request to the element; the referee slots. -/
def Sys2Proof.Machine.SilentReport (id : NodeId) (s t : State) : Prop :=
  let lost : Bool := decide (s.time.reference = some id ∧ (s.time.align = .locked ∨ s.time.align = .acquiring))
  let a := endingSeats (fun n c => decide (c.player = id) && unsensed s n) .silent (withFlagIf lost .alignChanged
    { s with time := if s.time.reference = some id then lostTime s.time else s.time })
  let b : State := { a with
    seat := { a.seat with table := a.seat.table.map (markedSilent id true) },
    arb := { a.arb with
      waiting := if (recordOf a id).isSome then a.arb.waiting.filter fun e => decide (e.player ≠ id)
        else a.arb.waiting,
      ring := a.arb.ring.map fun r => if r.player = id then { r with
        silent := true, engagement := if (entryOf a id).isSome then .none else r.engagement } else r } }
  ∃ d, ViewUpdated id (fun v => { v with silent := true }) b d ∧
    let e : State := { d with req := { d.req with
      view := d.req.view.map fun x => if x.1 = id then (x.1, { x.2 with silent := true }) else x } }
    let f : State := match e.req.list.find? fun r => decide (r.element = id) with
      | some r => closed r .ended 18 e
      | none => e
    t = { f with peers := { f.peers with
      referees := f.peers.referees.map fun r => if r.id = id then { r with lastSeq := none } else r } }

/-- PEER_SILENT declares the slot SILENT and reports it: the reference is lost, the player's seats end or are held for a
silent holder, its entry goes and its record is silent, the partner's and the element view's entry are silent and the
request to it ends, and the referee's last order seq becomes absent; a seat turned FREE at once starts a resolution. A
slot absent, SILENT already or with silence remaining changes nothing (the model's choice, log entry 2). The order of the
blocks, with that one resolution at the end, is the model's choice (log entry 10), and so are the tests that follow the
changed partner view (log entry 24) and the sense level judged, the one last read (log entry 30). -/
def Obligations.PeerSilentIsReported : Prop :=
  ∀ (s : State) (id : NodeId),
    (s.port.nodeState = .config ∨ (∀ p, lookupId id s.peers.slots = some p → p.heard = false ∨ p.silence ≠ 0) →
      exec (.peerSilent id) s = .next s) ∧
    ∀ p : PeerSlot, ElementLaw s → s.port.nodeState ≠ .config → lookupId id s.peers.slots = some p →
      p.heard = true → p.silence = 0 →
      let declared : State := { s with peers := { s.peers with slots := insertId id { p with heard := false } s.peers.slots } }
      let frees := s.port.cfg.clearing = 0 ∧ ∃ n c, claimAt s n = some c ∧ c.player = id ∧ unsensed s n = true
      ∃ r t, exec (.peerSilent id) s = .next t ∧ SilentReport id declared r ∧
        (frees → t = r.resolve) ∧ (¬ frees → t = r) ∧
        lookupId id t.peers.slots = some { p with heard := false } ∧
        (∀ j, j ≠ id → lookupId j t.peers.slots = lookupId j s.peers.slots) ∧
        (∀ x ∈ t.seat.table, x.heldBy id = true → s.port.cfg.senseUse ≠ 0 ∧ x.isSilentHeld = true) ∧
        (∀ e ∈ t.arb.waiting, e.player ≠ id) ∧ (∀ r ∈ t.arb.ring, r.player = id → r.silent = true) ∧
        (∀ v ∈ t.req.view, v.1 = id → v.2.silent = true) ∧ s.req.claimCounter = t.req.claimCounter ∧
        (∀ r ∈ t.req.list, r.element ≠ id) ∧ (∀ v ∈ t.views, v.id = id → v.silent = true) ∧
        t.phase = s.phase ∧ t.pins = s.pins ∧ t.ref = s.ref ∧ t.port.nodeState = s.port.nodeState ∧
        t.port.cfg = s.port.cfg

/-! ## The channel -/

/-- One step of the backoff generator and one of the pattern generator, bit by bit; neither reaches 0 from a value that
is not 0. -/
def Sys2Proof.Machine.ShiftRegistersStep : Prop :=
  (∀ (g : Half) (i : Nat), i < 16 → (backoffStep g).getLsbD i =
    if i = 0 then (g.getLsbD 15 ^^ g.getLsbD 13 ^^ g.getLsbD 12 ^^ g.getLsbD 10) else g.getLsbD (i - 1)) ∧
  (∀ (g : BitVec 15) (i : Nat), i < 15 → (patternStep g).getLsbD i =
    if i = 0 then (g.getLsbD 14 ^^ g.getLsbD 13) else g.getLsbD (i - 1)) ∧
  (∀ g : Half, g ≠ 0 → backoffStep g ≠ 0) ∧ (∀ g : BitVec 15, g ≠ 0 → patternStep g ≠ 0)

/-- IDLE_GAP_COMPLETE: a contention with slots left starts its countdown; one without makes its draw of k bits, or none
for a HALT at the head of the queue. While CD is high, with the gap already complete, or with no contention, nothing
happens (the model's choice, log entry 2). -/
def Sys2Proof.Machine.IdleGapDrawsOnce : Prop :=
  (∀ s : State, s.chan.contention = none → exec .idleGapComplete s = .next s) ∧
  ∀ (s : State) (k : Contention), s.chan.contention = some k →
    let go (slots : Nat) : Contention := { gapDone := true, gapCount := 32, slots := some slots, passed := 0 }
    let g := backoffStep s.chan.backoff
    let head := s.chan.txQueue.any fun f => decide (f.body = .halt)
    (k.gapDone = true ∨ (s.pins.cd = true ∧ ¬ inLoop s) → exec .idleGapComplete s = .next s) ∧
    (k.gapDone = false → s.pins.cd = false ∨ inLoop s →
      (∀ b, k.slots = some b → exec .idleGapComplete s =
        .next { s with chan := { s.chan with contention := some (go b) } }) ∧
      (k.slots = none → head = true → exec .idleGapComplete s =
        .next { s with chan := { s.chan with contention := some (go 0) } }) ∧
      (k.slots = none → head = false → exec .idleGapComplete s =
        .next { s with chan := { s.chan with contention := some (go (g.toNat % 2 ^ s.chan.exponent)),
                                             backoff := g } }))

/-- R175, R176: the steps of the pattern generator; the bits of a PATTERN, those of consecutive steps, the first in the most
significant bit of the first byte; the load of a check generator with the last 15 of them, which leaves it where the sender's
generator stands; and the count of the bits that differ. -/
def Sys2Proof.Machine.PatternBitsAreTheGenerators : Prop :=
  (∀ g : BitVec 15, patternSteps 0 g = g) ∧
  (∀ (n : Nat) (g : BitVec 15), patternSteps (n + 1) g = patternStep (patternSteps n g)) ∧
  (∀ g : BitVec 15, (patternBytes 32 g).length = 32) ∧
  (∀ (g : BitVec 15) (i : Nat), i < 256 → (byteAt (patternBytes 32 g) (i / 8)).getLsbD (7 - i % 8) =
    ((patternSteps i g).getLsbD 14 ^^ (patternSteps i g).getLsbD 13)) ∧
  (∀ (bits : List Byte) (i : Nat), i < 15 →
    (patternLoad bits).getLsbD i = (byteAt bits (31 - i / 8)).getLsbD (i % 8)) ∧
  (∀ g : BitVec 15, patternLoad (patternBytes 32 g) = patternSteps 256 g) ∧
  bitDifferences [] [] = 0 ∧
  (∀ (x y : Byte) (xs ys : List Byte), bitDifferences (x :: xs) (y :: ys) =
    ((List.range 8).filter fun i => decide (x.getLsbD i ≠ y.getLsbD i)).length + bitDifferences xs ys) ∧
  ∀ xs : List Byte, bitDifferences xs xs = 0

/-- R154, R190: the CRC register starts at all ones, the bits of the bytes are shifted through it most significant first, and
each shift feeds back into stages 0, 5 and 12. -/
def Sys2Proof.Machine.CrcIsTheRegister : Prop :=
  (∀ (r : Half) (b : Bool) (i : Nat), i < 16 → (crcBit r b).getLsbD i =
    ((decide (0 < i) && r.getLsbD (i - 1)) ^^ ((r.getLsbD 15 ^^ b) && decide (i = 0 ∨ i = 5 ∨ i = 12)))) ∧
  ∀ bs : List Byte, crc16 bs =
    (bs.flatMap fun b => [7, 6, 5, 4, 3, 2, 1, 0].map fun i => b.getLsbD i).foldl crcBit 0xFFFF

/-- The generators, the bits of a PATTERN, the CRC register, and the draw of a contention. -/
def Obligations.GeneratorsAndTheDraw : Prop :=
  ShiftRegistersStep ∧ PatternBitsAreTheGenerators ∧ CrcIsTheRegister ∧ IdleGapDrawsOnce

/-- R23: the body of an element's PRESENCE. -/
def Sys2Proof.Machine.elementBody (s : State) : List Byte :=
  let seat (x : Seat) : List Byte := match x with
    | .free => [0, 255, 0, 0]
    | .guard c _ _ => [1, c.player.setWidth 8] ++ bytesOf 2 c.mark.toNat
    | .held c _ _ _ => [2, c.player.setWidth 8] ++ bytesOf 2 c.mark.toNat
    | .clearing _ => [3, 255, 0, 0]
  let offer (i : Nat) : List Byte :=
    let o := s.port.cfg.offer i
    [BitVec.ofNat 8 (o.kind.toNat % 4 * 64 + (if inPhaseSet o.openPhases (phaseForOffers s) then 32 else 0)
      + o.restriction.toNat % 4 * 8), o.cost] ++ bytesOf 2 o.maxHold.toNat
  [countByte s.seat.table] ++ s.seat.table.flatMap seat ++ [countByte s.arb.waiting, s.port.cfg.offerCount]
    ++ (List.range s.port.cfg.offerCount.toNat).flatMap offer

/-- R92: the body of a player's PRESENCE. -/
def Sys2Proof.Machine.playerBody (s : State) : List Byte :=
  [BitVec.ofNat 8 ((if 0 < s.req.bench then 128 else 0) + (if s.req.ejected then 64 else 0) + s.req.list.length % 8)]

/-- R142: the body of a referee's PRESENCE. -/
def Sys2Proof.Machine.refereeBody (s : State) : List Byte := [if s.port.cfg.source ≠ 0 then 128 else 0, s.ref.orderSeq]

/-- R191: the code of a phase in a body. -/
def Sys2Proof.Machine.phaseByte (p : Phase) : Byte :=
  match p with
  | .prematch => 0
  | .autonomous => 1
  | .driver => 2
  | .endgame => 3
  | .paused => 4
  | .ended => 5

/-- R190: the kind code of each of the nine bodies. -/
def Sys2Proof.Machine.kindOf (b : TxBody) : BitVec 4 :=
  match b with
  | .presence => 1
  | .ask _ _ _ _ _ => 2
  | .yield _ _ => 3
  | .answer _ _ _ => 4
  | .mark _ _ _ => 5
  | .sanction _ _ _ _ => 6
  | .turn _ _ _ => 7
  | .halt => 8
  | .pattern _ _ => 9

/-- R192: the bytes of an answer from its kind on. -/
def Sys2Proof.Machine.answerBytes (a : AnswerBody) : List Byte :=
  match a with
  | .granted seat hold mark =>
    [1, seat, hold.extractLsb' 8 8, hold.extractLsb' 0 8, mark.extractLsb' 8 8, mark.extractLsb' 0 8]
  | .waiting position count => [2, position, count]
  | .refused reason => [3, reason]
  | .ended reason => [4, reason]
  | .renewed hold => [5, hold.extractLsb' 8 8, hold.extractLsb' 0 8]
  | .renewDenied reason => [6, reason]

/-- R192: the body of each kind but PRESENCE. -/
def Sys2Proof.Machine.bodyOf (b : TxBody) : List Byte :=
  match b with
  | .presence => []
  | .ask element claim renew offer hold =>
    [element.setWidth 8, claim, BitVec.ofNat 8 ((if renew then 128 else 0) + offer % 4), hold.extractLsb' 8 8,
      hold.extractLsb' 0 8]
  | .yield element claim => [element.setWidth 8, claim]
  | .answer player claim a => [player.setWidth 8, claim] ++ answerBytes a
  | .mark seq phase boundary =>
    [seq, phaseByte phase, boundary.extractLsb' 24 8, boundary.extractLsb' 16 8, boundary.extractLsb' 8 8,
      boundary.extractLsb' 0 8]
  | .sanction seq player kind duration =>
    [seq, player.setWidth 8, (match kind with | .bench => 1 | .eject => 2 | .clear => 3), duration.extractLsb' 8 8,
      duration.extractLsb' 0 8]
  | .turn seq element player => [seq, element.setWidth 8, player.setWidth 8]
  | .halt => []
  | .pattern bits seq => bits ++ [seq.extractLsb' 8 8, seq.extractLsb' 0 8]

/-- CONTENTION_COMPLETE begins the transmission of the head of the queue: of the frames of the lowest class that waits the
one placed earliest. It leaves the queue, its header is the present one, a PRESENCE's body is composed now by the role, an
inserted error inverts the first bit of a PATTERN, and a reception in progress is abandoned unless the test is a loopback
(whose frames are marked, log entry 16). The header's stamp is that of this row until the end of the sync word (log entry
6), and the row is taken with any number of slots held, the countdown being the row's own (log entry 7). Without its cause
the row changes nothing (the model's choice, log entry 2). The bits of a body that R192 leaves out are 0 (the model's choice,
log entry 41). -/
def Obligations.ContentionBeginsTheTransmission : Prop :=
  (∀ s : State, s.chan.contention = none ∨ s.chan.txQueue = [] ∨ s.chan.txFrame.isSome = true ∨
    (s.pins.cd = true ∧ ¬ inLoop s) ∨ (∀ k, s.chan.contention = some k → k.gapDone = false ∨ k.slots = none) →
    exec .contentionComplete s = .next s) ∧
  ∀ (s : State) (k : Contention) (before : List QueuedFrame) (f : QueuedFrame) (after : List QueuedFrame),
    s.chan.contention = some k → s.chan.txQueue = before ++ f :: after →
    (∀ g ∈ before, f.body.urgency < g.body.urgency) → (∀ g ∈ after, f.body.urgency ≤ g.body.urgency) →
    k.gapDone = true → k.slots.isSome = true → s.pins.cd = false ∨ inLoop s → s.chan.txFrame = none →
    ∃ x link, exec .contentionComplete s = .next { s with
        chan := { s.chan with
          txQueue := before ++ after, contention := none, txFrame := some x,
          reception := if inLoop s then s.chan.reception else none },
        link := link } ∧
      x.frame = f ∧ x.stampOpen = true ∧ (x.looped = true ↔ inLoop s) ∧
      x.header = { kind := kindOf f.body, level := BitVec.ofNat 3 s.time.level, halted := s.phase.latch,
                   sender := s.port.cfg.nodeId.setWidth 6, role := s.port.cfg.role.setWidth 2,
                   alliance := s.port.cfg.alliance.setWidth 2, phase := s.phase.phase.code.setWidth 3,
                   align := s.time.align.headerCode, test := decide (s.port.nodeState = .test), seq := s.phase.seq,
                   stamp := BitVec.ofNat 32 s.time.ft } ∧
      (f.body = .presence → link = s.link ∧ (s.port.cfg.role = 0 → x.body = playerBody s) ∧
        (s.port.cfg.role = 1 → x.body = elementBody s) ∧
        (s.port.cfg.role = 2 → x.body = refereeBody s)) ∧
      (f.body ≠ .presence → kindOf f.body ≠ 9 ∨ s.link.insertPending = false →
        x.body = bodyOf f.body ∧ link = s.link) ∧
      (kindOf f.body = 9 → s.link.insertPending = true →
        (∀ b rest, bodyOf f.body = b :: rest → x.body = (b ^^^ 0x80) :: rest) ∧
        link = { s.link with
          insertPending := false,
          record := { s.link.record with errorsInserted := min (s.link.record.errorsInserted + 1) 65535 } })

/-- TRANSMISSION_END: the channel is free, the frame counts as sent, its power is judged unless it was looped, a cleared
transmit fault starts a resolution, the answer wait of the frame's request opens 40 local ms long, and a further contention
begins when a frame waits; the exponent is 3, and 4 where that contention begins with CD high. A frame that a loopback test
found in transmission is judged as one sent with TXEN (the model's choice, log entry 40). With no frame in transmission
nothing changes (the model's choice, log entry 2). -/
def Obligations.TransmissionEndIsCountedAndJudged : Prop :=
  (∀ (s : State) (seen : Bool), s.chan.txFrame = none → exec (.transmissionEnd seen) s = .next s) ∧
  ∀ (s : State) (seen : Bool) (f : TxFrame), s.chan.txFrame = some f →
    let told : State := withFlagIf (!f.looped && decide (s.link.txFault = seen)) .txFault { s with
      chan := { s.chan with txFrame := none, exponent := 3 },
      link := { s.link with
        txFault := if f.looped then s.link.txFault else !seen,
        lastPower := if f.looped then s.link.lastPower else some (if seen then .seen else .notSeen),
        window := { s.link.window with sent := min (s.link.window.sent + 1) 65535 } } }
    let w := if f.looped = false ∧ s.link.txFault = true ∧ seen = true then told.resolve else told
    let x := match requestOfFrame f.frame w with
      | some r => withRequest w r.element fun q =>
          { q with deadline := some (s.localMs + 40), waitFrame := some f.frame.body, refreshDue := none }
      | none => w
    let begins : Bool := decide (s.port.nodeState = .running ∨ s.port.nodeState = .test) && x.chan.contention.isNone
      && !x.chan.txQueue.isEmpty
    exec (.transmissionEnd seen) s = .next { x with chan := { x.chan with
      contention := if begins then some { gapDone := false, gapCount := 0, slots := none, passed := 0 }
        else x.chan.contention,
      exponent := if begins = true ∧ s.pins.cd = true ∧ ¬ inLoop s then min (x.chan.exponent + 1) 7
        else x.chan.exponent } }

/-- SYNC_WORD_FOUND: the hunting receiver takes the local stamp; in a loopback test it takes the node's own frame, with
both stamps of that moment, whatever local ms have passed since the transmission began. In CONFIG, during a reception and
while TXEN is high it hunts for nothing; a looped frame that outlives its test leaves TXEN low (log entry 16). -/
def Sys2Proof.Machine.SyncWordTakesTheStamp : Prop :=
  ∀ s : State,
    let now : Quad := BitVec.ofNat 32 s.time.ft
    (s.port.nodeState = .config ∨ s.chan.reception.isSome = true → exec .syncWordFound s = .next s) ∧
    (s.port.nodeState ≠ .config → s.chan.reception = none → ¬ inLoop s →
      (∀ f, s.chan.txFrame = some f → f.looped = false → s.port.nodeState ≠ .listening →
        exec .syncWordFound s = .next s) ∧
      (s.port.nodeState = .listening ∨ (∀ f, s.chan.txFrame = some f → f.looped = true) → exec .syncWordFound s =
        .next { s with chan := { s.chan with reception := some { stamp := now, looped := none } } })) ∧
    (inLoop s → s.chan.reception = none →
      (∀ f, s.chan.txFrame = some f → f.looped = true → f.stampOpen = true →
        let sent : TxFrame := { f with header := { f.header with stamp := now }, stampOpen := false }
        exec .syncWordFound s = .next { s with chan := { s.chan with
          txFrame := some sent,
          reception := some { stamp := now, looped := some (frameBytes sent.header sent.body) } } }) ∧
      ((∀ f, s.chan.txFrame = some f → f.looped = false ∨ f.stampOpen = false) → exec .syncWordFound s = .next s))

/-- The bytes that a reception reads: those of RXD, and in a loopback test the looped frame's own, whatever RXD carries. -/
def Sys2Proof.Machine.Reads (s : State) (r : Reception) (rxd bs : List Byte) : Prop :=
  (¬ inLoop s ∧ bs = rxd) ∨ (inLoop s ∧ r.looped = some bs)

/-- The bytes of a frame's header and body, received from RXD or in a loopback test as the node's own frame, are taken as that
header and that body with the local stamp: no bit is dropped. With room the frame enters the receive queue, is counted good
and, from another node, reloads the link remaining. -/
def Sys2Proof.Machine.FramesAreReceivedWhole : Prop :=
  ∀ (s : State) (h : Header) (body rxd : List Byte) (r : Reception), s.chan.reception = some r →
    Reads s r rxd (frameBytes h body) → 1 ≤ h.kind.toNat → h.kind.toNat ≤ 9 → body.length ≤ 48 →
    s.chan.rxQueue.length < 4 → s.link.lost = false ∨ h.sender = s.port.cfg.nodeId.setWidth 6 →
    exec (.frameReceived rxd) s = .next { s with
      chan := { s.chan with
        reception := none, rxQueue := s.chan.rxQueue ++ [{ header := h, body := body, stamp := r.stamp }] },
      link := { s.link with
        remaining := if h.sender = s.port.cfg.nodeId.setWidth 6 then s.link.remaining else 2000,
        window := { s.link.window with good := min (s.link.window.good + 1) 65535 } } }

/-- R190 to R192: a frame's length byte, header, body and CRC, the eight bytes of a header, and the body and the kind code of
every kind that a node sends. Bits that the tables leave out are sent as 0 (the model's choice, log entry 41). -/
def Sys2Proof.Machine.FramesAreLaidOut : Prop :=
  (∀ (h : Header) (body : List Byte), frameBytes h body =
    let covered := BitVec.ofNat 8 (8 + body.length) :: (Header.bytes h ++ body)
    covered ++ [(crc16 covered).extractLsb' 8 8, (crc16 covered).extractLsb' 0 8]) ∧
  (∀ h : Header, Header.bytes h =
    [BitVec.ofNat 8 (16 * h.kind.toNat + 2 * h.level.toNat + (if h.halted then 1 else 0)),
      BitVec.ofNat 8 (4 * h.sender.toNat + h.role.toNat),
      BitVec.ofNat 8 (64 * h.alliance.toNat + 8 * h.phase.toNat + 2 * h.align.toNat + (if h.test then 1 else 0)), h.seq,
      h.stamp.extractLsb' 24 8, h.stamp.extractLsb' 16 8, h.stamp.extractLsb' 8 8, h.stamp.extractLsb' 0 8]) ∧
  ∀ b : TxBody, b.bytes = bodyOf b ∧ b.kindCode = kindOf b

/-- What the owners of the bodies of every kind but PRESENCE read gives back what was sent, whatever bytes follow. An answer
that is cut short, whose kind names none or that grants a seat of 4 or above is not used. -/
def Sys2Proof.Machine.BodiesAreReadBack : Prop :=
  ∀ extra : List Byte,
    (∀ element claim renew offer hold, let b := bodyOf (.ask element claim renew offer hold) ++ extra
      5 ≤ b.length ∧ idAt b 0 = element ∧ byteAt b 1 = claim ∧ (byteAt b 2).getLsbD 7 = renew ∧
        (byteAt b 2).toNat % 4 = offer % 4 ∧ halfAt b 3 = hold) ∧
    (∀ element claim, let b := bodyOf (.yield element claim) ++ extra
      2 ≤ b.length ∧ idAt b 0 = element ∧ byteAt b 1 = claim) ∧
    (∀ player claim a, let b := bodyOf (.answer player claim a) ++ extra
      idAt b 0 = player ∧ byteAt b 1 = claim ∧
        ((∀ seat hold mark, a = .granted seat hold mark → seat.toNat < 4) → answerOf b = some a) ∧
        (∀ seat hold mark, a = .granted seat hold mark → 4 ≤ seat.toNat → answerOf b = none) ∧
        (∀ n, n < (bodyOf (.answer player claim a)).length → answerOf (b.take n) = none)) ∧
    (∀ b : List Byte, (byteAt b 2).toNat = 0 ∨ 6 < (byteAt b 2).toNat → answerOf b = none) ∧
    (∀ seq phase boundary, let b := bodyOf (.mark seq phase boundary) ++ extra
      6 ≤ b.length ∧ byteAt b 0 = seq ∧ phaseOfCode (byteAt b 1).toNat = some phase ∧ quadAt b 2 = boundary) ∧
    (∀ seq player kind duration, let b := bodyOf (.sanction seq player kind duration) ++ extra
      5 ≤ b.length ∧ byteAt b 0 = seq ∧ idAt b 1 = player ∧ byteAt b 2 = kind.code ∧ halfAt b 3 = duration) ∧
    (∀ seq element player, let b := bodyOf (.turn seq element player) ++ extra
      3 ≤ b.length ∧ byteAt b 0 = seq ∧ idAt b 1 = element ∧ idAt b 2 = player) ∧
    (∀ bits seq, bits.length = 32 → let b := bodyOf (.pattern bits seq) ++ extra
      34 ≤ b.length ∧ b.take 32 = bits ∧ halfAt b 32 = seq)

/-- R23, R192: what an element's PRESENCE shows of a seat. -/
def Sys2Proof.Machine.shownSeat (x : Seat) : ViewSeat :=
  match x with
  | .free => { state := 0, holder := none, mark := 0, claim := none }
  | .guard c _ _ => { state := 1, holder := some c.player, mark := c.mark, claim := none }
  | .held c _ _ _ => { state := 2, holder := some c.player, mark := c.mark, claim := none }
  | .clearing _ => { state := 3, holder := none, mark := 0, claim := none }

/-- R23, R192: what an element's PRESENCE shows of an offer in use. -/
def Sys2Proof.Machine.shownOffer (s : State) (o : OfferSlot) : ViewOffer :=
  { kind := o.kind.setWidth 2, openNow := inPhaseSet o.openPhases (phaseForOffers s),
    restriction := o.restriction.setWidth 2, cost := o.cost, maxHold := o.maxHold }

/-- The PRESENCE of each role is read back, whatever bytes follow: an element's seats, waiting count and offers, a player's
two flags and count, a referee's flag and order seq. An element's that is cut short, or whose seat or offer count lies
outside 1..4, is not used. -/
def Sys2Proof.Machine.PresencesAreReadBack : Prop :=
  (∀ (s : State) (extra : List Byte), 1 ≤ s.seat.table.length → s.seat.table.length ≤ 4 →
    1 ≤ s.port.cfg.offerCount.toNat → s.port.cfg.offerCount.toNat ≤ 4 →
    elementPresenceOf (elementBody s ++ extra) = some (s.seat.table.map shownSeat, countByte s.arb.waiting,
      (List.range s.port.cfg.offerCount.toNat).map fun i => shownOffer s (s.port.cfg.offer i)) ∧
    ∀ n, n < (elementBody s).length → elementPresenceOf ((elementBody s).take n) = none) ∧
  (∀ b : List Byte, byteAt b 0 = 0 ∨ 4 < (byteAt b 0).toNat → elementPresenceOf b = none) ∧
  (∀ b : List Byte, byteAt b (4 * (byteAt b 0).toNat + 2) = 0 ∨ 4 < (byteAt b (4 * (byteAt b 0).toNat + 2)).toNat →
    elementPresenceOf b = none) ∧
  (∀ (s : State) (extra : List Byte), let b := playerBody s ++ extra
    ((byteAt b 0).getLsbD 7 = true ↔ 0 < s.req.bench) ∧ (byteAt b 0).getLsbD 6 = s.req.ejected ∧
      (byteAt b 0).toNat % 8 = s.req.list.length % 8) ∧
  ∀ (s : State) (extra : List Byte), let b := refereeBody s ++ extra
    ((byteAt b 0).getLsbD 7 = true ↔ s.port.cfg.source ≠ 0) ∧ byteAt b 1 = s.ref.orderSeq

/-- The layouts of frames, headers and bodies: each is spelled out, and what was sent is what is received and read. -/
def Obligations.FrameBytesRoundTrip : Prop :=
  FramesAreReceivedWhole ∧ FramesAreLaidOut ∧ BodiesAreReadBack ∧ PresencesAreReadBack

/-- The checks of a received frame in their order: the length byte, the CRC, the kind; and a good frame at a full queue.
A failed check is counted and ends the reception; nothing else changes. A valid frame ends link loss. So they are for the
node's own frame in a loopback test, whose bytes are read in place of RXD's. -/
def Sys2Proof.Machine.ReceptionChecks : Prop :=
  ∀ (s : State) (rxd bs : List Byte) (r : Reception), s.chan.reception = some r → Reads s r rxd bs →
    let n := (byteAt bs 0).toNat
    let head := headerOf ((bs.take (n + 1)).drop 1)
    let window (w : WindowCounts) : State :=
      { s with chan := { s.chan with reception := none }, link := { s.link with window := w } }
    (bs ≠ [] → n < 8 ∨ 56 < n → exec (.frameReceived rxd) s =
      .next (window { s.link.window with format := min (s.link.window.format + 1) 65535 })) ∧
    (8 ≤ n → n ≤ 56 → n + 3 ≤ bs.length →
      (crc16 (bs.take (n + 1)) ≠ halfAt bs (n + 1) → exec (.frameReceived rxd) s =
        .next (window { s.link.window with crc := min (s.link.window.crc + 1) 65535 })) ∧
      (crc16 (bs.take (n + 1)) = halfAt bs (n + 1) →
        (head.kind.toNat < 1 ∨ 9 < head.kind.toNat → exec (.frameReceived rxd) s =
          .next (window { s.link.window with kind := min (s.link.window.kind + 1) 65535 })) ∧
        (1 ≤ head.kind.toNat → head.kind.toNat ≤ 9 → s.link.lost = false → 4 ≤ s.chan.rxQueue.length →
          ∃ t, exec (.frameReceived rxd) s = .next t ∧ t = { s with chan := t.chan, link := t.link } ∧
            t.chan = { s.chan with reception := none } ∧
            t.link.window = { s.link.window with
              good := min (s.link.window.good + 1) 65535, overflow := min (s.link.window.overflow + 1) 65535 }) ∧
        (1 ≤ head.kind.toNat → head.kind.toNat ≤ 9 → s.link.lost = true → head.sender ≠ s.port.cfg.nodeId.setWidth 6 →
          ∃ t, exec (.frameReceived rxd) s = .next t ∧ t.link.lost = false ∧ t.link.remaining = 2000 ∧
            t.hasFlag .linkBack = true ∧ t.chan.reception = none ∧ SameOutsideElement s t)))

/-- FRAME_RECEIVED without a reception, and with fewer bytes than the frame announces, changes nothing (the model's choices,
log entries 2 and 14). -/
def Sys2Proof.Machine.UnfinishedFramesWait : Prop :=
  (∀ (s : State) (rxd : List Byte), s.chan.reception = none → exec (.frameReceived rxd) s = .next s) ∧
  ∀ (s : State) (rxd bs : List Byte) (r : Reception), s.chan.reception = some r → Reads s r rxd bs →
    bs = [] ∨ (8 ≤ (byteAt bs 0).toNat ∧ (byteAt bs 0).toNat ≤ 56 ∧ bs.length < (byteAt bs 0).toNat + 3) →
    exec (.frameReceived rxd) s = .next s

/-- R177: a PATTERN of the node's own that returns in a loopback test is received and, at its dispatch, seeds the check, with
no id clash, no peer slot and no catch-up. How a seeded check compares it PatternFrameIsChecked says, and that the other kinds
are discarded HeadersReachThePeerTable. -/
def Sys2Proof.Machine.LoopedPatternIsChecked : Prop :=
  ∀ (s : State) (h : Header) (bits : List Byte) (seq : Half) (r : Reception) (rxd : List Byte), inLoop s →
    s.chan.reception = some r → s.chan.rxQueue = [] → h.kind = 9 → h.sender = s.port.cfg.nodeId.setWidth 6 →
    bits.length = 32 → r.looped = some (frameBytes h (bodyOf (.pattern bits seq))) → s.link.checkGen = none →
    ∃ t u, exec (.frameReceived rxd) s = .next t ∧ exec .patternFrame t = .next u ∧
      u = { s with
        chan := { s.chan with reception := none },
        link := { s.link with
          window := { s.link.window with good := min (s.link.window.good + 1) 65535 },
          patternSource := some h.sender, checkGen := some (patternLoad bits), expectedSeq := seq + 1,
          record := { s.link.record with seedFrames := min (s.link.record.seedFrames + 1) 65535 } } }

/-- The receiver from the sync word to the end of a frame, the node's own frames in a loopback test among them. -/
def Obligations.ReceptionOfFrames : Prop :=
  SyncWordTakesTheStamp ∧ ReceptionChecks ∧ UnfinishedFramesWait ∧ LoopedPatternIsChecked

/-! ## Dispatch -/

/-- The nine frame commands with their kinds. -/
def Sys2Proof.Machine.frameCommands : List (Instr × BitVec 4) :=
  [(.presenceFrame, 1), (.askFrame, 2), (.yieldFrame, 3), (.answerFrame, 4), (.markFrame, 5), (.sanctionFrame, 6),
    (.turnFrame, 7), (.haltFrame, 8), (.patternFrame, 9)]

/-- The state with the oldest frame taken from the receive queue. -/
def Sys2Proof.Machine.frameTaken (s : State) : State := { s with chan := { s.chan with rxQueue := s.chan.rxQueue.drop 1 } }

/-- A header as its slot of the peer table records it. -/
def Sys2Proof.Machine.Records (h : Header) (s : State) (x : PeerSlot) : Prop :=
  x.role = h.role ∧ x.alliance = h.alliance ∧ x.level = h.level ∧ x.align = h.align ∧ x.halted = h.halted ∧
    x.test = h.test ∧ x.phase = h.phase ∧ x.seq = h.seq ∧ x.lastHeard = s.time.ft / 1000 ∧
    x.silence = s.peers.silenceTime ∧ x.heard = true ∧
    x.frames = match lookupId h.sender s.peers.slots with
      | none => 1
      | some old => min (old.frames + 1) 65535

/-- Every frame command takes the oldest frame when it is of its kind: an id clash and a header whose role or alliance
names none are counted and go no further; every other header is recorded in its sender's slot and in no other. In a
loopback test the node's own frames but PATTERN are discarded. Without such a frame nothing happens (log entry 2). -/
def Obligations.HeadersReachThePeerTable : Prop :=
  ∀ c kind, (c, kind) ∈ frameCommands → ∀ s : State,
    (s.chan.rxQueue = [] → exec c s = .next s) ∧
    ∀ f rest, s.chan.rxQueue = f :: rest →
      (f.header.kind ≠ kind → exec c s = .next s) ∧
      (f.header.kind = kind →
        (f.header.sender = s.port.cfg.nodeId.setWidth 6 → ¬ inLoop s → exec c s = .next (withFlag .idClash
          { frameTaken s with peers := { s.peers with clashCount := min (s.peers.clashCount + 1) 65535 } })) ∧
        (f.header.sender = s.port.cfg.nodeId.setWidth 6 → inLoop s →
          (kind ≠ 9 → exec c s = .next (frameTaken s)) ∧ ∃ t, exec c s = .next t ∧ t.peers = s.peers ∧
            t.time = s.time ∧ t.phase = s.phase ∧ t.port = s.port) ∧
        (f.header.sender ≠ s.port.cfg.nodeId.setWidth 6 → f.header.role = 3 ∨ f.header.alliance = 3 → exec c s =
          .next { frameTaken s with peers := { s.peers with rejectCount := min (s.peers.rejectCount + 1) 65535 } }) ∧
        (f.header.sender ≠ s.port.cfg.nodeId.setWidth 6 → f.header.role ≠ 3 → f.header.alliance ≠ 3 →
          ∃ t, exec c s = .next t ∧ t.chan.rxQueue = rest ∧
            (∃ x, lookupId f.header.sender t.peers.slots = some x ∧ Records f.header s x) ∧
            (∀ j, j ≠ f.header.sender → lookupId j t.peers.slots = lookupId j s.peers.slots) ∧
            t.port.cfg = s.port.cfg ∧ t.pins = s.pins ∧ t.ref = s.ref ∧ t.localMs = s.localMs))

/-- The oldest frame received is f, of a kind, from another node and with a role and an alliance that its codes name. -/
def Sys2Proof.Machine.Arrives (s : State) (f : RxFrame) (kind : BitVec 4) : Prop :=
  (∃ rest, s.chan.rxQueue = f :: rest) ∧ f.header.kind = kind ∧ f.header.sender ≠ s.port.cfg.nodeId.setWidth 6 ∧
    f.header.role ≠ 3 ∧ f.header.alliance ≠ 3

/-- The state after stages 1 and 2 of R165: the peer table and the referee slots. -/
def Sys2Proof.Machine.headerSlotted (f : RxFrame) (s : State) : State :=
  ((frameTaken s).takeHeader f.header).fillReferee f.header

/-- The state after stage 3 of R165: field time. -/
def Sys2Proof.Machine.headerTimed (f : RxFrame) (s : State) : State :=
  (headerSlotted f s).timeStage f.header.sender f.header.stamp f.stamp

/-- The state after the header stages of R165: the peer table and the referee slots, field time, catch-up. -/
def Sys2Proof.Machine.afterHeader (f : RxFrame) (s : State) : State := (headerTimed f s).catchUp f.header

/-- The slot of the peer table that a header leaves. -/
def Sys2Proof.Machine.slotAfter (h : Header) (s : State) : PeerSlot :=
  { role := h.role, alliance := h.alliance, level := h.level, align := h.align, halted := h.halted, test := h.test,
    phase := h.phase, seq := h.seq, lastHeard := s.time.ft / 1000, silence := s.peers.silenceTime, heard := true,
    frames := match lookupId h.sender s.peers.slots with
      | none => 1
      | some old => min (old.frames + 1) 65535,
    ad := (lookupId h.sender s.peers.slots).bind PeerSlot.ad }

/-- R54: the referee slots that a header leaves; a free one is filled by a REFEREE that holds none. -/
def Sys2Proof.Machine.refereesAfter (h : Header) (l : List RefSlot) : List RefSlot :=
  if h.role = 2 ∧ l.length < 2 ∧ (∀ r ∈ l, r.id ≠ h.sender) then l ++ [{ id := h.sender, lastSeq := none, ad := none }]
  else l

/-- R145: a known sender's header shows another role or alliance than its slot. -/
def Sys2Proof.Machine.showsAChange (h : Header) (s : State) : Bool :=
  match lookupId h.sender s.peers.slots with
  | some old => !decide (old.role = h.role ∧ old.alliance = h.alliance)
  | none => false

/-- The peer table that a header leaves: the sender's slot, and the last changed id with PEER_CHANGED where a known
sender's role or alliance has changed. -/
def Sys2Proof.Machine.headerRecorded (h : Header) (s : State) : State :=
  withFlagIf (showsAChange h s) .peerChanged { s with peers := { s.peers with
    slots := insertId h.sender (slotAfter h s) s.peers.slots,
    lastChanged := if showsAChange h s then some h.sender else s.peers.lastChanged } }

/-- The referee slots filled as a header has it. -/
def Sys2Proof.Machine.refereesFilled (h : Header) (s : State) : State :=
  { s with peers := { s.peers with referees := refereesAfter h s.peers.referees } }

/-- A HEARD report, in the model's order of the blocks (log entry 10): the seats no longer held for a silent holder, the
record no longer silent with the resolution of R32, the partner view and the entry of the element view no longer silent. -/
def Sys2Proof.Machine.HeardReport (id : NodeId) (s t : State) : Prop :=
  let a : State := { s with seat := { s.seat with table := s.seat.table.map (markedSilent id false) } }
  let b : State := { a with arb := { a.arb with
    ring := a.arb.ring.map fun r => if r.player = id then { r with silent := false } else r } }
  let wasSilent := ∃ r, recordOf s id = some r ∧ r.silent = true
  ∃ c d, (wasSilent → c = b.resolve) ∧ (¬ wasSilent → c = a) ∧
    ViewUpdated id (fun v => { v with silent := false }) c d ∧
    t = { d with req := { d.req with
      view := d.req.view.map fun x => if x.1 = id then (x.1, { x.2 with silent := false }) else x } }

/-- The peer table, PEER_CHANGED and the referee slots at a header that is taken; the HEARD report of a new or SILENT slot;
and catch-up from the header of a newer phase seq. The order of the blocks at the report (log entry 10), the tests after a
changed partner view (log entry 24), the end of a loopback test by a mark (log entry 37) and the pending mark's seq at a fresh
node (log entry 25) are the model's choices. -/
def Obligations.HeadersAreReportedAndCaughtUp : Prop :=
  ∀ (s : State) (f : RxFrame) (kind : BitVec 4), Arrives s f kind →
    let h := f.header
    let recorded := headerRecorded h (frameTaken s)
    (∀ old, lookupId h.sender s.peers.slots = some old → old.heard = true →
      headerSlotted f s = refereesFilled h recorded) ∧
    ((∀ old, lookupId h.sender s.peers.slots = some old → old.heard = false) →
      ∃ d, HeardReport h.sender recorded d ∧ headerSlotted f s = refereesFilled h d) ∧
    (afterHeader f s).peers = (refereesFilled h recorded).peers ∧
    let w := headerTimed f s
    (∀ new, phaseOfCode h.phase.toNat = some new → MarkIsNewer w h.seq → w.phase.phase ≠ .ended ∨ new = .prematch →
      MarkApplied w h.seq new none (afterHeader f s)) ∧
    (6 ≤ h.phase.toNat ∨ ¬ MarkIsNewer w h.seq ∨
      (w.phase.phase = .ended ∧ phaseOfCode h.phase.toNat ≠ some .prematch) → afterHeader f s = w)

/-- R99: a slot of the peer table that makes its node a candidate for reference. -/
def Sys2Proof.Machine.isCandidate (p : PeerSlot) : Prop :=
  p.heard = true ∧ (p.align = 2 ∨ p.align = 3) ∧ p.level.toNat ≤ 5

/-- R100: field time at the choice of a reference. -/
def Sys2Proof.Machine.chosenTime (id : NodeId) (t : FieldTime) : FieldTime :=
  { t with reference := some id, lockCount := 0, holdover := 0, align := .acquiring, level := 7,
           lastCause := match t.align with
             | .acquiring | .locked => .referenceBetter
             | .unaligned | .holdover | .source => .referenceChosen }

/-- R106: the offset of a sample: sender stamp plus link delay less local stamp, signed. -/
def Sys2Proof.Machine.sampleOffset (delay : Byte) (f : RxFrame) : Int :=
  (f.header.stamp + delay.setWidth 32 - f.stamp).toInt

/-- R106: a sample is a STEP when its offset exceeds the step limit. -/
def Sys2Proof.Machine.isStep (b : FieldTime) (e : Int) : Bool := decide (b.stepLimit < e.natAbs)

/-- R107, R108: the correction of a sample: the whole offset of a STEP, a quarter of a SLEW's towards 0. -/
def Sys2Proof.Machine.correction (b : FieldTime) (e : Int) : Int := if isStep b e then e else e.tdiv 4

/-- R108: the trim update of a SLEW in TRACK. -/
def Sys2Proof.Machine.trimStep (b : FieldTime) (e : Int) : Int :=
  if isStep b e = false ∧ b.mode = .track then max (-8) (min 8 (e.tdiv 16)) else 0

/-- R109: a sample inside the lock window. -/
def Sys2Proof.Machine.insideLock (b : FieldTime) (e : Int) : Bool := !isStep b e && decide (e.natAbs ≤ 250)

/-- R109: a sample that reaches the lock. -/
def Sys2Proof.Machine.reachesLock (b : FieldTime) (e : Int) : Bool :=
  decide (b.align = .acquiring) && insideLock b e && decide (3 ≤ b.lockCount)

/-- R107, R108: field time after the correction of a sample, before its trim and its lock. -/
def Sys2Proof.Machine.correctedTime (b : FieldTime) (e : Int) : FieldTime :=
  let ft := if 0 < correction b e then min (b.ft + (correction b e).toNat) (2 ^ 40 - 1) else b.ft
  { b with
    ft := ft, stall := (-(correction b e)).toNat, holdover := b.holdover - (ft / 1000 - b.ft / 1000),
    lastSample := some { offset := e, kind := if isStep b e then .step else .slew } }

/-- R106 to R109: field time after a sample of its reference. -/
def Sys2Proof.Machine.sampledTime (b : FieldTime) (level : Nat) (e : Int) : FieldTime :=
  let d := trimStep b e
  let trim := max (-512) (min 511 (b.trim + d))
  let c : FieldTime := if d = 0 then correctedTime b e
    else { correctedTime b e with trim := trim, alarm := decide (trim ≤ -510 ∨ 509 ≤ trim) }
  match b.align with
  | .acquiring =>
    if insideLock b e then
      if 3 ≤ b.lockCount then { c with lockCount := b.lockCount + 1, align := .locked, level := level + 1,
                                       lastCause := .lockReached }
      else { c with lockCount := b.lockCount + 1 }
    else { c with lockCount := 0 }
  | .locked => if insideLock b e then c
    else { c with lockCount := 0, align := .acquiring, level := 7, lastCause := .lockLost }
  | .unaligned | .holdover | .source => c

/-- R102: while LOCKED the level follows each header of the reference. -/
def Sys2Proof.Machine.followedTime (h : Header) (b : FieldTime) : FieldTime :=
  if b.align = .locked then { b with level := h.level.toNat + 1 } else b

/-- Every header from a candidate, or from the reference, at field time: in SOURCE and FIXED nothing; from the reference a
sample, or its loss; from another candidate the choice of the best candidate where R100 has one, and a sample where the
sender is chosen. The best candidate has the lowest level and among equals the lowest id. -/
def Obligations.HeadersChooseAndLoseTheReference : Prop :=
  ∀ c kind, (c, kind) ∈ frameCommands → ∀ (s : State) (f : RxFrame), Arrives s f kind → PeerLaw s →
    let h := f.header
    let b := s.time
    let e := sampleOffset s.port.cfg.linkDelay f
    let candidate := (h.align = 2 ∨ h.align = 3) ∧ h.level.toNat ≤ 5
    let recorded (r : NodeId) : Nat := match lookupId r s.peers.slots with
      | some x => x.level.toNat
      | none => 7
    let chooses := candidate ∧ match b.align with
      | .unaligned => True
      | .acquiring | .locked => ∃ r, b.reference = some r ∧ h.level.toNat < recorded r
      | .holdover => h.level.toNat < b.level
      | .source => False
    ∃ t, exec c s = .next t ∧
      (b.align = .source ∨ b.mode = .fixed → t.time = b) ∧
      (b.align ≠ .source → b.mode ≠ .fixed →
        (b.reference = some h.sender →
          (candidate → t.time = sampledTime (followedTime h b) h.level.toNat e) ∧
          (¬ candidate → t.time = lostTime b ∧
            (b.align = .locked ∨ b.align = .acquiring → t.hasFlag .alignChanged = true))) ∧
        (b.reference ≠ some h.sender →
          (¬ chooses → t.time = b) ∧
          (chooses → ∃ q x, lookupId q t.peers.slots = some x ∧ isCandidate x ∧
            (∀ j y, lookupId j t.peers.slots = some y → isCandidate y →
              x.level < y.level ∨ (x.level = y.level ∧ q ≤ j)) ∧
            t.hasFlag .alignChanged = true ∧
            (q = h.sender → t.time = sampledTime (chosenTime q b) h.level.toNat e) ∧
            (q ≠ h.sender → t.time = chosenTime q b))))

/-- What a sample of the reference does beside field time: a correction forward counts the field ms it crosses in every
counter and applies a pending mark whose boundary it reaches; a changed alarm sets TRIM_LIMIT; the lock, reached or lost,
sets ALIGN_CHANGED; and the lock reached starts a resolution. A frame in transmission keeps all but its stamp, which a
movement forward before the end of its sync word would make that of the new FT: which comes first is free (log entry 6), by
the next value of the free-value index. A stamp taken already, and that of a looped frame, stands. The model's choices are that the mark comes before the trim and the lock of the same sample (log
entry 12), that a counter run out stands at 0 until its row (log entries 1 and 13), and that a mark ends a loopback test (log
entry 37). -/
def Obligations.SamplesReachTheOtherBlocks : Prop :=
  ∀ (s : State) (f : RxFrame) (kind : BitVec 4), Arrives s f kind → s.time.align ≠ .source → s.time.mode ≠ .fixed →
    s.time.reference = some f.header.sender → (f.header.align = 2 ∨ f.header.align = 3) → f.header.level.toNat ≤ 5 →
    let v := headerSlotted f s
    let b := followedTime f.header s.time
    let e := sampleOffset s.port.cfg.linkDelay f
    let moved := correctedTime b e
    let after := sampledTime b f.header.level.toNat e
    ∃ x y : State,
      x = { fieldCounted (moved.ft / 1000 - b.ft / 1000) v with
        time := moved, chan := x.chan, freeIndex := x.freeIndex } ∧
      x.chan = { v.chan with txFrame := x.chan.txFrame } ∧
      (correction b e ≤ 0 ∨ v.chan.txFrame = none → x.chan = v.chan ∧ x.freeIndex = v.freeIndex) ∧
      (∀ g, v.chan.txFrame = some g → ∃ stamp : Quad,
        x.chan.txFrame = some { g with header := { g.header with stamp := stamp } } ∧
        (g.stampOpen = false ∨ g.looped = true → stamp = g.header.stamp ∧ x.freeIndex = v.freeIndex) ∧
        (0 < correction b e → g.stampOpen = true → g.looped = false → x.freeIndex = v.freeIndex + 1) ∧
        (stamp = g.header.stamp ∨ stamp = BitVec.ofNat 32 moved.ft)) ∧
      (correction b e ≤ 0 ∨ (∀ m, v.phase.pending = some m → moved.ft < m.boundary) → y = x) ∧
      (0 < correction b e → ∀ m, v.phase.pending = some m → m.boundary ≤ moved.ft →
        (v.phase.phase ≠ .ended ∨ m.phase = .prematch → MarkApplied x m.seq m.phase (some m.carried) y) ∧
        (v.phase.phase = .ended → m.phase ≠ .prematch → y = { x with phase := { x.phase with
          pending := none, ignoreCount := min (x.phase.ignoreCount + 1) 65535 } })) ∧
      let w := withFlagIf (decide (after.align ≠ b.align)) .alignChanged
        (withFlagIf (decide (after.alarm ≠ b.alarm)) .trimLimit { y with time := after })
      headerTimed f s = if reachesLock b e then w.resolve else w

/-! ## ASK and YIELD at an element -/

/-- R3: a player holds the seat n, the lowest that it occupies, under the claim c. -/
def Sys2Proof.Machine.HoldsSeat (u : State) (p : NodeId) (n : Nat) (c : Claim) : Prop :=
  claimAt u n = some c ∧ c.player = p ∧ ∀ m d, m < n → claimAt u m = some d → d.player ≠ p

/-- R36: a player holds a seat under a claim number. -/
def Sys2Proof.Machine.SeatedUnder (u : State) (p : NodeId) (claim : Byte) : Prop :=
  ∃ n c, HoldsSeat u p n c ∧ c.number = claim

/-- A claim of a player that is neither on its seat nor in its waiting entry. -/
def Sys2Proof.Machine.PastOrNew (u : State) (p : NodeId) (claim : Byte) : Prop :=
  ¬ SeatedUnder u p claim ∧ ∀ e, entryOf u p = some e → e.claim ≠ claim

/-- R13: a player's last-ended claim. -/
def Sys2Proof.Machine.lastEndedOf (u : State) (p : NodeId) : Option (Byte × Reason) :=
  match recordOf u p with
  | some r => r.lastEnded
  | none => none

/-- An ASK or a YIELD for this element, from a PLAYER, that meets the arbiter in RUNNING. -/
abbrev Sys2Proof.Machine.ForArbiter (u : State) (f : RxFrame) (length : Nat) : Prop :=
  length ≤ f.body.length ∧ u.port.cfg.role = 1 ∧ idAt f.body 0 = u.port.cfg.nodeId.setWidth 6 ∧ f.header.role = 0 ∧
    u.port.nodeState = .running

/-- The arbiter ignore count risen by one. -/
def Sys2Proof.Machine.arbiterIgnored (u : State) : State :=
  { u with arb := { u.arb with ignoreCount := min (u.arb.ignoreCount + 1) 65535 } }

/-- A player's budget charged with a cost. -/
def Sys2Proof.Machine.budgetCharged (p : NodeId) (cost : Nat) (u : State) : State :=
  { u with arb := { u.arb with ring := u.arb.ring.map fun r =>
    if r.player = p then { r with budget := r.budget - cost } else r } }

/-- R9: the reason for which a renewal of the seat n under the claim c is denied. -/
def Sys2Proof.Machine.renewalDenial (u : State) (p : NodeId) (n : Nat) (c : Claim) : Option Byte :=
  let o := u.port.cfg.offer c.offer
  let guarded : Bool := match u.seat.table[n]? with
    | some (.guard _ _ _) => true
    | some .free | some (.held _ _ _ _) | some (.clearing _) | none => false
  if o.kind ≠ 1 then some 48
  else if guarded then some 49
  else if u.arb.waiting.any u.eligible then some 50
  else match recordOf u p with
    | some r => if r.budget < o.cost.toNat then some 39 else none
    | none => if 0 < o.cost.toNat then some 39 else none

/-- ASK: a frame not for this element is used for its header alone, one from another role or outside RUNNING is counted;
a claim the element knows is answered as it stands (checks 2 to 5): GRANTED again, RENEWED with the granted hold, the
renewal counted and its cost charged, or RENEW_DENIED; WAITING with the entry refreshed; ENDED; NOT_HELD. -/
def Obligations.AskOfAKnownClaim : Prop :=
  ∀ (s : State) (f : RxFrame), Arrives s f 2 →
    let u := afterHeader f s
    let p := f.header.sender
    let claim := byteAt f.body 1
    let renew := (byteAt f.body 2).getLsbD 7
    (f.body.length < 5 ∨ s.port.cfg.role ≠ 1 ∨ idAt f.body 0 ≠ s.port.cfg.nodeId.setWidth 6 →
      exec .askFrame s = .next u) ∧
    (5 ≤ f.body.length → s.port.cfg.role = 1 → idAt f.body 0 = s.port.cfg.nodeId.setWidth 6 →
      f.header.role ≠ 0 ∨ u.port.nodeState ≠ .running → exec .askFrame s = .next (arbiterIgnored u)) ∧
    (ForArbiter u f 5 →
      (∀ n c, HoldsSeat u p n c → c.number = claim → renew = false → exec .askFrame s =
        .next (u.send (.answer p claim (.granted (BitVec.ofNat 8 n) (BitVec.ofNat 16 c.granted) c.mark)))) ∧
      (∀ n c, HoldsSeat u p n c → c.number = claim → renew = true →
        (∀ reason, renewalDenial u p n c = some reason →
          exec .askFrame s = .next (u.send (.answer p claim (.renewDenied reason)))) ∧
        (renewalDenial u p n c = none → ∀ pulse r h, u.seat.table[n]? = some (.held c pulse r h) →
          exec .askFrame s = .next ((budgetCharged p (u.port.cfg.offer c.offer).cost.toNat (withSeat u n
            (.held { c with hold := c.granted, renews := min (c.renews + 1) 255 } pulse r h))).send
              (.answer p claim (.renewed (BitVec.ofNat 16 c.granted)))))) ∧
      (¬ SeatedUnder u p claim → ∀ e, entryOf u p = some e → e.claim = claim →
        let t : State := { u with arb := { u.arb with waiting := u.arb.waiting.map fun x =>
          if x.player = p then { x with refreshed := u.time.ft / 1000 } else x } }
        exec .askFrame s = .next (t.send (.answer p claim (t.waitingAnswer p)))) ∧
      (PastOrNew u p claim →
        (∀ reason, lastEndedOf u p = some (claim, reason) →
          exec .askFrame s = .next (u.send (.answer p claim (.ended reason.code)))) ∧
        ((∀ reason, lastEndedOf u p ≠ some (claim, reason)) → renew = true →
          exec .askFrame s = .next (u.send (.answer p claim (.renewDenied 49))))))

/-- The refusal of a new claim by checks 6 to 10, before any record is created. -/
def Sys2Proof.Machine.earlyRefusal (u : State) (f : RxFrame) : Option Byte :=
  let offer := (byteAt f.body 2).toNat % 4
  let o := u.port.cfg.offer offer
  if f.header.level = 7 then some 32
  else if u.port.cfg.offerCount.toNat ≤ offer then some 33
  else if (o.restriction = 1 ∧ f.header.alliance ≠ 1) ∨ (o.restriction = 2 ∧ f.header.alliance ≠ 2) then some 34
  else if u.phase.phase = .prematch ∨ u.phase.phase = .ended ∨ inPhaseSet o.openPhases (phaseForOffers u) = false then
    some 35
  else if recordOf u f.header.sender = none ∧ 24 ≤ u.arb.ring.length then some 36
  else none

/-- R25: the ring once the player has a record: its own, or a new one at the tail, silent where the peer table holds a
SILENT slot for it. -/
def Sys2Proof.Machine.ringWith (u : State) (p : NodeId) : List StandingRecord :=
  if (recordOf u p).isSome then u.arb.ring else u.arb.ring ++
    [{ player := p, budget := u.port.cfg.budgetBase.toNat, bench := 0, benchEnding := false, ejected := false,
       silent := match lookupId p u.peers.slots with
         | some x => !x.heard
         | none => false,
       engagement := .none, lastEnded := none }]

/-- The refusal of a new claim by checks 11, 12 and 14, after the record. A bench at 0 refuses nothing. -/
def Sys2Proof.Machine.lateRefusal (u : State) (p : NodeId) (cost : Nat) : Option Byte :=
  match (ringWith u p).find? fun r => decide (r.player = p) with
  | none => none
  | some r =>
    if r.ejected = true then some 37 else if 0 < r.bench then some 38
    else if r.budget < cost then some 39
    else if (List.range u.seat.table.length).any (fun n => (claimAt u n).any fun c => decide (c.player = p)) then some 40
    else if (entryOf u p).isNone ∧ 16 ≤ u.arb.waiting.length then some 41 else none

/-- ASK of a claim the element does not know: a refusal by the first check of 6 to 14 that applies, with the record that
check 10 lets in; otherwise the entry is replaced in place or appended, a resolution follows, and WAITING tells the place
of a player that it has not granted. An ASK chosen for the lowest FREE seat is granted at once. -/
def Obligations.AskOfANewClaim : Prop :=
  ∀ (s : State) (f : RxFrame), Arrives s f 2 → ForArbiter (afterHeader f s) f 5 →
    let u := afterHeader f s
    let p := f.header.sender
    let claim := byteAt f.body 1
    let o := u.port.cfg.offer ((byteAt f.body 2).toNat % 4)
    let units := (halfAt f.body 3).toNat
    let entry : Entry := { player := p, claim := claim, offer := (byteAt f.body 2).toNat % 4,
                           hold := if units = 0 then o.maxHold.toNat else min (units * 100) o.maxHold.toNat,
                           refreshed := u.time.ft / 1000 }
    let ring := ringWith u p
    PastOrNew u p claim → (∀ reason, lastEndedOf u p ≠ some (claim, reason)) → (byteAt f.body 2).getLsbD 7 = false →
    (∀ reason, earlyRefusal u f = some reason →
      exec .askFrame s = .next (u.send (.answer p claim (.refused reason)))) ∧
    (earlyRefusal u f = none →
      (∀ reason, lateRefusal u p o.cost.toNat = some reason → exec .askFrame s =
        .next (({ u with arb := { u.arb with ring := ring } } : State).send (.answer p claim (.refused reason)))) ∧
      (lateRefusal u p o.cost.toNat = none →
        let listed : State := { u with arb :=
          if (entryOf u p).isSome then { u.arb with
            waiting := u.arb.waiting.map (fun x => if x.player = p then entry else x), ring := ring }
          else { u.arb with
            waiting := u.arb.waiting ++ [entry],
            ring := ring.map fun r => if r.player = p then { r with engagement := .waiting } else r } }
        let r := listed.resolve
        ((entryOf r p).isSome = true → exec .askFrame s = .next (r.send (.answer p claim (r.waitingAnswer p)))) ∧
        (entryOf r p = none → exec .askFrame s = .next r) ∧
        (u.gateOpen = false ∨ (∀ x ∈ u.seat.table, x ≠ .free) →
          exec .askFrame s = .next (listed.send (.answer p claim (listed.waitingAnswer p)))) ∧
        (∀ n, u.gateOpen = true → u.seat.table[n]? = some .free → (∀ m, m < n → u.seat.table[m]? ≠ some .free) →
          listed.chosen = some entry → exec .askFrame s = .next (granted n entry listed).resolve)))

/-- YIELD: a matching seat ends with YIELDED, a matching entry with WITHDRAWN, a last-ended claim is answered again, and
any other YIELD is counted. -/
def Obligations.YieldFrameEndsTheClaim : Prop :=
  ∀ (s : State) (f : RxFrame), Arrives s f 3 →
    let u := afterHeader f s
    let p := f.header.sender
    let claim := byteAt f.body 1
    (f.body.length < 2 ∨ s.port.cfg.role ≠ 1 ∨ idAt f.body 0 ≠ s.port.cfg.nodeId.setWidth 6 →
      exec .yieldFrame s = .next u) ∧
    (2 ≤ f.body.length → s.port.cfg.role = 1 → idAt f.body 0 = s.port.cfg.nodeId.setWidth 6 →
      f.header.role ≠ 0 ∨ u.port.nodeState ≠ .running → exec .yieldFrame s = .next (arbiterIgnored u)) ∧
    (ForArbiter u f 2 →
      (∀ n c, HoldsSeat u p n c → c.number = claim → exec .yieldFrame s = .next (seatEnds n c .yielded u)) ∧
      (¬ SeatedUnder u p claim → ∀ e, entryOf u p = some e → e.claim = claim →
        exec .yieldFrame s = .next (entryEnded e .withdrawn u)) ∧
      (PastOrNew u p claim →
        (∀ reason, lastEndedOf u p = some (claim, reason) →
          exec .yieldFrame s = .next (u.send (.answer p claim (.ended reason.code)))) ∧
        ((∀ reason, lastEndedOf u p ≠ some (claim, reason)) → exec .yieldFrame s = .next (arbiterIgnored u))))

/-! ## ANSWER at a player and at a partner element -/

/-- An answer whose sender, target and state this player's request unit judges. -/
abbrev Sys2Proof.Machine.ForRequests (u : State) (f : RxFrame) : Prop :=
  u.port.nodeState = .running ∧ u.port.cfg.role = 0 ∧ idAt f.body 0 = u.port.cfg.nodeId.setWidth 6

/-- The request that an answer of a player's request unit matches, by its sender and claim number. -/
def Sys2Proof.Machine.Matches (u : State) (f : RxFrame) (r : Request) : Prop :=
  ForRequests u f ∧ f.header.role = 1 ∧
    u.req.list.find? (fun q => decide (q.element = f.header.sender ∧ q.claim = byteAt f.body 1)) = some r

/-- R85: the stray count risen by one; nothing else changes, an open wait among it. -/
def Sys2Proof.Machine.strayCounted (u : State) : State :=
  { u with req := { u.req with strayCount := min (u.req.strayCount + 1) 65535 } }

/-- An answer to a request in ASKING or WAITING. RENEWED and RENEW_DENIED are counted as stray. -/
def Sys2Proof.Machine.AnswerToAnOpenRequest : Prop :=
  ∀ (s : State) (f : RxFrame) (r : Request) (a : AnswerBody), Arrives s f 4 →
    let u := afterHeader f s
    Matches u f r → answerOf f.body = some a → r.state = .asking ∨ r.state = .waiting →
    match a with
    | .granted seat hold _ => exec .answerFrame s =
        .next (posted .granted (r.element.setWidth 8) r.claim hold (withRequest u r.element fun q =>
          { q with deadline := none, waitFrame := none, refreshDue := none, state := .seated, seat := seat,
                   granted := hold, countdown := hold.toNat, margin := none }))
    | .waiting position count =>
      let w := withRequest u r.element fun q =>
        { q with deadline := none, waitFrame := none, state := .waiting, position := position, count := count,
                 refreshDue := some (u.localMs + 500) }
      (r.state = .asking →
        exec .answerFrame s = .next (posted .waiting (r.element.setWidth 8) r.claim (position.setWidth 16) w)) ∧
      (r.state = .waiting → exec .answerFrame s = .next w)
    | .refused reason => exec .answerFrame s = .next (closed r .refused (reason.setWidth 16) u)
    | .ended reason => exec .answerFrame s = .next (closed r .ended (reason.setWidth 16) u)
    | .renewed _ => exec .answerFrame s = .next (strayCounted u)
    | .renewDenied _ => exec .answerFrame s = .next (strayCounted u)

/-- An answer to a SEATED or a YIELDING request. WAITING and REFUSED at a SEATED one, and all but GRANTED and ENDED at a
YIELDING one, are counted as stray. -/
def Sys2Proof.Machine.AnswerToASeatedOrYieldingRequest : Prop :=
  ∀ (s : State) (f : RxFrame) (r : Request) (a : AnswerBody), Arrives s f 4 →
    let u := afterHeader f s
    Matches u f r → answerOf f.body = some a →
    (r.state = .seated → match a with
      | .granted seat hold _ => exec .answerFrame s = .next (withRequest u r.element fun q =>
          let q1 := if q.renewPending = true then q else { q with deadline := none, waitFrame := none }
          if q.seat = seat then q1 else
            { q1 with seat := seat, granted := hold, countdown := hold.toNat, margin := none })
      | .renewed hold => exec .answerFrame s =
          .next (posted .renewed (r.element.setWidth 8) r.claim hold (withRequest u r.element fun q =>
            { q with deadline := none, waitFrame := none, renewPending := false, countdown := hold.toNat,
                     margin := none }))
      | .renewDenied reason => exec .answerFrame s =
          .next (posted .renewDenied (r.element.setWidth 8) r.claim (reason.setWidth 16)
            (withRequest u r.element fun q => { q with deadline := none, waitFrame := none, renewPending := false }))
      | .ended reason => exec .answerFrame s = .next (closed r .ended (reason.setWidth 16) u)
      | .waiting _ _ => exec .answerFrame s = .next (strayCounted u)
      | .refused _ => exec .answerFrame s = .next (strayCounted u)) ∧
    (r.state = .yielding → match a with
      | .granted _ _ _ => exec .answerFrame s = .next u
      | .ended reason => exec .answerFrame s = .next (closed r .ended (reason.setWidth 16) u)
      | .waiting _ _ => exec .answerFrame s = .next (strayCounted u)
      | .refused _ => exec .answerFrame s = .next (strayCounted u)
      | .renewed _ => exec .answerFrame s = .next (strayCounted u)
      | .renewDenied _ => exec .answerFrame s = .next (strayCounted u))

/-- Answers that match a request. -/
def Obligations.AnswersToRequests : Prop :=
  AnswerToAnOpenRequest ∧ AnswerToASeatedOrYieldingRequest

/-- An answer that matches no request: a GRANTED of an element draws one YIELD, anything else is counted. An answer that
no block uses (outside RUNNING, with an unreadable body, at a REFEREE, at a PLAYER that it does not target, at an ELEMENT
from a node that is none) is used for its header alone. -/
def Obligations.StrayAndUnusedAnswers : Prop :=
  ∀ (s : State) (f : RxFrame), Arrives s f 4 →
    let u := afterHeader f s
    let p := f.header.sender
    let claim := byteAt f.body 1
    (u.port.nodeState ≠ .running ∨ answerOf f.body = none ∨ s.port.cfg.role = 2 ∨
      (s.port.cfg.role = 0 ∧ idAt f.body 0 ≠ s.port.cfg.nodeId.setWidth 6) ∨
      (s.port.cfg.role = 1 ∧ f.header.role ≠ 1) → exec .answerFrame s = .next u) ∧
    (∀ a, answerOf f.body = some a → ForRequests u f →
      f.header.role ≠ 1 ∨ (∀ r ∈ u.req.list, r.element ≠ p ∨ r.claim ≠ claim) →
      (∀ seat hold mark, a = .granted seat hold mark → f.header.role = 1 →
        exec .answerFrame s = .next (u.send (.yield p claim))) ∧
      (f.header.role ≠ 1 ∨ (∀ seat hold mark, a ≠ .granted seat hold mark) →
        exec .answerFrame s = .next (strayCounted u)))

/-- At an element the PRESENCE and the ANSWER of a partner update that partner's view, and a change of it starts the
interlock: the seats that a COMPANION view no longer backs and those that yield to an EXCLUSIVE one end with INTERLOCK, and
a resolution follows. That R66 is tested for the changed view alone, R67 against every EXCLUSIVE view, and the companion
losses come first is the model's choice (log entry 24). -/
def Obligations.PartnerViewsAndInterlock : Prop :=
  ∀ (s : State) (f : RxFrame),
    let u := afterHeader f s
    let p := f.header.sender
    let now := u.time.ft / 1000
    u.port.nodeState = .running → s.port.cfg.role = 1 → f.header.role = 1 →
    (Arrives s f 1 →
      (elementPresenceOf f.body = none → exec .presenceFrame s = .next u) ∧
      ∀ seats waiting offers, elementPresenceOf f.body = some (seats, waiting, offers) →
        ∃ t, exec .presenceFrame s = .next t ∧
          ViewUpdated p (fun v => { v with seats := shownSeats v.seats seats, lastHeard := now }) u t) ∧
    (Arrives s f 4 → ∀ a, answerOf f.body = some a →
      ∃ t, exec .answerFrame s = .next t ∧
        ViewUpdated p (viewAnswered (idAt f.body 0) (byteAt f.body 1) a now) u t)

/-! ## MARK, HALT and the orders -/

/-- The rebuilt boundary carries the given low 32 bits, lies within 40 bits, and is the nearest such value to FT; of two
equally near it is the later. -/
def Sys2Proof.Machine.BoundaryIsTheNearest : Prop :=
  ∀ (ft : Nat) (carried : Quad), ft ≤ 2 ^ 40 - 1 →
    let b := rebuildBoundary ft carried
    b % 2 ^ 32 = carried.toNat ∧ b ≤ 2 ^ 40 - 1 ∧
    ∀ c, c ≤ 2 ^ 40 - 1 → c % 2 ^ 32 = carried.toNat →
      distance b ft ≤ distance c ft ∧ (distance b ft = distance c ft → c ≤ b)

/-- A MARK from a REFEREE: a newer seq is taken, pending or applied at once; a repeat changes nothing; the same seq with
other content is a conflict; any other seq is ignored and counted. So are a MARK of another role and one whose phase code
names none. -/
def Sys2Proof.Machine.MarksAreJudged : Prop :=
  ∀ (s : State) (f : RxFrame), Arrives s f 5 →
    let u := afterHeader f s
    let seq := byteAt f.body 0
    let carried := quadAt f.body 2
    let boundary := rebuildBoundary u.time.ft carried
    let ignored : State := { u with phase := { u.phase with ignoreCount := min (u.phase.ignoreCount + 1) 65535 } }
    let conflict : State := withFlag .markConflict
      { u with phase := { u.phase with conflictCount := min (u.phase.conflictCount + 1) 65535 } }
    (f.body.length < 6 → exec .markFrame s = .next u) ∧
    (6 ≤ f.body.length →
      (phaseOfCode (byteAt f.body 1).toNat = none ∨ f.header.role ≠ 2 → exec .markFrame s = .next ignored) ∧
      (∀ new, phaseOfCode (byteAt f.body 1).toNat = some new → f.header.role = 2 →
        (MarkIsNewer u seq →
          (u.time.ft < boundary → exec .markFrame s = .next { u with phase := { u.phase with
            pending := some { seq := seq, phase := new, boundary := boundary, carried := carried } } }) ∧
          (boundary ≤ u.time.ft → u.phase.phase = .ended → new ≠ .prematch → exec .markFrame s = .next { u with
            phase := { u.phase with pending := none, ignoreCount := min (u.phase.ignoreCount + 1) 65535 } }) ∧
          (boundary ≤ u.time.ft → u.phase.phase ≠ .ended ∨ new = .prematch →
            ∃ t, exec .markFrame s = .next t ∧ MarkApplied u seq new (some carried) t)) ∧
        (¬ MarkIsNewer u seq →
          (∀ m, u.phase.pending = some m → seq = m.seq →
            (new = m.phase → carried = m.carried → exec .markFrame s = .next u) ∧
            (new ≠ m.phase ∨ carried ≠ m.carried → exec .markFrame s = .next conflict)) ∧
          ((∀ m, u.phase.pending = some m → seq ≠ m.seq) →
            (seq ≠ u.phase.seq → exec .markFrame s = .next ignored) ∧
            (seq = u.phase.seq → new = u.phase.currentPhase →
              u.phase.currentCarried = none ∨ u.phase.currentCarried = some carried → exec .markFrame s = .next u) ∧
            (seq = u.phase.seq → new ≠ u.phase.currentPhase ∨
              (u.phase.currentCarried ≠ none ∧ u.phase.currentCarried ≠ some carried) →
              exec .markFrame s = .next conflict)))))

/-- The boundary of a MARK frame, and what becomes of the mark. An entry or resume applied in a loopback test ends it (the
model's choice against R177, log entry 37); the pending mark's seq at a fresh node is compared serially (log entry 25). -/
def Obligations.MarkFrameIsJudged : Prop :=
  BoundaryIsTheNearest ∧ MarksAreJudged

/-- A HALT from any role sets the latch, with HALT_CHANGED only when it was clear, and the last-HALT time; nothing else
changes beyond the header's stages. -/
def Obligations.HaltFrameSetsTheLatch : Prop :=
  ∀ (s : State) (f : RxFrame), Arrives s f 8 →
    let u := afterHeader f s
    let h : State := { u with phase := { u.phase with latch := true, lastHalt := some u.time.ft } }
    (u.phase.latch = true → exec .haltFrame s = .next h) ∧
    (u.phase.latch = false → exec .haltFrame s = .next (withFlag .haltChanged h))

/-- The order ignore count risen by one. -/
def Sys2Proof.Machine.orderIgnored (u : State) : State :=
  { u with peers := { u.peers with orderIgnore := min (u.peers.orderIgnore + 1) 65535 } }

/-- The last order seq of a referee's slot adopted. -/
def Sys2Proof.Machine.orderAdopted (u : State) (id : NodeId) (seq : Byte) : State :=
  { u with peers := { u.peers with
    referees := u.peers.referees.map fun r => if r.id = id then { r with lastSeq := some seq } else r } }

/-- An order is taken: its sender is a REFEREE with a slot, and its seq is newer than the slot's, or the first. -/
def Sys2Proof.Machine.OrderTaken (u : State) (f : RxFrame) (seq : Byte) : Prop :=
  f.header.role = 2 ∧ ∃ r, u.peers.referees.find? (fun r => decide (r.id = f.header.sender)) = some r ∧
    ∀ last, r.lastSeq = some last → newer seq last = true

/-- SANCTION and TURN: not tested outside RUNNING and TEST; a sender that is no referee, or holds no slot, and an older
seq are counted; a repeat of the last seq changes nothing. -/
def Obligations.OrdersAreTestedAgainstTheirSlot : Prop :=
  ∀ c kind length, (c, kind, length) ∈ [(Instr.sanctionFrame, 6#4, 5), (Instr.turnFrame, 7#4, 3)] →
    ∀ (s : State) (f : RxFrame), Arrives s f kind →
    let u := afterHeader f s
    let seq := byteAt f.body 0
    let slot := u.peers.referees.find? fun r => decide (r.id = f.header.sender)
    let tested := length ≤ f.body.length ∧ (u.port.nodeState = .running ∨ u.port.nodeState = .test) ∧
      (kind = 6 → 1 ≤ (byteAt f.body 2).toNat ∧ (byteAt f.body 2).toNat ≤ 3)
    (¬ tested → exec c s = .next u) ∧
    (tested →
      (f.header.role ≠ 2 ∨ slot = none → exec c s = .next (orderIgnored u)) ∧
      (f.header.role = 2 → ∀ r last, slot = some r → r.lastSeq = some last →
        (seq = last → exec c s = .next u) ∧
        (seq ≠ last → newer seq last = false → exec c s = .next (orderIgnored u))) ∧
      (OrderTaken u f seq → s.port.cfg.role = 2 → exec c s = .next (orderAdopted u f.header.sender seq)))

/-- A SANCTION taken at a PLAYER that it names: BENCH, EJECT and CLEAR act on the player's own state, EJECT ending every
request, with SANCTIONED; a SANCTION for another player changes nothing beyond the adopted seq. A bench that has just
counted to 0 keeps its mark, which nothing but its own row reads (log entry 1). -/
def Sys2Proof.Machine.SanctionAtAPlayer : Prop :=
  ∀ (s : State) (f : RxFrame), Arrives s f 6 →
    let u := afterHeader f s
    let seq := byteAt f.body 0
    let a := orderAdopted u f.header.sender seq
    let code := byteAt f.body 2
    let ms := max 10 (min 600 (halfAt f.body 3).toNat) * 100
    let told (kind : Half) (t : State) := posted .sanctioned (f.header.sender.setWidth 8) seq kind t
    5 ≤ f.body.length → u.port.nodeState = .running ∨ u.port.nodeState = .test → s.port.cfg.role = 0 →
    OrderTaken u f seq → 1 ≤ code.toNat → code.toNat ≤ 3 →
    (idAt f.body 1 ≠ s.port.cfg.nodeId.setWidth 6 → exec .sanctionFrame s = .next a) ∧
    (idAt f.body 1 = s.port.cfg.nodeId.setWidth 6 →
      (code = 1 → exec .sanctionFrame s = .next (told 1 { a with req := { a.req with bench := ms } })) ∧
      (code = 2 → exec .sanctionFrame s =
        .next (told 2 (allClosed .ended 7 { a with req := { a.req with ejected := true } }))) ∧
      (code = 3 → exec .sanctionFrame s = .next (told 3 { a with req := { a.req with bench := 0 } })))

/-- A SANCTION taken at an ELEMENT: a target known under another role, or a full ring, is counted; otherwise the record is
there; BENCH and CLEAR set its bench, a CLEAR that ends one starting a resolution, and EJECT sets its flag and ends the
player's seat or entry with SANCTION; SANCTION_TAKEN is posted. A bench that has counted to 0 before a CLEAR has its
resolution at its own row (log entry 1). That a resolution started by an EJECT or a CLEAR runs before SANCTION_TAKEN is posted
is the model's choice (log entry 11). -/
def Sys2Proof.Machine.SanctionAtAnElement : Prop :=
  ∀ (s : State) (f : RxFrame), Arrives s f 6 →
    let u := afterHeader f s
    let seq := byteAt f.body 0
    let a := orderAdopted u f.header.sender seq
    let p := idAt f.body 1
    let code := byteAt f.body 2
    let ms := max 10 (min 600 (halfAt f.body 3).toNat) * 100
    let told (kind : Half) (t : State) := posted .sanctionTaken (p.setWidth 8) seq kind t
    let standing (g : StandingRecord → StandingRecord) : State := { a with arb := { a.arb with
      ring := (ringWith a p).map fun r => if r.player = p then g r else r } }
    5 ≤ f.body.length → u.port.nodeState = .running ∨ u.port.nodeState = .test → s.port.cfg.role = 1 →
    OrderTaken u f seq → 1 ≤ code.toNat → code.toNat ≤ 3 →
    ((∃ x, lookupId p u.peers.slots = some x ∧ x.role ≠ 0) ∨ (recordOf u p = none ∧ 24 ≤ u.arb.ring.length) →
      exec .sanctionFrame s = .next (orderIgnored a)) ∧
    ((∀ x, lookupId p u.peers.slots = some x → x.role = 0) →
      (recordOf u p).isSome = true ∨ u.arb.ring.length < 24 →
      (code = 1 → exec .sanctionFrame s = .next (told 1 (standing fun r => { r with bench := ms }))) ∧
      (code = 2 →
        let ejected := standing fun r => { r with ejected := true }
        (∀ n c, HoldsSeat u p n c → exec .sanctionFrame s = .next (told 2 (seatEnds n c .sanction ejected))) ∧
        ((∀ n c, ¬ HoldsSeat u p n c) →
          (∀ e, entryOf u p = some e → exec .sanctionFrame s = .next (told 2 (entryEnded e .sanction ejected))) ∧
          (entryOf u p = none → exec .sanctionFrame s = .next (told 2 ejected)))) ∧
      (code = 3 →
        let cleared := standing fun r => { r with bench := 0 }
        ((∃ r, recordOf u p = some r ∧ 0 < r.bench) → exec .sanctionFrame s = .next (told 3 cleared.resolve)) ∧
        ((∀ r, recordOf u p = some r → r.bench = 0) → exec .sanctionFrame s = .next (told 3 cleared))))

/-- A SANCTION taken at a PLAYER and at an ELEMENT. At an ELEMENT the resolution runs before the notice SANCTION_TAKEN (the
model's choice, log entry 11). -/
def Obligations.SanctionsByRole : Prop :=
  SanctionAtAPlayer ∧ SanctionAtAnElement

/-- A TURN taken at the element it names brings the player's record to the head, in the same cyclic order, posts
TURN_TAKEN and starts a resolution; a player without a record is counted; a TURN for another element changes nothing
beyond the adopted seq. -/
def Obligations.TurnRotatesTheRing : Prop :=
  ∀ (s : State) (f : RxFrame), Arrives s f 7 →
    let u := afterHeader f s
    let seq := byteAt f.body 0
    let a := orderAdopted u f.header.sender seq
    let p := idAt f.body 2
    3 ≤ f.body.length → u.port.nodeState = .running ∨ u.port.nodeState = .test → OrderTaken u f seq →
    (s.port.cfg.role ≠ 1 ∨ idAt f.body 1 ≠ s.port.cfg.nodeId.setWidth 6 → exec .turnFrame s = .next a) ∧
    (s.port.cfg.role = 1 → idAt f.body 1 = s.port.cfg.nodeId.setWidth 6 →
      ((∀ r ∈ u.arb.ring, r.player ≠ p) → exec .turnFrame s = .next (arbiterIgnored a)) ∧
      (∀ before r after, u.arb.ring = before ++ r :: after → r.player = p → (∀ x ∈ before, x.player ≠ p) →
        exec .turnFrame s = .next (posted .turnTaken (p.setWidth 8) seq (f.header.sender.setWidth 16)
          { a with arb := { a.arb with ring := r :: after ++ before } }).resolve))

/-! ## PRESENCE and PATTERN -/

/-- A PRESENCE body at a PLAYER: an element's updates or adds the entry of the element view, or is counted at a full view;
a SEATED request that the entry no longer confirms ends with LOST_SEAT. -/
def Sys2Proof.Machine.PresenceUpdatesTheElementView : Prop :=
  ∀ (s : State) (f : RxFrame), Arrives s f 1 →
    let u := afterHeader f s
    let p := f.header.sender
    (u.port.nodeState ≠ .running → exec .presenceFrame s = .next u) ∧
    (u.port.nodeState = .running → s.port.cfg.role = 0 → f.header.role = 1 →
      (elementPresenceOf f.body = none → exec .presenceFrame s = .next u) ∧
      ∀ seats waiting offers, elementPresenceOf f.body = some (seats, waiting, offers) →
        (lookupId p u.req.view = none → 32 ≤ u.req.view.length → exec .presenceFrame s =
          .next { u with req := { u.req with viewIgnore := min (u.req.viewIgnore + 1) 65535 } }) ∧
        ((lookupId p u.req.view).isSome = true ∨ u.req.view.length < 32 →
          ∃ view, lookupId p view = some { seats := seats, waiting := waiting, offers := offers,
                                           lastHeard := u.time.ft / 1000,
                                           silent := match lookupId p u.req.view with
                                             | some old => old.silent
                                             | none => false } ∧
            (∀ j, j ≠ p → lookupId j view = lookupId j u.req.view) ∧
            let w : State := { u with req := { u.req with view := view } }
            let confirmed (r : Request) : Prop := ∃ x, seats[r.seat.toNat]? = some x ∧ (x.state = 1 ∨ x.state = 2) ∧
              x.holder = some (s.port.cfg.nodeId.setWidth 6)
            (∀ r, u.request p = some r → r.state = .seated → ¬ confirmed r →
              exec .presenceFrame s = .next (closed r .ended 16 w)) ∧
            ((∀ r, u.request p = some r → r.state ≠ .seated ∨ confirmed r) → exec .presenceFrame s = .next w)))

/-- The other PRESENCE bodies in RUNNING: a referee's is recorded in its slot and a player's in its peer slot; one that is
too short, and an element's at a REFEREE, is used for its header alone. -/
def Sys2Proof.Machine.PresenceOfPlayersAndReferees : Prop :=
  ∀ (s : State) (f : RxFrame), Arrives s f 1 →
    let u := afterHeader f s
    let p := f.header.sender
    u.port.nodeState = .running →
    ((f.header.role = 2 ∧ f.body.length < 2) ∨ (f.header.role = 0 ∧ f.body.length < 1) ∨
      (f.header.role = 1 ∧ s.port.cfg.role = 2) → exec .presenceFrame s = .next u) ∧
    (f.header.role = 2 → 2 ≤ f.body.length → exec .presenceFrame s = .next { u with peers := { u.peers with
      referees := u.peers.referees.map fun r => if r.id = p then
        { r with ad := some ((byteAt f.body 0).getLsbD 7, byteAt f.body 1) } else r } }) ∧
    (f.header.role = 0 → 1 ≤ f.body.length → ∃ x slots, lookupId p u.peers.slots = some x ∧
      lookupId p slots = some { x with
        ad := some { benched := (byteAt f.body 0).getLsbD 7, ejected := (byteAt f.body 0).getLsbD 6,
                     requests := (byteAt f.body 0).toNat % 8 } } ∧
      (∀ j, j ≠ p → lookupId j slots = lookupId j u.peers.slots) ∧
      exec .presenceFrame s = .next { u with peers := { u.peers with slots := slots } })

/-- The bodies of PRESENCE frames at a player, and those of players and referees everywhere. -/
def Obligations.PresenceBodies : Prop :=
  PresenceUpdatesTheElementView ∧ PresenceOfPlayersAndReferees

/-- A PATTERN checked in PATTERN_CHECK or LOOPBACK: the first seeds the generator, one of another source or of an older
seq is ignored, and one of the source is compared after the frames missed; only the check's state changes. In any other
node state or kind it is used for its header alone. In a loopback test the node's own PATTERN is checked, and a PATTERN of
another node as well (the model's reading, log entry 31). -/
def Obligations.PatternFrameIsChecked : Prop :=
  ∀ (s base : State) (f : RxFrame),
    (Arrives s f 9 ∧ base = afterHeader f s) ∨ ((∃ rest, s.chan.rxQueue = f :: rest) ∧ f.header.kind = 9 ∧
      f.header.sender = s.port.cfg.nodeId.setWidth 6 ∧ inLoop s ∧ base = frameTaken s) →
    let l := base.link
    let bits := f.body.take 32
    let seq := halfAt f.body 32
    let checked := base.port.nodeState = .test ∧ (l.testKind = some .patternCheck ∨ l.testKind = some .loopback)
    let ignored : State :=
      { base with link := { l with record := { l.record with ignored := min (l.record.ignored + 1) 65535 } } }
    (f.body.length < 34 ∨ ¬ checked → exec .patternFrame s = .next base) ∧
    (34 ≤ f.body.length → checked →
      (l.checkGen = none → exec .patternFrame s = .next { base with link := { l with
        patternSource := some f.header.sender, checkGen := some (patternLoad bits), expectedSeq := seq + 1,
        record := { l.record with seedFrames := min (l.record.seedFrames + 1) 65535 } } }) ∧
      (∀ g, l.checkGen = some g →
        let d := (seq - l.expectedSeq).toNat
        (l.patternSource ≠ some f.header.sender ∨ 32768 ≤ d → exec .patternFrame s = .next ignored) ∧
        (l.patternSource = some f.header.sender → d < 32768 → exec .patternFrame s = .next { base with link := { l with
          checkGen := some (patternSteps (256 * (d + 1)) g), expectedSeq := seq + 1,
          record := { l.record with
            missed := min (l.record.missed + d) 65535, compared := min (l.record.compared + 1) 65535,
            bitErrors := min (l.record.bitErrors + bitDifferences bits (patternBytes 32 (patternSteps (256 * d) g)))
              (2 ^ 32 - 1) } } })))

/-! ## Outputs and the latch -/

/-- A seat output is active exactly while its seat is HELD at an ELEMENT that is RUNNING or in TEST, the phase is running,
the outputs are not muted and a METERED seat's pulse has remaining time above 0; so every output is safe under the latch and
after reset. -/
def Obligations.SeatOutputsAreSafe : Prop :=
  (∀ (s : State) (n : Nat), s.seatOut n = true ↔
    ∃ c p r h, s.seat.table[n]? = some (.held c p r h) ∧ s.port.cfg.role = 1 ∧
      (s.port.nodeState = .running ∨ s.port.nodeState = .test) ∧ s.phase.phase.isRunningPhase = true ∧
      s.phase.latch = false ∧ ¬ (s.link.lost = true ∧ s.port.cfg.mute ≠ 0) ∧
      ((s.port.cfg.offer c.offer).kind = 2 → ∃ remaining, p = some remaining ∧ 0 < remaining)) ∧
  (∀ (s : State) (n : Nat), s.phase.latch = true → s.seatOut n = false) ∧ ∀ n, State.reset.seatOut n = false

/-- The seq and the phase of a mark that a command can apply: the pending mark, that of the header of the oldest received
frame or of a MARK body in it, or a SEND_MARK's, given by the command itself or waiting in the command block. -/
def Sys2Proof.Machine.MarkAtHand (c : Instr) (s : State) (seq : Byte) (new : Phase) : Prop :=
  (∃ m, s.phase.pending = some m ∧ m.seq = seq ∧ m.phase = new) ∨
  (∃ f rest, s.chan.rxQueue = f :: rest ∧
    ((f.header.seq = seq ∧ phaseOfCode f.header.phase.toNat = some new) ∨
      (f.header.kind = 5 ∧ byteAt f.body 0 = seq ∧ phaseOfCode (byteAt f.body 1).toNat = some new))) ∨
  (seq = (match s.phase.pending with
      | some m => m.seq + 1
      | none => s.phase.seq + 1) ∧
    ((∃ lead, c = .sendMark new.code lead) ∨
      (s.port.token ≠ 0 ∧ byteAt s.port.block 0 = 48 ∧ byteAt s.port.block 1 = new.code)))

/-- The halt latch clears in no command but a reset, and one that applies a mark at hand, whose seq and phase are the node's
afterwards, in quiet: with the STOP state inactive, halt sending off and at least 250 ms of field time since the last-HALT
time. -/
def Obligations.TheLatchClearsOnlyInQuiet : Prop :=
  ∀ (c : Instr) (s t : State), exec c s = .next t → s.phase.latch = true → t.phase.latch = false →
    t = s.afterReset ∨ (s.phase.stop = false ∧ s.phase.haltSending = false ∧ t.phase.fresh = false ∧
      MarkAtHand c s t.phase.seq t.phase.phase ∧ ∀ h, s.phase.lastHalt = some h → h + 250000 ≤ t.time.ft)

/-! ## Laws that every step keeps -/

/-- Every step keeps the ranges of field time and the levels of the align states. -/
def Obligations.StepKeepsFieldTimeLaws : Prop :=
  ∀ s t : State, step s = .next t → TimeLaw s ∧ LevelLaw s → TimeLaw t ∧ LevelLaw t

/-- Field time never decreases, except that a reset sets it to 0. -/
def Obligations.FieldTimeNeverDecreases : Prop :=
  ∀ (c : Instr) (s t : State), exec c s = .next t → s.time.ft ≤ 2 ^ 40 - 1 → s.time.ft ≤ t.time.ft ∨ t = s.afterReset

/-- Every step keeps the limits of the queues, of the contention exponent and of the backoff generator. -/
def Sys2Proof.Machine.StepKeepsQueueAndBackoffLaws : Prop :=
  ∀ s t : State, step s = .next t → QueueLaw s ∧ BackoffLaw s → QueueLaw t ∧ BackoffLaw t

/-- Every step keeps the request list, the element view, the peer table and the referee slots within their laws. -/
def Sys2Proof.Machine.StepKeepsRequestAndPeerLaws : Prop :=
  ∀ s t : State, step s = .next t → RequestLaw s ∧ PeerLaw s → RequestLaw t ∧ PeerLaw t

/-- Every step keeps the laws of the queues, the contention, the request unit and the peer table. -/
def Obligations.StepKeepsQueueAndTableLaws : Prop :=
  StepKeepsQueueAndBackoffLaws ∧ StepKeepsRequestAndPeerLaws

/-- Every step keeps the laws of seats, waiting list, ring and budgets: no player on two seats, every entry's player with
a record and without a seat, every budget within 0..B. -/
def Obligations.StepKeepsElementLaws : Prop :=
  ∀ s t : State, step s = .next t → ElementLaw s ∧ BudgetLaw s → ElementLaw t ∧ BudgetLaw t
end

