-- ==== Sys2Proof/Laws/Formats.lean ====
section
/-! SUPPORT. What the byte formats and the shift registers do, said once for each: the bytes of a field and the field of its
bytes, a place in joined bytes, and the bytes of a run of pattern steps. -/

open Sys2Proof Sys2Proof.Machine

namespace Sys2Proof.Machine

/-! ## Fields and their bytes -/

theorem ofNat_shifted {n : Nat} (x : BitVec n) (k : Nat) : BitVec.ofNat 8 (x.toNat / 2 ^ k) = x.extractLsb' k 8 := by
  apply BitVec.eq_of_toNat_eq
  rw [BitVec.toNat_ofNat, BitVec.extractLsb'_toNat, Nat.shiftRight_eq_div_pow]

theorem bytesOf_half (h : Half) : bytesOf 2 h.toNat = [h.extractLsb' 8 8, h.extractLsb' 0 8] := by
  simp only [← ofNat_shifted]
  rfl

theorem bytesOf_quad (q : Quad) :
    bytesOf 4 q.toNat = [q.extractLsb' 24 8, q.extractLsb' 16 8, q.extractLsb' 8 8, q.extractLsb' 0 8] := by
  simp only [← ofNat_shifted]
  rfl

theorem toNat_joined {m n : Nat} (x : BitVec m) (y : BitVec n) : (x ++ y).toNat = x.toNat * 2 ^ n + y.toNat := by
  rw [BitVec.toNat_append, ← Nat.shiftLeft_add_eq_or_of_lt y.isLt, Nat.shiftLeft_eq]

/-- A half is its two bytes, the most significant first. -/
theorem half_of_bytes (h : Half) : h.extractLsb' 8 8 ++ h.extractLsb' 0 8 = h := by
  apply BitVec.eq_of_toNat_eq
  rw [toNat_joined]
  simp only [BitVec.extractLsb'_toNat, Nat.shiftRight_eq_div_pow]
  have := h.isLt
  omega

/-- A quad is its four bytes, the most significant first. -/
theorem quad_of_bytes (q : Quad) :
    (q.extractLsb' 24 8 ++ q.extractLsb' 16 8) ++ (q.extractLsb' 8 8 ++ q.extractLsb' 0 8) = q := by
  apply BitVec.eq_of_toNat_eq
  rw [@toNat_joined 16 16, @toNat_joined 8 8, @toNat_joined 8 8]
  simp only [BitVec.extractLsb'_toNat, Nat.shiftRight_eq_div_pow]
  have := q.isLt
  omega

/-! ## Places in joined bytes -/

theorem byteAt_append_left (xs ys : List Byte) (i : Nat) (h : i < xs.length) : byteAt (xs ++ ys) i = byteAt xs i := by
  simp only [byteAt, List.getD_eq_getElem?_getD, List.getElem?_append_left h]

theorem byteAt_append_right (xs ys : List Byte) (i : Nat) (h : xs.length ≤ i) :
    byteAt (xs ++ ys) i = byteAt ys (i - xs.length) := by
  simp only [byteAt, List.getD_eq_getElem?_getD, List.getElem?_append_right h]

/-! ## The pattern generator (R175) -/

/-- A run of steps is one run after another. -/
theorem patternSteps_add (m n : Nat) (g : BitVec 15) : patternSteps (m + n) g = patternSteps n (patternSteps m g) := by
  induction m generalizing g with
  | zero => rw [Nat.zero_add, patternSteps]
  | succ m ih => rw [Nat.succ_add_eq_add_succ, Nat.add_succ, patternSteps, ih, patternSteps]

/-- A byte of pattern bits holds the outputs of eight steps, the first in the most significant bit. -/
theorem patternByte_bit (g : BitVec 15) (i : Nat) (h : i < 8) :
    (patternByte g).getLsbD (7 - i) = patternBit (patternSteps i g) := by
  unfold patternByte
  rcases (show i = 0 ∨ i = 1 ∨ i = 2 ∨ i = 3 ∨ i = 4 ∨ i = 5 ∨ i = 6 ∨ i = 7 by omega)
    with h | h | h | h | h | h | h | h <;> subst h <;> (dsimp only; simp only [BitVec.getLsbD_append]; simp)

theorem patternBytes_length (n : Nat) (g : BitVec 15) : (patternBytes n g).length = n := by
  induction n generalizing g with
  | zero => rfl
  | succ n ih => simp [patternBytes, ih]

/-- A byte of a run stands eight steps after the one before it. -/
theorem byteAt_patternBytes (n : Nat) (g : BitVec 15) (i : Nat) (h : i < n) :
    byteAt (patternBytes n g) i = patternByte (patternSteps (8 * i) g) := by
  induction n generalizing g i with
  | zero => omega
  | succ n ih =>
    cases i with
    | zero => rfl
    | succ i =>
      rw [show 8 * (i + 1) = 8 + 8 * i by omega, patternSteps_add]
      exact ih _ _ (by omega)

/-! ## Pulses (R11) -/

/-- R11: a pulse lasts exactly while it has time left. -/
@[simp] theorem pulseLasts_iff (pulse : Option Nat) : pulseLasts pulse = true ↔ ∃ n, pulse = some n ∧ 0 < n := by
  cases pulse <;> simp [pulseLasts]

end Sys2Proof.Machine
end

