-- ==== Sys2Proof/Laws/State.lean ====
section
/-! SUPPORT. One lemma for each field after each change of a block: the changed block is the function of the old one, and
every other field is kept. -/

namespace Sys2Proof.Machine

/-! ## State.mapPort -/

@[simp] theorem State.mapPort_port (f : Port → Port) (s : State) : (s.mapPort f).port = f s.port := rfl
@[simp] theorem State.mapPort_chan (f : Port → Port) (s : State) : (s.mapPort f).chan = s.chan := rfl
@[simp] theorem State.mapPort_link (f : Port → Port) (s : State) : (s.mapPort f).link = s.link := rfl
@[simp] theorem State.mapPort_peers (f : Port → Port) (s : State) : (s.mapPort f).peers = s.peers := rfl
@[simp] theorem State.mapPort_time (f : Port → Port) (s : State) : (s.mapPort f).time = s.time := rfl
@[simp] theorem State.mapPort_phase (f : Port → Port) (s : State) : (s.mapPort f).phase = s.phase := rfl
@[simp] theorem State.mapPort_seat (f : Port → Port) (s : State) : (s.mapPort f).seat = s.seat := rfl
@[simp] theorem State.mapPort_arb (f : Port → Port) (s : State) : (s.mapPort f).arb = s.arb := rfl
@[simp] theorem State.mapPort_views (f : Port → Port) (s : State) : (s.mapPort f).views = s.views := rfl
@[simp] theorem State.mapPort_req (f : Port → Port) (s : State) : (s.mapPort f).req = s.req := rfl
@[simp] theorem State.mapPort_ref (f : Port → Port) (s : State) : (s.mapPort f).ref = s.ref := rfl
@[simp] theorem State.mapPort_pins (f : Port → Port) (s : State) : (s.mapPort f).pins = s.pins := rfl
@[simp] theorem State.mapPort_localMs (f : Port → Port) (s : State) : (s.mapPort f).localMs = s.localMs := rfl
@[simp] theorem State.mapPort_freeIndex (f : Port → Port) (s : State) : (s.mapPort f).freeIndex = s.freeIndex := rfl
@[simp] theorem State.mapPort_pending (f : Port → Port) (s : State) : (s.mapPort f).pending = s.pending := rfl

/-! ## State.mapChan -/

@[simp] theorem State.mapChan_port (f : Channel → Channel) (s : State) : (s.mapChan f).port = s.port := rfl
@[simp] theorem State.mapChan_chan (f : Channel → Channel) (s : State) : (s.mapChan f).chan = f s.chan := rfl
@[simp] theorem State.mapChan_link (f : Channel → Channel) (s : State) : (s.mapChan f).link = s.link := rfl
@[simp] theorem State.mapChan_peers (f : Channel → Channel) (s : State) : (s.mapChan f).peers = s.peers := rfl
@[simp] theorem State.mapChan_time (f : Channel → Channel) (s : State) : (s.mapChan f).time = s.time := rfl
@[simp] theorem State.mapChan_phase (f : Channel → Channel) (s : State) : (s.mapChan f).phase = s.phase := rfl
@[simp] theorem State.mapChan_seat (f : Channel → Channel) (s : State) : (s.mapChan f).seat = s.seat := rfl
@[simp] theorem State.mapChan_arb (f : Channel → Channel) (s : State) : (s.mapChan f).arb = s.arb := rfl
@[simp] theorem State.mapChan_views (f : Channel → Channel) (s : State) : (s.mapChan f).views = s.views := rfl
@[simp] theorem State.mapChan_req (f : Channel → Channel) (s : State) : (s.mapChan f).req = s.req := rfl
@[simp] theorem State.mapChan_ref (f : Channel → Channel) (s : State) : (s.mapChan f).ref = s.ref := rfl
@[simp] theorem State.mapChan_pins (f : Channel → Channel) (s : State) : (s.mapChan f).pins = s.pins := rfl
@[simp] theorem State.mapChan_localMs (f : Channel → Channel) (s : State) : (s.mapChan f).localMs = s.localMs := rfl
@[simp] theorem State.mapChan_freeIndex (f : Channel → Channel) (s : State) : (s.mapChan f).freeIndex = s.freeIndex := rfl
@[simp] theorem State.mapChan_pending (f : Channel → Channel) (s : State) : (s.mapChan f).pending = s.pending := rfl

/-! ## State.mapLink -/

@[simp] theorem State.mapLink_port (f : Link → Link) (s : State) : (s.mapLink f).port = s.port := rfl
@[simp] theorem State.mapLink_chan (f : Link → Link) (s : State) : (s.mapLink f).chan = s.chan := rfl
@[simp] theorem State.mapLink_link (f : Link → Link) (s : State) : (s.mapLink f).link = f s.link := rfl
@[simp] theorem State.mapLink_peers (f : Link → Link) (s : State) : (s.mapLink f).peers = s.peers := rfl
@[simp] theorem State.mapLink_time (f : Link → Link) (s : State) : (s.mapLink f).time = s.time := rfl
@[simp] theorem State.mapLink_phase (f : Link → Link) (s : State) : (s.mapLink f).phase = s.phase := rfl
@[simp] theorem State.mapLink_seat (f : Link → Link) (s : State) : (s.mapLink f).seat = s.seat := rfl
@[simp] theorem State.mapLink_arb (f : Link → Link) (s : State) : (s.mapLink f).arb = s.arb := rfl
@[simp] theorem State.mapLink_views (f : Link → Link) (s : State) : (s.mapLink f).views = s.views := rfl
@[simp] theorem State.mapLink_req (f : Link → Link) (s : State) : (s.mapLink f).req = s.req := rfl
@[simp] theorem State.mapLink_ref (f : Link → Link) (s : State) : (s.mapLink f).ref = s.ref := rfl
@[simp] theorem State.mapLink_pins (f : Link → Link) (s : State) : (s.mapLink f).pins = s.pins := rfl
@[simp] theorem State.mapLink_localMs (f : Link → Link) (s : State) : (s.mapLink f).localMs = s.localMs := rfl
@[simp] theorem State.mapLink_freeIndex (f : Link → Link) (s : State) : (s.mapLink f).freeIndex = s.freeIndex := rfl
@[simp] theorem State.mapLink_pending (f : Link → Link) (s : State) : (s.mapLink f).pending = s.pending := rfl

/-! ## State.mapPeers -/

@[simp] theorem State.mapPeers_port (f : Peers → Peers) (s : State) : (s.mapPeers f).port = s.port := rfl
@[simp] theorem State.mapPeers_chan (f : Peers → Peers) (s : State) : (s.mapPeers f).chan = s.chan := rfl
@[simp] theorem State.mapPeers_link (f : Peers → Peers) (s : State) : (s.mapPeers f).link = s.link := rfl
@[simp] theorem State.mapPeers_peers (f : Peers → Peers) (s : State) : (s.mapPeers f).peers = f s.peers := rfl
@[simp] theorem State.mapPeers_time (f : Peers → Peers) (s : State) : (s.mapPeers f).time = s.time := rfl
@[simp] theorem State.mapPeers_phase (f : Peers → Peers) (s : State) : (s.mapPeers f).phase = s.phase := rfl
@[simp] theorem State.mapPeers_seat (f : Peers → Peers) (s : State) : (s.mapPeers f).seat = s.seat := rfl
@[simp] theorem State.mapPeers_arb (f : Peers → Peers) (s : State) : (s.mapPeers f).arb = s.arb := rfl
@[simp] theorem State.mapPeers_views (f : Peers → Peers) (s : State) : (s.mapPeers f).views = s.views := rfl
@[simp] theorem State.mapPeers_req (f : Peers → Peers) (s : State) : (s.mapPeers f).req = s.req := rfl
@[simp] theorem State.mapPeers_ref (f : Peers → Peers) (s : State) : (s.mapPeers f).ref = s.ref := rfl
@[simp] theorem State.mapPeers_pins (f : Peers → Peers) (s : State) : (s.mapPeers f).pins = s.pins := rfl
@[simp] theorem State.mapPeers_localMs (f : Peers → Peers) (s : State) : (s.mapPeers f).localMs = s.localMs := rfl
@[simp] theorem State.mapPeers_freeIndex (f : Peers → Peers) (s : State) : (s.mapPeers f).freeIndex = s.freeIndex := rfl
@[simp] theorem State.mapPeers_pending (f : Peers → Peers) (s : State) : (s.mapPeers f).pending = s.pending := rfl

/-! ## State.mapTime -/

@[simp] theorem State.mapTime_port (f : FieldTime → FieldTime) (s : State) : (s.mapTime f).port = s.port := rfl
@[simp] theorem State.mapTime_chan (f : FieldTime → FieldTime) (s : State) : (s.mapTime f).chan = s.chan := rfl
@[simp] theorem State.mapTime_link (f : FieldTime → FieldTime) (s : State) : (s.mapTime f).link = s.link := rfl
@[simp] theorem State.mapTime_peers (f : FieldTime → FieldTime) (s : State) : (s.mapTime f).peers = s.peers := rfl
@[simp] theorem State.mapTime_time (f : FieldTime → FieldTime) (s : State) : (s.mapTime f).time = f s.time := rfl
@[simp] theorem State.mapTime_phase (f : FieldTime → FieldTime) (s : State) : (s.mapTime f).phase = s.phase := rfl
@[simp] theorem State.mapTime_seat (f : FieldTime → FieldTime) (s : State) : (s.mapTime f).seat = s.seat := rfl
@[simp] theorem State.mapTime_arb (f : FieldTime → FieldTime) (s : State) : (s.mapTime f).arb = s.arb := rfl
@[simp] theorem State.mapTime_views (f : FieldTime → FieldTime) (s : State) : (s.mapTime f).views = s.views := rfl
@[simp] theorem State.mapTime_req (f : FieldTime → FieldTime) (s : State) : (s.mapTime f).req = s.req := rfl
@[simp] theorem State.mapTime_ref (f : FieldTime → FieldTime) (s : State) : (s.mapTime f).ref = s.ref := rfl
@[simp] theorem State.mapTime_pins (f : FieldTime → FieldTime) (s : State) : (s.mapTime f).pins = s.pins := rfl
@[simp] theorem State.mapTime_localMs (f : FieldTime → FieldTime) (s : State) : (s.mapTime f).localMs = s.localMs := rfl
@[simp] theorem State.mapTime_freeIndex (f : FieldTime → FieldTime) (s : State) : (s.mapTime f).freeIndex = s.freeIndex := rfl
@[simp] theorem State.mapTime_pending (f : FieldTime → FieldTime) (s : State) : (s.mapTime f).pending = s.pending := rfl

/-! ## State.mapPhase -/

@[simp] theorem State.mapPhase_port (f : PhaseUnit → PhaseUnit) (s : State) : (s.mapPhase f).port = s.port := rfl
@[simp] theorem State.mapPhase_chan (f : PhaseUnit → PhaseUnit) (s : State) : (s.mapPhase f).chan = s.chan := rfl
@[simp] theorem State.mapPhase_link (f : PhaseUnit → PhaseUnit) (s : State) : (s.mapPhase f).link = s.link := rfl
@[simp] theorem State.mapPhase_peers (f : PhaseUnit → PhaseUnit) (s : State) : (s.mapPhase f).peers = s.peers := rfl
@[simp] theorem State.mapPhase_time (f : PhaseUnit → PhaseUnit) (s : State) : (s.mapPhase f).time = s.time := rfl
@[simp] theorem State.mapPhase_phase (f : PhaseUnit → PhaseUnit) (s : State) : (s.mapPhase f).phase = f s.phase := rfl
@[simp] theorem State.mapPhase_seat (f : PhaseUnit → PhaseUnit) (s : State) : (s.mapPhase f).seat = s.seat := rfl
@[simp] theorem State.mapPhase_arb (f : PhaseUnit → PhaseUnit) (s : State) : (s.mapPhase f).arb = s.arb := rfl
@[simp] theorem State.mapPhase_views (f : PhaseUnit → PhaseUnit) (s : State) : (s.mapPhase f).views = s.views := rfl
@[simp] theorem State.mapPhase_req (f : PhaseUnit → PhaseUnit) (s : State) : (s.mapPhase f).req = s.req := rfl
@[simp] theorem State.mapPhase_ref (f : PhaseUnit → PhaseUnit) (s : State) : (s.mapPhase f).ref = s.ref := rfl
@[simp] theorem State.mapPhase_pins (f : PhaseUnit → PhaseUnit) (s : State) : (s.mapPhase f).pins = s.pins := rfl
@[simp] theorem State.mapPhase_localMs (f : PhaseUnit → PhaseUnit) (s : State) : (s.mapPhase f).localMs = s.localMs := rfl
@[simp] theorem State.mapPhase_freeIndex (f : PhaseUnit → PhaseUnit) (s : State) : (s.mapPhase f).freeIndex = s.freeIndex := rfl
@[simp] theorem State.mapPhase_pending (f : PhaseUnit → PhaseUnit) (s : State) : (s.mapPhase f).pending = s.pending := rfl

/-! ## State.mapSeat -/

@[simp] theorem State.mapSeat_port (f : SeatUnit → SeatUnit) (s : State) : (s.mapSeat f).port = s.port := rfl
@[simp] theorem State.mapSeat_chan (f : SeatUnit → SeatUnit) (s : State) : (s.mapSeat f).chan = s.chan := rfl
@[simp] theorem State.mapSeat_link (f : SeatUnit → SeatUnit) (s : State) : (s.mapSeat f).link = s.link := rfl
@[simp] theorem State.mapSeat_peers (f : SeatUnit → SeatUnit) (s : State) : (s.mapSeat f).peers = s.peers := rfl
@[simp] theorem State.mapSeat_time (f : SeatUnit → SeatUnit) (s : State) : (s.mapSeat f).time = s.time := rfl
@[simp] theorem State.mapSeat_phase (f : SeatUnit → SeatUnit) (s : State) : (s.mapSeat f).phase = s.phase := rfl
@[simp] theorem State.mapSeat_seat (f : SeatUnit → SeatUnit) (s : State) : (s.mapSeat f).seat = f s.seat := rfl
@[simp] theorem State.mapSeat_arb (f : SeatUnit → SeatUnit) (s : State) : (s.mapSeat f).arb = s.arb := rfl
@[simp] theorem State.mapSeat_views (f : SeatUnit → SeatUnit) (s : State) : (s.mapSeat f).views = s.views := rfl
@[simp] theorem State.mapSeat_req (f : SeatUnit → SeatUnit) (s : State) : (s.mapSeat f).req = s.req := rfl
@[simp] theorem State.mapSeat_ref (f : SeatUnit → SeatUnit) (s : State) : (s.mapSeat f).ref = s.ref := rfl
@[simp] theorem State.mapSeat_pins (f : SeatUnit → SeatUnit) (s : State) : (s.mapSeat f).pins = s.pins := rfl
@[simp] theorem State.mapSeat_localMs (f : SeatUnit → SeatUnit) (s : State) : (s.mapSeat f).localMs = s.localMs := rfl
@[simp] theorem State.mapSeat_freeIndex (f : SeatUnit → SeatUnit) (s : State) : (s.mapSeat f).freeIndex = s.freeIndex := rfl
@[simp] theorem State.mapSeat_pending (f : SeatUnit → SeatUnit) (s : State) : (s.mapSeat f).pending = s.pending := rfl

/-! ## State.mapArb -/

@[simp] theorem State.mapArb_port (f : Arbiter → Arbiter) (s : State) : (s.mapArb f).port = s.port := rfl
@[simp] theorem State.mapArb_chan (f : Arbiter → Arbiter) (s : State) : (s.mapArb f).chan = s.chan := rfl
@[simp] theorem State.mapArb_link (f : Arbiter → Arbiter) (s : State) : (s.mapArb f).link = s.link := rfl
@[simp] theorem State.mapArb_peers (f : Arbiter → Arbiter) (s : State) : (s.mapArb f).peers = s.peers := rfl
@[simp] theorem State.mapArb_time (f : Arbiter → Arbiter) (s : State) : (s.mapArb f).time = s.time := rfl
@[simp] theorem State.mapArb_phase (f : Arbiter → Arbiter) (s : State) : (s.mapArb f).phase = s.phase := rfl
@[simp] theorem State.mapArb_seat (f : Arbiter → Arbiter) (s : State) : (s.mapArb f).seat = s.seat := rfl
@[simp] theorem State.mapArb_arb (f : Arbiter → Arbiter) (s : State) : (s.mapArb f).arb = f s.arb := rfl
@[simp] theorem State.mapArb_views (f : Arbiter → Arbiter) (s : State) : (s.mapArb f).views = s.views := rfl
@[simp] theorem State.mapArb_req (f : Arbiter → Arbiter) (s : State) : (s.mapArb f).req = s.req := rfl
@[simp] theorem State.mapArb_ref (f : Arbiter → Arbiter) (s : State) : (s.mapArb f).ref = s.ref := rfl
@[simp] theorem State.mapArb_pins (f : Arbiter → Arbiter) (s : State) : (s.mapArb f).pins = s.pins := rfl
@[simp] theorem State.mapArb_localMs (f : Arbiter → Arbiter) (s : State) : (s.mapArb f).localMs = s.localMs := rfl
@[simp] theorem State.mapArb_freeIndex (f : Arbiter → Arbiter) (s : State) : (s.mapArb f).freeIndex = s.freeIndex := rfl
@[simp] theorem State.mapArb_pending (f : Arbiter → Arbiter) (s : State) : (s.mapArb f).pending = s.pending := rfl

/-! ## State.mapViews -/

@[simp] theorem State.mapViews_port (f : List PartnerView → List PartnerView) (s : State) : (s.mapViews f).port = s.port := rfl
@[simp] theorem State.mapViews_chan (f : List PartnerView → List PartnerView) (s : State) : (s.mapViews f).chan = s.chan := rfl
@[simp] theorem State.mapViews_link (f : List PartnerView → List PartnerView) (s : State) : (s.mapViews f).link = s.link := rfl
@[simp] theorem State.mapViews_peers (f : List PartnerView → List PartnerView) (s : State) : (s.mapViews f).peers = s.peers := rfl
@[simp] theorem State.mapViews_time (f : List PartnerView → List PartnerView) (s : State) : (s.mapViews f).time = s.time := rfl
@[simp] theorem State.mapViews_phase (f : List PartnerView → List PartnerView) (s : State) : (s.mapViews f).phase = s.phase := rfl
@[simp] theorem State.mapViews_seat (f : List PartnerView → List PartnerView) (s : State) : (s.mapViews f).seat = s.seat := rfl
@[simp] theorem State.mapViews_arb (f : List PartnerView → List PartnerView) (s : State) : (s.mapViews f).arb = s.arb := rfl
@[simp] theorem State.mapViews_views (f : List PartnerView → List PartnerView) (s : State) : (s.mapViews f).views = f s.views := rfl
@[simp] theorem State.mapViews_req (f : List PartnerView → List PartnerView) (s : State) : (s.mapViews f).req = s.req := rfl
@[simp] theorem State.mapViews_ref (f : List PartnerView → List PartnerView) (s : State) : (s.mapViews f).ref = s.ref := rfl
@[simp] theorem State.mapViews_pins (f : List PartnerView → List PartnerView) (s : State) : (s.mapViews f).pins = s.pins := rfl
@[simp] theorem State.mapViews_localMs (f : List PartnerView → List PartnerView) (s : State) : (s.mapViews f).localMs = s.localMs := rfl
@[simp] theorem State.mapViews_freeIndex (f : List PartnerView → List PartnerView) (s : State) : (s.mapViews f).freeIndex = s.freeIndex := rfl
@[simp] theorem State.mapViews_pending (f : List PartnerView → List PartnerView) (s : State) : (s.mapViews f).pending = s.pending := rfl

/-! ## State.mapReq -/

@[simp] theorem State.mapReq_port (f : RequestUnit → RequestUnit) (s : State) : (s.mapReq f).port = s.port := rfl
@[simp] theorem State.mapReq_chan (f : RequestUnit → RequestUnit) (s : State) : (s.mapReq f).chan = s.chan := rfl
@[simp] theorem State.mapReq_link (f : RequestUnit → RequestUnit) (s : State) : (s.mapReq f).link = s.link := rfl
@[simp] theorem State.mapReq_peers (f : RequestUnit → RequestUnit) (s : State) : (s.mapReq f).peers = s.peers := rfl
@[simp] theorem State.mapReq_time (f : RequestUnit → RequestUnit) (s : State) : (s.mapReq f).time = s.time := rfl
@[simp] theorem State.mapReq_phase (f : RequestUnit → RequestUnit) (s : State) : (s.mapReq f).phase = s.phase := rfl
@[simp] theorem State.mapReq_seat (f : RequestUnit → RequestUnit) (s : State) : (s.mapReq f).seat = s.seat := rfl
@[simp] theorem State.mapReq_arb (f : RequestUnit → RequestUnit) (s : State) : (s.mapReq f).arb = s.arb := rfl
@[simp] theorem State.mapReq_views (f : RequestUnit → RequestUnit) (s : State) : (s.mapReq f).views = s.views := rfl
@[simp] theorem State.mapReq_req (f : RequestUnit → RequestUnit) (s : State) : (s.mapReq f).req = f s.req := rfl
@[simp] theorem State.mapReq_ref (f : RequestUnit → RequestUnit) (s : State) : (s.mapReq f).ref = s.ref := rfl
@[simp] theorem State.mapReq_pins (f : RequestUnit → RequestUnit) (s : State) : (s.mapReq f).pins = s.pins := rfl
@[simp] theorem State.mapReq_localMs (f : RequestUnit → RequestUnit) (s : State) : (s.mapReq f).localMs = s.localMs := rfl
@[simp] theorem State.mapReq_freeIndex (f : RequestUnit → RequestUnit) (s : State) : (s.mapReq f).freeIndex = s.freeIndex := rfl
@[simp] theorem State.mapReq_pending (f : RequestUnit → RequestUnit) (s : State) : (s.mapReq f).pending = s.pending := rfl

/-! ## State.mapRef -/

@[simp] theorem State.mapRef_port (f : RefereeUnit → RefereeUnit) (s : State) : (s.mapRef f).port = s.port := rfl
@[simp] theorem State.mapRef_chan (f : RefereeUnit → RefereeUnit) (s : State) : (s.mapRef f).chan = s.chan := rfl
@[simp] theorem State.mapRef_link (f : RefereeUnit → RefereeUnit) (s : State) : (s.mapRef f).link = s.link := rfl
@[simp] theorem State.mapRef_peers (f : RefereeUnit → RefereeUnit) (s : State) : (s.mapRef f).peers = s.peers := rfl
@[simp] theorem State.mapRef_time (f : RefereeUnit → RefereeUnit) (s : State) : (s.mapRef f).time = s.time := rfl
@[simp] theorem State.mapRef_phase (f : RefereeUnit → RefereeUnit) (s : State) : (s.mapRef f).phase = s.phase := rfl
@[simp] theorem State.mapRef_seat (f : RefereeUnit → RefereeUnit) (s : State) : (s.mapRef f).seat = s.seat := rfl
@[simp] theorem State.mapRef_arb (f : RefereeUnit → RefereeUnit) (s : State) : (s.mapRef f).arb = s.arb := rfl
@[simp] theorem State.mapRef_views (f : RefereeUnit → RefereeUnit) (s : State) : (s.mapRef f).views = s.views := rfl
@[simp] theorem State.mapRef_req (f : RefereeUnit → RefereeUnit) (s : State) : (s.mapRef f).req = s.req := rfl
@[simp] theorem State.mapRef_ref (f : RefereeUnit → RefereeUnit) (s : State) : (s.mapRef f).ref = f s.ref := rfl
@[simp] theorem State.mapRef_pins (f : RefereeUnit → RefereeUnit) (s : State) : (s.mapRef f).pins = s.pins := rfl
@[simp] theorem State.mapRef_localMs (f : RefereeUnit → RefereeUnit) (s : State) : (s.mapRef f).localMs = s.localMs := rfl
@[simp] theorem State.mapRef_freeIndex (f : RefereeUnit → RefereeUnit) (s : State) : (s.mapRef f).freeIndex = s.freeIndex := rfl
@[simp] theorem State.mapRef_pending (f : RefereeUnit → RefereeUnit) (s : State) : (s.mapRef f).pending = s.pending := rfl

/-! ## State.mapPins -/

@[simp] theorem State.mapPins_port (f : Pins → Pins) (s : State) : (s.mapPins f).port = s.port := rfl
@[simp] theorem State.mapPins_chan (f : Pins → Pins) (s : State) : (s.mapPins f).chan = s.chan := rfl
@[simp] theorem State.mapPins_link (f : Pins → Pins) (s : State) : (s.mapPins f).link = s.link := rfl
@[simp] theorem State.mapPins_peers (f : Pins → Pins) (s : State) : (s.mapPins f).peers = s.peers := rfl
@[simp] theorem State.mapPins_time (f : Pins → Pins) (s : State) : (s.mapPins f).time = s.time := rfl
@[simp] theorem State.mapPins_phase (f : Pins → Pins) (s : State) : (s.mapPins f).phase = s.phase := rfl
@[simp] theorem State.mapPins_seat (f : Pins → Pins) (s : State) : (s.mapPins f).seat = s.seat := rfl
@[simp] theorem State.mapPins_arb (f : Pins → Pins) (s : State) : (s.mapPins f).arb = s.arb := rfl
@[simp] theorem State.mapPins_views (f : Pins → Pins) (s : State) : (s.mapPins f).views = s.views := rfl
@[simp] theorem State.mapPins_req (f : Pins → Pins) (s : State) : (s.mapPins f).req = s.req := rfl
@[simp] theorem State.mapPins_ref (f : Pins → Pins) (s : State) : (s.mapPins f).ref = s.ref := rfl
@[simp] theorem State.mapPins_pins (f : Pins → Pins) (s : State) : (s.mapPins f).pins = f s.pins := rfl
@[simp] theorem State.mapPins_localMs (f : Pins → Pins) (s : State) : (s.mapPins f).localMs = s.localMs := rfl
@[simp] theorem State.mapPins_freeIndex (f : Pins → Pins) (s : State) : (s.mapPins f).freeIndex = s.freeIndex := rfl
@[simp] theorem State.mapPins_pending (f : Pins → Pins) (s : State) : (s.mapPins f).pending = s.pending := rfl

/-! ## State.withPending -/

@[simp] theorem State.withPending_port (q : List Instr) (s : State) : (s.withPending q).port = s.port := rfl
@[simp] theorem State.withPending_chan (q : List Instr) (s : State) : (s.withPending q).chan = s.chan := rfl
@[simp] theorem State.withPending_link (q : List Instr) (s : State) : (s.withPending q).link = s.link := rfl
@[simp] theorem State.withPending_peers (q : List Instr) (s : State) : (s.withPending q).peers = s.peers := rfl
@[simp] theorem State.withPending_time (q : List Instr) (s : State) : (s.withPending q).time = s.time := rfl
@[simp] theorem State.withPending_phase (q : List Instr) (s : State) : (s.withPending q).phase = s.phase := rfl
@[simp] theorem State.withPending_seat (q : List Instr) (s : State) : (s.withPending q).seat = s.seat := rfl
@[simp] theorem State.withPending_arb (q : List Instr) (s : State) : (s.withPending q).arb = s.arb := rfl
@[simp] theorem State.withPending_views (q : List Instr) (s : State) : (s.withPending q).views = s.views := rfl
@[simp] theorem State.withPending_req (q : List Instr) (s : State) : (s.withPending q).req = s.req := rfl
@[simp] theorem State.withPending_ref (q : List Instr) (s : State) : (s.withPending q).ref = s.ref := rfl
@[simp] theorem State.withPending_pins (q : List Instr) (s : State) : (s.withPending q).pins = s.pins := rfl
@[simp] theorem State.withPending_localMs (q : List Instr) (s : State) : (s.withPending q).localMs = s.localMs := rfl
@[simp] theorem State.withPending_freeIndex (q : List Instr) (s : State) : (s.withPending q).freeIndex = s.freeIndex := rfl
@[simp] theorem State.withPending_pending (q : List Instr) (s : State) : (s.withPending q).pending = q := rfl

end Sys2Proof.Machine
end

