-- ==== Sys2Proof/Laws/Frames.lean ====
section
/-! SUPPORT. What the shared operations leave alone, said once for each: the operations of the transmit queue, the
notices and the requests keep SameOutsidePlayer; those of the seats, the waiting list and the ring keep
SameOutsideElement. Both relations are reflexive and transitive, so a meaning built of these operations has its frame
by composing their lemmas. -/

namespace Sys2Proof.Machine

/-! ## The relations -/

theorem SameOutsidePlayer.refl (s : State) : SameOutsidePlayer s s := by simp [SameOutsidePlayer]

theorem SameOutsidePlayer.trans {s t u : State} (h : SameOutsidePlayer s t) (k : SameOutsidePlayer t u) :
    SameOutsidePlayer s u := by
  simp only [SameOutsidePlayer] at *
  simp_all

theorem SameOutsideElement.refl (s : State) : SameOutsideElement s s := by simp [SameOutsideElement]

theorem SameOutsideElement.trans {s t u : State} (h : SameOutsideElement s t) (k : SameOutsideElement t u) :
    SameOutsideElement s u := by
  simp only [SameOutsideElement] at *
  simp_all

theorem SameOutsidePlayer.element {s t : State} (h : SameOutsidePlayer s t) : SameOutsideElement s t := by
  simp only [SameOutsidePlayer, SameOutsideElement] at *
  simp_all

/-! ## Flags and notices -/

theorem State.setFlag_player (f : EventFlag) (s : State) : SameOutsidePlayer s (s.setFlag f) := by
  simp [SameOutsidePlayer, State.setFlag]

theorem State.postNotice_player (k : NoticeKind) (i c : Byte) (d : Half) (s : State) :
    SameOutsidePlayer s (s.postNotice k i c d) := by
  unfold State.postNotice
  split <;> simp [SameOutsidePlayer, State.setFlag]

/-! ## Requests and the transmit queue -/

theorem State.setRequest_player (e : NodeId) (f : Request → Request) (s : State) :
    SameOutsidePlayer s (s.setRequest e f) := by
  simp [SameOutsidePlayer, State.setRequest]

theorem State.closeRequest_player (r : Request) (k : NoticeKind) (d : Half) (s : State) :
    SameOutsidePlayer s (s.closeRequest r k d) := by
  have h := State.postNotice_player k (idByte r.element) r.claim d s
  simp_all [SameOutsidePlayer, State.closeRequest]

theorem State.finalMiss_player (r : Request) (s : State) : SameOutsidePlayer s (s.finalMiss r) := by
  unfold State.finalMiss
  split
  · exact State.closeRequest_player ..
  · exact State.closeRequest_player ..
  · exact (State.setRequest_player ..).trans (State.postNotice_player ..)
  · exact State.closeRequest_player ..

theorem State.missWith_player (place : QueuedFrame → State → State)
    (h : ∀ f s, SameOutsidePlayer s (place f s)) (r : Request) (b : TxBody) (s : State) :
    SameOutsidePlayer s (s.missWith place r b) := by
  unfold State.missWith
  split
  · exact State.setRequest_player ..
  · split
    · exact (State.setRequest_player ..).trans (h _ _)
    · exact State.finalMiss_player ..

theorem State.beginContention_player (s : State) : SameOutsidePlayer s s.beginContention := by
  unfold State.beginContention
  split <;> simp [SameOutsidePlayer]

theorem State.enterQueue_player (f : QueuedFrame) (s : State) : SameOutsidePlayer s (s.enterQueue f) := by
  have h (t : State) := State.beginContention_player t
  simp_all [SameOutsidePlayer, State.enterQueue]

theorem State.countDrop_player (s : State) : SameOutsidePlayer s s.countDrop := by
  simp [SameOutsidePlayer, State.countDrop]

theorem State.mapChan_player (f : Channel → Channel) (s : State) : SameOutsidePlayer s (s.mapChan f) := by
  simp [SameOutsidePlayer]

theorem State.discard_player (retry : Request → TxBody → State → State)
    (h : ∀ r b s, SameOutsidePlayer s (retry r b s)) (g : QueuedFrame) (s : State) :
    SameOutsidePlayer s (s.discard retry g) := by
  unfold State.discard
  split
  · exact h _ _ _
  · exact .refl s

theorem State.placeBy_player (retry : Request → TxBody → State → State)
    (h : ∀ r b s, SameOutsidePlayer s (retry r b s)) (f : QueuedFrame) (s : State) :
    SameOutsidePlayer s (s.placeBy retry f) := by
  unfold State.placeBy State.placeFull
  split
  · exact .refl s
  · split
    · exact .refl s
    · split
      · exact State.enterQueue_player ..
      · split
        · split
          · exact (((State.mapChan_player ..).trans (State.countDrop_player _)).trans
              (State.enterQueue_player ..)).trans (State.discard_player _ h ..)
          · exact .refl s
        · exact (State.countDrop_player s).trans (State.discard_player _ h ..)

theorem State.placeWith_player (n : Nat) (f : QueuedFrame) (s : State) : SameOutsidePlayer s (s.placeWith n f) := by
  induction n generalizing f s with
  | zero => exact State.placeBy_player _ (fun _ _ s => .refl s) ..
  | succ n ih => exact State.placeBy_player _ (fun r b s => State.missWith_player _ ih r b s) ..

theorem State.place_player (f : QueuedFrame) (s : State) : SameOutsidePlayer s (s.place f) :=
  State.placeWith_player 5 f s

theorem State.send_player (b : TxBody) (s : State) : SameOutsidePlayer s (s.send b) := State.place_player _ s

theorem State.sendOfRequest_player (b : TxBody) (s : State) : SameOutsidePlayer s (s.sendOfRequest b) :=
  State.place_player _ s

theorem State.miss_player (r : Request) (b : TxBody) (s : State) : SameOutsidePlayer s (s.miss r b) :=
  State.missWith_player _ State.place_player r b s

theorem State.answer_element (p : NodeId) (c : Byte) (a : AnswerBody) (s : State) :
    SameOutsideElement s (s.answer p c a) :=
  (State.send_player _ s).element

/-! ## Seats, standing records and the waiting list -/

theorem State.setSeat_element (n : Nat) (x : Seat) (s : State) : SameOutsideElement s (s.setSeat n x) := by
  simp [SameOutsideElement, State.setSeat]

theorem State.mapArb_element (f : Arbiter → Arbiter) (s : State) : SameOutsideElement s (s.mapArb f) := by
  simp [SameOutsideElement]

theorem State.setRecord_element (p : NodeId) (f : StandingRecord → StandingRecord) (s : State) :
    SameOutsideElement s (s.setRecord p f) := State.mapArb_element _ s

theorem State.charge_element (p : NodeId) (n : Nat) (s : State) : SameOutsideElement s (s.charge p n) :=
  State.setRecord_element ..

theorem State.dropEntry_element (p : NodeId) (s : State) : SameOutsideElement s (s.dropEntry p) :=
  State.mapArb_element _ s

theorem State.ensureRecord_element (p : NodeId) (s : State) : SameOutsideElement s (s.ensureRecord p) := by
  unfold State.ensureRecord
  split
  · exact .refl s
  · exact State.mapArb_element _ s

theorem State.endEntry_element (e : Entry) (r : Reason) (s : State) : SameOutsideElement s (s.endEntry e r) :=
  ((State.dropEntry_element ..).trans (State.setRecord_element ..)).trans (State.answer_element ..)

theorem State.postNotice_element (k : NoticeKind) (i c : Byte) (d : Half) (s : State) :
    SameOutsideElement s (s.postNotice k i c d) :=
  (State.postNotice_player k i c d s).element

theorem State.grant_element (n : Nat) (e : Entry) (s : State) : SameOutsideElement s (s.grant n e) := by
  unfold State.grant
  dsimp only
  refine SameOutsideElement.trans ?_ (State.answer_element ..)
  have h := (((State.dropEntry_element e.player s).trans (State.charge_element e.player
    (s.offer e.offer).cost.toNat _)).trans (State.setSeat_element n (s.grantedSeat e) _)).trans
    (State.postNotice_element .seatGranted (idByte e.player) e.claim (BitVec.ofNat 16 e.hold) _)
  split
  · exact (h.trans (State.setRecord_element ..)).trans (State.mapArb_element ..)
  · exact h.trans (State.setRecord_element ..)

theorem State.resolvePasses_element (n : Nat) (s : State) : SameOutsideElement s (s.resolvePasses n) := by
  induction n generalizing s with
  | zero => exact .refl s
  | succ n ih =>
    unfold State.resolvePasses
    split
    · split
      · exact (State.grant_element ..).trans (ih _)
      · exact .refl s
    · exact .refl s

theorem State.resolve_element (s : State) : SameOutsideElement s s.resolve := State.resolvePasses_element _ s

theorem State.endSeat_element (n : Nat) (r : Reason) (s : State) : SameOutsideElement s (s.endSeat n r) := by
  unfold State.endSeat
  split
  · exact .refl s
  · dsimp only
    refine SameOutsideElement.trans ?_ (State.setSeat_element ..)
    refine SameOutsideElement.trans ?_ (State.postNotice_element ..)
    split <;> split <;>
      first
        | exact ((State.setRecord_element ..).trans (State.answer_element ..)).trans (State.mapArb_element ..)
        | exact (State.setRecord_element ..).trans (State.answer_element ..)
        | exact (State.setRecord_element ..).trans (State.mapArb_element ..)
        | exact State.setRecord_element ..

theorem State.endSeatAndResolve_element (n : Nat) (r : Reason) (s : State) :
    SameOutsideElement s (s.endSeatAndResolve n r) := by
  unfold State.endSeatAndResolve
  dsimp only
  split
  · exact (State.endSeat_element ..).trans (State.resolve_element _)
  · exact State.endSeat_element ..

theorem State.endSeatsWhere_element (test : State → Nat → Claim → Bool) (r : Reason) (l : List Nat) (s : State) :
    SameOutsideElement s (s.endSeatsWhere test r l) := by
  induction l generalizing s with
  | nil => exact .refl s
  | cons n rest ih =>
    unfold State.endSeatsWhere
    dsimp only
    refine SameOutsideElement.trans ?_ (ih _)
    split
    · split
      · exact State.endSeat_element ..
      · exact .refl s
    · exact .refl s

/-! ## A resolution with the gate closed (R46 step 1) -/

theorem State.resolve_gateClosed (s : State) (h : s.gateOpen = false) : s.resolve = s := by
  unfold State.resolve
  cases s.seat.table.length with
  | zero => rfl
  | succ n => simp [State.resolvePasses, h]

end Sys2Proof.Machine
end

