-- ==== Sys2Proof/Laws/Operations.lean ====
section
/-! SUPPORT. What the shared operations do, said once for each: a frame placed where there is room, a notice posted, a
resolution that grants nothing, the end of a seat, a command of the port with the token 0, a bench, a countdown read, a
transaction. -/

namespace Sys2Proof.Machine

/-! ## The transmit queue -/

theorem Channel.raiseExponent_eq (c : Channel) : c.raiseExponent = { c with exponent := min (c.exponent + 1) 7 } := rfl

/-- A contention begins or it does not: only the contention and its exponent can change. -/
theorem State.beginContention_eq (s : State) :
    ∃ k e, s.beginContention = { s with chan := { s.chan with contention := k, exponent := e } } := by
  unfold State.beginContention
  by_cases h : (s.port.nodeState.sends && s.chan.txFrame.isNone && s.chan.contention.isNone &&
    !s.chan.txQueue.isEmpty) = true
  · by_cases k : s.carrier = true
    · exact ⟨_, _, by rw [if_pos h]; simp only [State.mapChan, if_pos k]; rfl⟩
    · exact ⟨_, _, by rw [if_pos h]; simp only [State.mapChan, if_neg k]; rfl⟩
  · exact ⟨_, _, by rw [if_neg h]⟩

/-- A frame enters at the end of the queue; only the contention and its exponent can change besides. -/
theorem State.enterQueue_eq (f : QueuedFrame) (s : State) :
    ∃ k e, s.enterQueue f =
      { s with chan := { s.chan with txQueue := s.chan.txQueue ++ [f], contention := k, exponent := e } } := by
  obtain ⟨k, e, h⟩ := State.beginContention_eq (s.mapChan fun c =>
    { c with txQueue := c.txQueue ++ [f],
             contention := if f.body = .halt then c.contention.map Contention.afterHalt else c.contention })
  exact ⟨k, e, h⟩

/-- R157 case 2: a frame placed with room in the queue enters it. -/
theorem State.place_room (f : QueuedFrame) (s : State) (room : s.chan.txQueue.length < 8)
    (h : s.port.nodeState = .test → f.body.barredInTest = false) (k : f.body ≠ .presence) :
    s.place f = s.enterQueue f := by
  have h' : ¬ (s.port.nodeState = .test ∧ f.body.barredInTest = true) := fun ⟨a, b⟩ => by simp [h a] at b
  simp [State.place, State.placeWith, State.placeBy, h', k, room]

/-- A frame of no request sent with room in the queue. -/
theorem State.send_room (b : TxBody) (s : State) (room : s.chan.txQueue.length < 8)
    (h : s.port.nodeState = .test → b.barredInTest = false) (k : b ≠ .presence) :
    ∃ c e, s.send b = { s with chan := { s.chan with
      txQueue := s.chan.txQueue ++ [{ body := b, ofRequest := false }], contention := c, exponent := e } } := by
  rw [State.send, State.place_room _ _ room h k]
  exact State.enterQueue_eq _ _

/-- A frame of a request sent with room in the queue. -/
theorem State.sendOfRequest_room (b : TxBody) (s : State) (room : s.chan.txQueue.length < 8)
    (h : s.port.nodeState = .test → b.barredInTest = false) (k : b ≠ .presence) :
    ∃ c e, s.sendOfRequest b = { s with chan := { s.chan with
      txQueue := s.chan.txQueue ++ [{ body := b, ofRequest := true }], contention := c, exponent := e } } := by
  rw [State.sendOfRequest, State.place_room _ _ room h k]
  exact State.enterQueue_eq _ _

/-- R158: in TEST an answer is not placed. -/
theorem State.answer_inTest (p : NodeId) (c : Byte) (a : AnswerBody) (s : State) (h : s.port.nodeState = .test) :
    s.answer p c a = s := by
  simp [State.answer, State.send, State.place, State.placeWith, State.placeBy, h, TxBody.barredInTest]

/-- An answer queued with room, outside TEST. -/
theorem State.answer_room (p : NodeId) (c : Byte) (a : AnswerBody) (s : State) (room : s.chan.txQueue.length < 8)
    (h : s.port.nodeState ≠ .test) :
    ∃ k e, s.answer p c a = { s with chan := { s.chan with
      txQueue := s.chan.txQueue ++ [{ body := .answer p c a, ofRequest := false }], contention := k, exponent := e } } :=
  State.send_room _ s room (fun x => absurd x h) (by simp)

/-- The blocks of seats and list are not reached by a frame placed. -/
theorem State.answer_keeps (p : NodeId) (c : Byte) (a : AnswerBody) (s : State) :
    (s.answer p c a).seat = s.seat ∧ (s.answer p c a).arb = s.arb := by
  have h := State.send_player (.answer p c a) s
  simp only [SameOutsidePlayer] at h
  exact ⟨h.2.2.2.1, h.2.2.2.2.1⟩

/-! ## Notices -/

/-- R188: a notice posted with room in the queue. -/
theorem State.postNotice_room (k : NoticeKind) (i c : Byte) (d : Half) (s : State) (h : s.port.notices.length < 16) :
    s.postNotice k i c d = { s with port := { s.port with
      notices := s.port.notices ++ [{ kind := k, id := i, claim := c, detail := d, time := s.fieldMs16 }],
      flags := s.port.flags ||| 8#16 } } := by
  rw [State.postNotice, if_pos h]
  rfl

/-- R188: a notice at a full queue is dropped. -/
theorem State.postNotice_full (k : NoticeKind) (i c : Byte) (d : Half) (s : State) (h : 16 ≤ s.port.notices.length) :
    s.postNotice k i c d = { s with port := { s.port with flags := s.port.flags ||| 16#16 } } := by
  rw [State.postNotice, if_neg (by omega)]
  rfl

/-- A notice reaches the port's notices and flags only. -/
theorem State.postNotice_eq (k : NoticeKind) (i c : Byte) (d : Half) (s : State) :
    ∃ n f, s.postNotice k i c d = { s with port := { s.port with notices := n, flags := f } } := by
  by_cases h : s.port.notices.length < 16
  · exact ⟨_, _, State.postNotice_room k i c d s h⟩
  · exact ⟨_, _, by rw [State.postNotice_full k i c d s (by omega)]⟩

/-! ## What a flag, a notice and a placed frame keep, field by field -/

@[simp] theorem State.setFlag_chan (f : EventFlag) (s : State) : (s.setFlag f).chan = s.chan := rfl
@[simp] theorem State.setFlag_link (f : EventFlag) (s : State) : (s.setFlag f).link = s.link := rfl
@[simp] theorem State.setFlag_peers (f : EventFlag) (s : State) : (s.setFlag f).peers = s.peers := rfl
@[simp] theorem State.setFlag_time (f : EventFlag) (s : State) : (s.setFlag f).time = s.time := rfl
@[simp] theorem State.setFlag_phase (f : EventFlag) (s : State) : (s.setFlag f).phase = s.phase := rfl
@[simp] theorem State.setFlag_seat (f : EventFlag) (s : State) : (s.setFlag f).seat = s.seat := rfl
@[simp] theorem State.setFlag_arb (f : EventFlag) (s : State) : (s.setFlag f).arb = s.arb := rfl
@[simp] theorem State.setFlag_views (f : EventFlag) (s : State) : (s.setFlag f).views = s.views := rfl
@[simp] theorem State.setFlag_req (f : EventFlag) (s : State) : (s.setFlag f).req = s.req := rfl
@[simp] theorem State.setFlag_ref (f : EventFlag) (s : State) : (s.setFlag f).ref = s.ref := rfl
@[simp] theorem State.setFlag_pins (f : EventFlag) (s : State) : (s.setFlag f).pins = s.pins := rfl
@[simp] theorem State.setFlag_localMs (f : EventFlag) (s : State) : (s.setFlag f).localMs = s.localMs := rfl
@[simp] theorem State.setFlag_freeIndex (f : EventFlag) (s : State) : (s.setFlag f).freeIndex = s.freeIndex := rfl
@[simp] theorem State.setFlag_pending (f : EventFlag) (s : State) : (s.setFlag f).pending = s.pending := rfl

@[simp] theorem State.postNotice_chan (k : NoticeKind) (i c : Byte) (d : Half) (s : State) :
    (s.postNotice k i c d).chan = s.chan := by
  obtain ⟨n, f, h⟩ := State.postNotice_eq k i c d s
  rw [h]
@[simp] theorem State.postNotice_link (k : NoticeKind) (i c : Byte) (d : Half) (s : State) :
    (s.postNotice k i c d).link = s.link := by
  obtain ⟨n, f, h⟩ := State.postNotice_eq k i c d s
  rw [h]
@[simp] theorem State.postNotice_peers (k : NoticeKind) (i c : Byte) (d : Half) (s : State) :
    (s.postNotice k i c d).peers = s.peers := by
  obtain ⟨n, f, h⟩ := State.postNotice_eq k i c d s
  rw [h]
@[simp] theorem State.postNotice_time (k : NoticeKind) (i c : Byte) (d : Half) (s : State) :
    (s.postNotice k i c d).time = s.time := by
  obtain ⟨n, f, h⟩ := State.postNotice_eq k i c d s
  rw [h]
@[simp] theorem State.postNotice_phase (k : NoticeKind) (i c : Byte) (d : Half) (s : State) :
    (s.postNotice k i c d).phase = s.phase := by
  obtain ⟨n, f, h⟩ := State.postNotice_eq k i c d s
  rw [h]
@[simp] theorem State.postNotice_seat (k : NoticeKind) (i c : Byte) (d : Half) (s : State) :
    (s.postNotice k i c d).seat = s.seat := by
  obtain ⟨n, f, h⟩ := State.postNotice_eq k i c d s
  rw [h]
@[simp] theorem State.postNotice_arb (k : NoticeKind) (i c : Byte) (d : Half) (s : State) :
    (s.postNotice k i c d).arb = s.arb := by
  obtain ⟨n, f, h⟩ := State.postNotice_eq k i c d s
  rw [h]
@[simp] theorem State.postNotice_views (k : NoticeKind) (i c : Byte) (d : Half) (s : State) :
    (s.postNotice k i c d).views = s.views := by
  obtain ⟨n, f, h⟩ := State.postNotice_eq k i c d s
  rw [h]
@[simp] theorem State.postNotice_req (k : NoticeKind) (i c : Byte) (d : Half) (s : State) :
    (s.postNotice k i c d).req = s.req := by
  obtain ⟨n, f, h⟩ := State.postNotice_eq k i c d s
  rw [h]
@[simp] theorem State.postNotice_ref (k : NoticeKind) (i c : Byte) (d : Half) (s : State) :
    (s.postNotice k i c d).ref = s.ref := by
  obtain ⟨n, f, h⟩ := State.postNotice_eq k i c d s
  rw [h]
@[simp] theorem State.postNotice_pins (k : NoticeKind) (i c : Byte) (d : Half) (s : State) :
    (s.postNotice k i c d).pins = s.pins := by
  obtain ⟨n, f, h⟩ := State.postNotice_eq k i c d s
  rw [h]
@[simp] theorem State.postNotice_localMs (k : NoticeKind) (i c : Byte) (d : Half) (s : State) :
    (s.postNotice k i c d).localMs = s.localMs := by
  obtain ⟨n, f, h⟩ := State.postNotice_eq k i c d s
  rw [h]
@[simp] theorem State.postNotice_freeIndex (k : NoticeKind) (i c : Byte) (d : Half) (s : State) :
    (s.postNotice k i c d).freeIndex = s.freeIndex := by
  obtain ⟨n, f, h⟩ := State.postNotice_eq k i c d s
  rw [h]
@[simp] theorem State.postNotice_pending (k : NoticeKind) (i c : Byte) (d : Half) (s : State) :
    (s.postNotice k i c d).pending = s.pending := by
  obtain ⟨n, f, h⟩ := State.postNotice_eq k i c d s
  rw [h]

@[simp] theorem State.postNotice_nodeState (k : NoticeKind) (i c : Byte) (d : Half) (s : State) :
    (s.postNotice k i c d).port.nodeState = s.port.nodeState := by
  obtain ⟨n, f, h⟩ := State.postNotice_eq k i c d s
  rw [h]
@[simp] theorem State.postNotice_cfg (k : NoticeKind) (i c : Byte) (d : Half) (s : State) :
    (s.postNotice k i c d).port.cfg = s.port.cfg := by
  obtain ⟨n, f, h⟩ := State.postNotice_eq k i c d s
  rw [h]

@[simp] theorem State.send_peers (b : TxBody) (s : State) : (s.send b).peers = s.peers := by
  have h := State.send_player b s
  simp only [SameOutsidePlayer] at h
  exact h.1
@[simp] theorem State.send_time (b : TxBody) (s : State) : (s.send b).time = s.time := by
  have h := State.send_player b s
  simp only [SameOutsidePlayer] at h
  exact h.2.1
@[simp] theorem State.send_phase (b : TxBody) (s : State) : (s.send b).phase = s.phase := by
  have h := State.send_player b s
  simp only [SameOutsidePlayer] at h
  exact h.2.2.1
@[simp] theorem State.send_seat (b : TxBody) (s : State) : (s.send b).seat = s.seat := by
  have h := State.send_player b s
  simp only [SameOutsidePlayer] at h
  exact h.2.2.2.1
@[simp] theorem State.send_arb (b : TxBody) (s : State) : (s.send b).arb = s.arb := by
  have h := State.send_player b s
  simp only [SameOutsidePlayer] at h
  exact h.2.2.2.2.1
@[simp] theorem State.send_views (b : TxBody) (s : State) : (s.send b).views = s.views := by
  have h := State.send_player b s
  simp only [SameOutsidePlayer] at h
  exact h.2.2.2.2.2.1
@[simp] theorem State.send_ref (b : TxBody) (s : State) : (s.send b).ref = s.ref := by
  have h := State.send_player b s
  simp only [SameOutsidePlayer] at h
  exact h.2.2.2.2.2.2.1
@[simp] theorem State.send_pins (b : TxBody) (s : State) : (s.send b).pins = s.pins := by
  have h := State.send_player b s
  simp only [SameOutsidePlayer] at h
  exact h.2.2.2.2.2.2.2.1
@[simp] theorem State.send_localMs (b : TxBody) (s : State) : (s.send b).localMs = s.localMs := by
  have h := State.send_player b s
  simp only [SameOutsidePlayer] at h
  exact h.2.2.2.2.2.2.2.2.1
@[simp] theorem State.send_freeIndex (b : TxBody) (s : State) : (s.send b).freeIndex = s.freeIndex := by
  have h := State.send_player b s
  simp only [SameOutsidePlayer] at h
  exact h.2.2.2.2.2.2.2.2.2.1
@[simp] theorem State.send_pending (b : TxBody) (s : State) : (s.send b).pending = s.pending := by
  have h := State.send_player b s
  simp only [SameOutsidePlayer] at h
  exact h.2.2.2.2.2.2.2.2.2.2.1
@[simp] theorem State.send_cfg (b : TxBody) (s : State) : (s.send b).port.cfg = s.port.cfg := by
  have h := State.send_player b s
  simp only [SameOutsidePlayer] at h
  exact h.2.2.2.2.2.2.2.2.2.2.2.1
@[simp] theorem State.send_nodeState (b : TxBody) (s : State) : (s.send b).port.nodeState = s.port.nodeState := by
  have h := State.send_player b s
  simp only [SameOutsidePlayer] at h
  exact h.2.2.2.2.2.2.2.2.2.2.2.2.1
@[simp] theorem State.send_mask (b : TxBody) (s : State) : (s.send b).port.mask = s.port.mask := by
  have h := State.send_player b s
  simp only [SameOutsidePlayer] at h
  exact h.2.2.2.2.2.2.2.2.2.2.2.2.2.1
@[simp] theorem State.send_spi (b : TxBody) (s : State) : (s.send b).port.spi = s.port.spi := by
  have h := State.send_player b s
  simp only [SameOutsidePlayer] at h
  exact h.2.2.2.2.2.2.2.2.2.2.2.2.2.2

/-! ## Resolutions that grant nothing -/

theorem firstFree_none (n : Nat) (l : List Seat) (h : ∀ x ∈ l, x ≠ .free) : firstFree n l = none := by
  induction l generalizing n with
  | nil => rfl
  | cons x rest ih =>
    have hx : x ≠ .free := h x (by simp)
    simp only [firstFree, if_neg hx]
    exact ih _ fun y hy => h y (by simp [hy])

/-- R46 step 2: with no FREE seat a resolution changes nothing. -/
theorem State.resolve_noFree (s : State) (h : ∀ x ∈ s.seat.table, x ≠ .free) : s.resolve = s := by
  unfold State.resolve
  cases s.seat.table.length with
  | zero => rfl
  | succ n => simp [State.resolvePasses, firstFree_none 0 _ h]

/-- R46 step 3: with no entry to choose a resolution changes nothing. -/
theorem State.resolve_noneChosen (s : State) (h : s.chosen = none) : s.resolve = s := by
  unfold State.resolve
  cases s.seat.table.length with
  | zero => rfl
  | succ n =>
    unfold State.resolvePasses
    split
    · split <;> simp_all
    · rfl

/-! ## The end of a seat (R12) -/

/-- R12 step 6: after its end the seat is CLEARING, or FREE without a clearing time; the other seats are kept. -/
theorem State.endSeat_seat (n : Nat) (r : Reason) (s : State) (c : Claim)
    (h : (s.seatAt n).bind Seat.claim? = some c) :
    (s.endSeat n r).seat = { s.seat with table := s.seat.table.set n s.endedSeat } := by
  have seat (t : State) (k : NoticeKind) (i x : Byte) (d : Half) : (t.postNotice k i x d).seat = t.seat := by
    have h := State.postNotice_player k i x d t
    simp only [SameOutsidePlayer] at h
    exact h.2.2.2.1
  simp only [State.endSeat, h, State.setSeat, State.mapSeat]
  rw [seat]
  split <;> split <;> simp [State.setRecord, (State.answer_keeps ..).1]

/-! ## Commands of the port (R182) -/

/-- A command row with the token 0 hands its command over and completes it. -/
theorem State.command_handed (code : Byte) (args : List Byte) (act : State → Completion) (s : State)
    (h : s.port.token = 0) : s.command code args act = (act (s.handOver code args)).finish := by
  simp [State.command, h]

/-- R182: handing a command over in a block that holds it already writes the token alone. -/
theorem State.handOver_held (code : Byte) (args : List Byte) (s : State) (h : s.holds code args = true) :
    s.handOver code args = { s with port := { s.port with token := 1 } } := by
  have hb : s.port.block.take (args.length + 1) = code :: args := of_decide_eq_true h
  simp only [State.handOver, State.mapPort, ← hb, List.take_append_drop]

/-- R182: the row of a command that the block holds does the same at every token. -/
theorem State.command_held (code : Byte) (args : List Byte) (act : State → Completion) (s : State) (token : Byte)
    (h : s.holds code args = true) : State.command code args act { s with port := { s.port with token := token } } =
      (act { s with port := { s.port with token := 1 } }).finish := by
  have k : State.holds code args { s with port := { s.port with token := token } } = true := h
  rw [State.command, if_pos (Or.inr k), State.handOver_held _ _ _ k]

/-- R182: the token's value is nothing to the command that is taken. -/
theorem State.takeHanded_token (s : State) (token : Byte) :
    State.takeHanded { s with port := { s.port with token := token } } = s.takeHanded := rfl

/-- R183: a refusal leaves every block but the port as it was, and the port but for the completion. -/
theorem refuse_finish (r : ResultCode) (code : Byte) (args : List Byte) (s : State) :
    Refused s (refuse r (s.handOver code args)).finish r := by
  cases r <;>
    simp [Refused, Shows, SameOutsidePort, SamePort, OnlyDone, refuse, Completion.finish, State.handOver, State.setFlag,
      State.hasFlag, EventFlag.bit, ResultCode.code]

/-- R182: a command that is acted without a change shows its reply and changes nothing but the completion. -/
theorem done_finish (reply : List Byte) (code : Byte) (args : List Byte) (s t : State)
    (h : t = s.handOver code args) :
    Shows (done t reply).finish .done reply ∧ SameOutsidePort s (done t reply).finish ∧
      SamePort s (done t reply).finish ∧ OnlyDone s (done t reply).finish := by
  subst h
  simp [Shows, SameOutsidePort, SamePort, OnlyDone, done, Completion.finish, State.handOver, State.setFlag,
    State.hasFlag, EventFlag.bit, ResultCode.code]

/-! ## The codes of the stored configuration -/

theorem roleOfCode_player (c : Byte) : roleOfCode c.toNat = some .player ↔ c = 0 := by revert c; decide

theorem roleOfCode_element (c : Byte) : roleOfCode c.toNat = some .element ↔ c = 1 := by revert c; decide

theorem roleOfCode_referee (c : Byte) : roleOfCode c.toNat = some .referee ↔ c = 2 := by revert c; decide

theorem offerKindOfCode_renewable (c : Byte) : offerKindOfCode c.toNat = some .renewable ↔ c = 1 := by
  revert c; decide

theorem offerKindOfCode_metered (c : Byte) : offerKindOfCode c.toNat = some .metered ↔ c = 2 := by revert c; decide

theorem State.metered_eq (s : State) (i : Nat) : s.metered i = decide ((s.port.cfg.offer i).kind = 2) := by
  simp only [State.metered, State.offer, OfferSlot.offerKind, offerKindOfCode_metered]

theorem State.ringMode_rotateOnGrant (s : State) : s.ringMode = .rotateOnGrant ↔ s.port.cfg.ringMode = 2 := by
  have h : ∀ c : Byte, (ringModeOfCode c.toNat).getD .queue = .rotateOnGrant ↔ c = 2 := by decide
  exact h _

theorem State.ringMode_rotateOnRelease (s : State) : s.ringMode = .rotateOnRelease ↔ s.port.cfg.ringMode = 3 := by
  have h : ∀ c : Byte, (ringModeOfCode c.toNat).getD .queue = .rotateOnRelease ↔ c = 3 := by decide
  exact h _

/-! ## Resolutions -/

/-- The seat that a grant takes is FREE. -/
theorem firstFree_free (m n : Nat) (l : List Seat) (h : firstFree m l = some n) : l[n - m]? = some .free ∧ m ≤ n := by
  induction l generalizing m with
  | nil => simp [firstFree] at h
  | cons x l ih =>
    simp only [firstFree] at h
    split at h
    · cases h; simp_all
    · have := ih _ h
      refine ⟨?_, by omega⟩
      rw [show n - m = (n - (m + 1)) + 1 by omega]
      simpa using this.1

/-- R46 steps 4 to 9: a grant changes the seat table at its seat alone. -/
theorem State.grant_table (n : Nat) (e : Entry) (s : State) :
    (s.grant n e).seat.table = s.seat.table.set n (s.grantedSeat e) := by
  simp only [State.grant]
  rw [(State.answer_keeps ..).1]
  split <;> simp [State.setRecord, State.setSeat, State.charge, State.dropEntry]

/-- A resolution leaves the length of the table and every seat that is not FREE. -/
theorem State.resolvePasses_keepsOccupied (k : Nat) (s : State) :
    (s.resolvePasses k).seat.table.length = s.seat.table.length ∧
      ∀ (j : Nat) (x : Seat), s.seat.table[j]? = some x → x ≠ .free → (s.resolvePasses k).seat.table[j]? = some x := by
  induction k generalizing s with
  | zero => exact ⟨rfl, fun _ _ h _ => h⟩
  | succ k ih =>
    unfold State.resolvePasses
    split
    · split
      · rename_i n e hn he
        have hf := (firstFree_free 0 n _ hn).1
        obtain ⟨i1, i2⟩ := ih (s.grant n e)
        refine ⟨by rw [i1, State.grant_table]; simp, fun j x h h1 => i2 _ _ ?_ h1⟩
        rw [State.grant_table, List.getElem?_set]
        split
        · rename_i hh; subst hh; simp at hf; rw [hf] at h; simp_all
        · exact h
      · exact ⟨rfl, fun _ _ h _ => h⟩
    · exact ⟨rfl, fun _ _ h _ => h⟩

/-- With no entry waiting none is chosen. -/
theorem State.chosen_noneWaiting (s : State) (h : s.arb.waiting = []) : s.chosen = none := by
  simp only [State.chosen]
  split
  · simp [h]
  · simp [State.entry, h]

/-! ## The bench, the countdown and the transaction -/

/-- R89, R57: benched is a bench remaining above 0, whatever mark an earlier bench has left. -/
@[simp] theorem RequestUnit.benched_iff (u : RequestUnit) : u.benched = true ↔ 0 < u.bench := by
  simp [RequestUnit.benched]

@[simp] theorem StandingRecord.benched_iff (r : StandingRecord) : r.benched = true ↔ 0 < r.bench := by
  simp [StandingRecord.benched]

/-- R160, R167: whatever the free value, a read of a countdown with slots left finds at least one of them left. -/
theorem Contention.read_remaining (free : Nat) (k : Contention) (r : Nat) (h : k.remaining = some r) (hr : 0 < r) :
    ∃ r', (k.read free).remaining = some r' ∧ 1 ≤ r' ∧ r' ≤ r := by
  cases hb : k.slots with
  | none => simp [Contention.remaining, hb] at h
  | some b =>
    have hb' : b - k.passed = r := by simpa [Contention.remaining, hb] using h
    have hm := Nat.mod_lt free hr
    refine ⟨b - (k.passed + free % r), ?_, by omega, by omega⟩
    simp [Contention.read, Contention.remaining, hb, hb']

/-- A READ_LINK moves nothing but the slots found counted and the free-value index. -/
theorem State.readCountdown_eq (s : State) :
    ∃ k i, s.readCountdown = { s with chan := { s.chan with contention := k }, freeIndex := i } := by
  unfold State.readCountdown
  split
  · split
    · exact ⟨_, _, rfl⟩
    · exact ⟨s.chan.contention, s.freeIndex, rfl⟩
  · exact ⟨s.chan.contention, s.freeIndex, rfl⟩

/-- R180: a capture changes the transaction in progress alone. -/
theorem State.spiCapture_eq (s : State) : ∃ x, s.spiCapture = { s with port := { s.port with spi := x } } := by
  unfold State.spiCapture
  split
  · exact ⟨_, rfl⟩
  all_goals exact ⟨s.port.spi, rfl⟩

/-- R180: the bytes of a read change the transaction in progress alone. -/
theorem State.spiByte_reading (s : State) (b : Byte) (o : BitVec 7) (f m : Option Half)
    (h : s.port.spi = some (.reading o f m)) :
    s.spiByte b = { s with port := { s.port with spi := some (.reading (o + 1) f m) } } := by
  simp [State.spiByte, h, State.mapPort]

/-- R153: TXD is low while TXEN is. -/
theorem State.txd_of_txen_low (s : State) (bit : Nat) (h : s.txen = false) : s.txd bit = false := by
  have hr : s.radiated = none := by simpa [State.txen] using h
  simp [State.txd, hr]

end Sys2Proof.Machine
end

