-- ==== Sys2Proof/Tests/Slice0.lean ====
section
/-! SUPPORT. Tests of the model: ill-formed commands, single steps on small states (most from the spec's worked
examples), and for every statement with hypotheses a state that meets them, at the ends of its ranges. -/

open Sys2Proof Sys2Proof.Machine

namespace Sys2Proof.Tests

/-! ## Ill-formed commands -/

theorem test_wf_refuses_a_fifth_seat :
    (Instr.guardExpiry 4).wf = false ∧ (Instr.holdExpiry 4).wf = false ∧ (Instr.pulseCountdownExpiry 4).wf = false ∧
    (Instr.pulseEnd 4).wf = false ∧ (Instr.senseReleaseExpiry 4).wf = false ∧ (Instr.clearingExpiry 4).wf = false ∧
    (Instr.silentHolderSenseLost 4).wf = false ∧ (Instr.guardExpiry 3).wf = true := by decide

theorem test_wf_refuses_the_flag_and_mask_offsets :
    (Instr.portWrite 96 1).wf = false ∧ (Instr.portWrite 99 1).wf = false ∧ (Instr.portWrite 95 1).wf = true ∧
    (Instr.portWrite 100 1).wf = true := by decide

theorem test_wf_refuses_a_named_code :
    (Instr.unknownCommand 16).wf = false ∧ (Instr.unknownCommand 105).wf = false ∧
    (Instr.unknownCommand 0).wf = true ∧ (Instr.unknownCommand 22).wf = true := by decide

theorem test_wf_refuses_more_slots_than_a_draw :
    (Instr.carrierDetectRise 128).wf = false ∧ (Instr.carrierDetectRise 127).wf = true := by decide

theorem test_wf_refuses_frames_no_channel_carries :
    (Instr.frameReceived []).wf = false ∧ (Instr.frameReceived (List.replicate 60 0)).wf = false ∧
    (Instr.frameReceived [0]).wf = true ∧ (Instr.frameReceived (List.replicate 59 0)).wf = true := by decide

theorem test_wf_of_a_command_without_limits : (Instr.ask 255 255 65535).wf = true := by decide

/-! ## Small states -/

/-- The state after a command. -/
def after (c : Instr) (s : State) : State :=
  match exec c s with
  | .next t => t
  | .refused _ => s

/-- A node in RUNNING and DRIVER with phase seq 3, LOCKED at level 1, at field ms 60,900. -/
def running (cfg : StoredConfig) : State :=
  { State.reset with
    port := { Port.reset with nodeState := .running, cfg := cfg, flags := 0 },
    phase := { PhaseUnit.reset with phase := .driver, currentPhase := .driver, seq := 3, fresh := false },
    time := { FieldTime.reset with ft := 60900000, align := .locked, level := 1 },
    localMs := 60900 }

/-- The lift of 02_the_waiting_list_and_grant_resolution.md section 2.8. -/
def liftConfig : StoredConfig :=
  { StoredConfig.reset with
    nodeId := 20, role := 1, offerCount := 1, budgetBase := 10, ringMode := 3, clearing := 500,
    offer0 := { kind := 0, maxHold := 5000, cost := 2, openPhases := 2, restriction := 0, pulsePeriod := 0 } }

def robotConfig : StoredConfig := { StoredConfig.reset with nodeId := 7, role := 0, alliance := 1 }

def panelConfig : StoredConfig := { StoredConfig.reset with nodeId := 1, role := 2, source := 1 }

/-- A standing record with an engagement. -/
def record (player : NodeId) (budget : Nat) (e : Engagement) : StandingRecord :=
  { player := player, budget := budget, bench := 0, benchEnding := false, ejected := false, silent := false,
    engagement := e, lastEnded := none }

/-- Player 3's claim 12 on seat 0. -/
def claim12 : Claim :=
  { player := 3, number := 12, offer := 0, granted := 5000, hold := 4000, mark := 59900, countdown := 0, renews := 0 }

def entry9 : Entry := { player := 9, claim := 40, offer := 0, hold := 3000, refreshed := 60500 }

def entry7 : Entry := { player := 7, claim := 88, offer := 0, hold := 5000, refreshed := 60600 }

/-- The lift with seat 0 in a given state and the waiting list and ring of the example. -/
def lift (x : Seat) : State :=
  { running liftConfig with
    seat := { SeatUnit.reset with table := [x] },
    arb := { Arbiter.reset with
      waiting := [entry9, entry7], ring := [record 3 8 (.seated 0), record 7 10 .waiting, record 9 10 .waiting] } }

/-- The lift with seat 0 HELD by player 3. -/
def liftHeld : State := lift (.held claim12 none 0 false)

/-- A request of player 7 to element 20. -/
def request (st : RequestState) : Request :=
  { element := 20, offer := 0, claim := 13, hold := 0, state := st, tries := 3, deadline := none, waitFrame := none,
    refreshDue := none, position := 0, count := 0, seat := 0, granted := 0, countdown := 0, margin := none,
    renewPending := false }

/-- What player 7 has heard of element 20: one seat that player 7 holds, one RENEWABLE offer. -/
def heard20 : ViewEntry :=
  { seats := [{ state := 2, holder := some 7, mark := 0, claim := none }], waiting := 0,
    offers := [{ kind := 1, openNow := true, restriction := 0, cost := 2, maxHold := 5000 }], lastHeard := 60800,
    silent := false }

/-- Player 7 with a list of requests. -/
def robot (list : List Request) : State :=
  { running robotConfig with
    req := { RequestUnit.reset with view := [(20, heard20)], list := list, claimCounter := 12 } }

def panel : State := running panelConfig

/-- A header of a node that is no candidate for reference, with the phase and seq of `running`. -/
def headerFrom (sender : NodeId) (role alliance : BitVec 2) (kind : BitVec 4) : Header :=
  { kind := kind, level := 6, halted := false, sender := sender, role := role, alliance := alliance, phase := 2,
    align := 0, test := false, seq := 3, stamp := 60900000 }

def frameFrom (sender : NodeId) (role alliance : BitVec 2) (kind : BitVec 4) (body : List Byte) : RxFrame :=
  { header := headerFrom sender role alliance kind, body := body, stamp := 60900000 }

/-- The state with one frame in the receive queue. -/
def withFrame (f : RxFrame) (s : State) : State := { s with chan := { s.chan with rxQueue := [f] } }

/-- The state in another node state. -/
def inState (n : NodeState) (s : State) : State := { s with port := { s.port with nodeState := n } }

/-- The state with a test of a kind. -/
def testing (k : TestKind) (s : State) : State :=
  { s with port := { s.port with nodeState := .test }, link := { s.link with testKind := some k } }

/-- The state with a full transmit queue but for one place, or none. -/
def crowded (n : Nat) (s : State) : State :=
  { s with chan := { s.chan with txQueue := List.replicate n { body := .mark 0 .driver 0, ofRequest := false } } }

/-- The state with another contention. -/
def contending (k : Option Contention) (s : State) : State := { s with chan := { s.chan with contention := k } }

theorem arrives_of {s : State} {f : RxFrame} {k : BitVec 4} (rest : List RxFrame) (h : s.chan.rxQueue = f :: rest)
    (hk : f.header.kind = k ∧ f.header.sender ≠ s.port.cfg.nodeId.setWidth 6 ∧ f.header.role ≠ 3 ∧
      f.header.alliance ≠ 3) : Arrives s f k := ⟨⟨rest, h⟩, hk⟩

theorem ne_some_of_none {α : Type} {x : Option α} (h : x = none) (y : α) : x ≠ some y := by simp [h]

/-- A player on seat 0 holds no lower seat. -/
theorem holds_seat_0 {u : State} {p : NodeId} {c : Claim} (h : claimAt u 0 = some c) (hp : c.player = p) :
    HoldsSeat u p 0 c := ⟨h, hp, fun m _ hm => absurd hm (Nat.not_lt_zero m)⟩

theorem not_seated_under {u : State} {p : NodeId} {claim : Byte}
    (h : ∀ n, n < u.seat.table.length → ∀ c, claimAt u n = some c → c.player = p → c.number ≠ claim) :
    ¬ SeatedUnder u p claim := by
  rintro ⟨n, c, ⟨hc, hp, _⟩, hn⟩
  refine h n ?_ c hc hp hn
  unfold claimAt at hc
  rcases Nat.lt_or_ge n u.seat.table.length with hl | hl
  · exact hl
  · simp [List.getElem?_eq_none hl] at hc

/-- With one seat, not the player's under the claim, nothing of the player is seated under it. -/
theorem not_seated_under_of_one {u : State} {p : NodeId} {claim : Byte} (h1 : u.seat.table.length = 1)
    (h : (claimAt u 0).all (fun c => decide (c.player ≠ p ∨ c.number ≠ claim)) = true) : ¬ SeatedUnder u p claim := by
  refine not_seated_under fun n hn c hc hp => ?_
  have h0 : n = 0 := by omega
  subst h0
  rw [hc] at h
  simpa [hp] using h

/-- With one seat, a claim that is neither on it nor in the player's entry. -/
theorem past_or_new {u : State} {p : NodeId} {claim : Byte} (h1 : u.seat.table.length = 1)
    (h : (claimAt u 0).all (fun c => decide (c.player ≠ p ∨ c.number ≠ claim)) = true)
    (he : (entryOf u p).all (fun e => decide (e.claim ≠ claim)) = true) : PastOrNew u p claim :=
  ⟨not_seated_under_of_one h1 h, fun e h' => by rw [h'] at he; simpa using he⟩

/-- With one seat, a player that is not on it holds none. -/
theorem holds_no_seat_of_one {u : State} {p : NodeId} (h1 : u.seat.table.length = 1)
    (h : (claimAt u 0).all (fun c => decide (c.player ≠ p)) = true) (n : Nat) (c : Claim) : ¬ HoldsSeat u p n c := by
  rintro ⟨hc, hp, _⟩
  rcases Nat.lt_or_ge n 1 with hn | hn
  · have h0 : n = 0 := by omega
    subst h0
    rw [hc] at h
    simp [hp] at h
  · simp [claimAt, List.getElem?_eq_none (h1 ▸ hn)] at hc

/-! ## Worked examples of the spec -/

/-- 9.6: node 5's generator goes from 1,286 to 2,573, 5,146 and 10,292. -/
theorem test_backoff_of_node_5 :
    backoffStep 1286 = 2573 ∧ backoffStep 2573 = 5146 ∧ backoffStep 5146 = 10292 := by decide

/-- 9.6: on entry to RUNNING at local ms 1,000 the next PRESENCE is due at 1,263. -/
theorem test_first_presence_of_node_5 :
    let s := { inState .listening State.reset with localMs := 1000, chan := { Channel.reset with backoff := 1286 } }
    (after .listenEnd s).chan.presenceDue = some 1263 ∧ (after .listenEnd s).nodeState = .running ∧
      (after .listenEnd s).chan.contention = some { gapDone := false, gapCount := 0, slots := none, passed := 0 } := by
  decide +kernel

/-- 9.6: the draw of two slots, and of twenty with k = 5; thirteen left after seven are counted. -/
theorem test_contentions_of_node_5 :
    (after .idleGapComplete (contending (some { gapDone := false, gapCount := 0, slots := none, passed := 0 })
      { crowded 1 panel with chan := { (crowded 1 panel).chan with backoff := 2573 } })).chan.contention =
        some { gapDone := true, gapCount := 32, slots := some 2, passed := 0 } ∧
    (after .idleGapComplete (contending (some { gapDone := false, gapCount := 0, slots := none, passed := 0 })
      { crowded 1 panel with chan := { (crowded 1 panel).chan with backoff := 5146, exponent := 5 } })
      ).chan.contention = some { gapDone := true, gapCount := 32, slots := some 20, passed := 0 } ∧
    (after (.carrierDetectRise 7) (contending (some { gapDone := true, gapCount := 32, slots := some 20, passed := 0 }) panel)
      ).chan.contention = some { gapDone := false, gapCount := 0, slots := some 13, passed := 0 } := by decide +kernel

/-- 5.8: the trim and the nudge of e = +180 and e = -7. -/
def aligning (ft : Nat) (trim : Int) : State :=
  { running robotConfig with
    time := { FieldTime.reset with ft := ft, trim := trim, align := .locked, level := 1, reference := some 1,
                                   lockCount := 4 } }

/-- A HALT frame of the time source whose stamp is the given one, received as FT stood at `ft`. -/
def sampleFrame (stamp : Quad) (ft : Nat) : RxFrame :=
  { header := { headerFrom 1 2 0 8 with level := 0, align := 2, stamp := stamp }, body := [],
    stamp := BitVec.ofNat 32 ft }

theorem test_sample_of_180_us :
    let t := after .haltFrame (withFrame (sampleFrame 1000168 1000000) (aligning 1000000 0))
    t.time.ft = 1000045 ∧ t.time.trim = 8 ∧ t.time.stall = 0 ∧ t.time.align = .locked := by decide +kernel

theorem test_sample_of_minus_7_us :
    let t := after .haltFrame (withFrame (sampleFrame 1000493 1000512) (aligning 1000512 16))
    t.time.ft = 1000512 ∧ t.time.trim = 16 ∧ t.time.stall = 1 ∧ (after (.ftAdvance 0) t).time.ft = 1001511 := by
  decide +kernel

/-- 5.9: a step of +2,500 moves FT at once, one of -3,000 is a stall. -/
theorem test_step_and_stall :
    let up := after .haltFrame (withFrame (sampleFrame 1002888 1000400) (aligning 1000400 0))
    let down := after .haltFrame (withFrame (sampleFrame 996988 1000000) (aligning 1000000 0))
    up.time.ft = 1002900 ∧ up.time.align = .acquiring ∧ up.time.level = 7 ∧ up.time.lastCause = .lockLost ∧
      down.time.ft = 1000000 ∧ down.time.stall = 3000 ∧ (after (.ftAdvance 0) down).time.stall = 2000 := by
  decide +kernel

/-- 6.7: the boundary across the 32-bit wrap. -/
theorem test_boundary_across_the_wrap : rebuildBoundary 4294510000 532704 = 4295500000 := by decide

/-- R119: of two candidates equally near, the later. -/
theorem test_boundary_of_two_equally_near : rebuildBoundary (2 ^ 31 + 7) 7 = 2 ^ 32 + 7 := by decide

/-- 6.7: SEND_MARK with lead 1,000 carries the low 32 bits. -/
theorem test_mark_across_the_wrap :
    let t := after (.sendMark 2 1000) { panel with time := { panel.time with ft := 4294500000 } }
    t.ref.marks = some { seq := 4, phase := .driver, carried := 532704, copies := 2, due := 60920 } ∧
      t.phase.pending = some { seq := 4, phase := .driver, boundary := 4295500000, carried := 532704 } := by
  decide +kernel

/-- 2.8: the YIELD of player 3 ends its seat and moves it to the tail. -/
theorem test_yield_rotates_on_release :
    let t := after .yieldFrame (withFrame (frameFrom 3 0 1 3 [20, 12]) liftHeld)
    t.seat.table = [.clearing 500] ∧ t.arb.ring.map (·.player) = [7, 9, 3] ∧
      (t.arb.ring.map (·.lastEnded)) = [none, none, some (12, .yielded)] ∧
      t.chan.txQueue = [{ body := .answer 3 12 (.ended 1), ofRequest := false }] := by decide +kernel

/-- 2.8: the freed seat goes to player 7, nearest the head of the ring; in QUEUE it goes to player 9. -/
theorem test_freed_seat_follows_the_ring_mode :
    let s := { lift (.clearing 0) with time := { (lift .free).time with ft := 61500000 } }
    let q := { s with port := { s.port with cfg := { s.port.cfg with ringMode := 0 } } }
    (after (.clearingExpiry 0) s).holders = [7] ∧ (after (.clearingExpiry 0) q).holders = [9] ∧
      (after (.clearingExpiry 0) s).arb.waiting = [entry9] ∧
      (after (.clearingExpiry 0) s).arb.ring.map (·.budget) = [8, 8, 10] ∧
      (after (.clearingExpiry 0) s).chan.txQueue =
        [{ body := .answer 7 88 (.granted 0 5000 61500), ofRequest := false }] := by decide +kernel

/-- 2.8: a refresh from 7 is answered WAITING(1, 2), one from 9 WAITING(2, 2). -/
theorem test_positions_follow_the_ring :
    (after .askFrame (withFrame (frameFrom 7 0 1 2 [20, 88, 0, 0, 0]) liftHeld)).chan.txQueue =
      [{ body := .answer 7 88 (.waiting 1 2), ofRequest := false }] ∧
    (after .askFrame (withFrame (frameFrom 9 0 1 2 [20, 40, 0, 0, 30]) liftHeld)).chan.txQueue =
      [{ body := .answer 9 40 (.waiting 2 2), ofRequest := false }] := by decide +kernel

/-- R42, R55: TURN rotates the ring, and the order's repeat changes nothing more. -/
theorem test_turn_brings_player_7_to_the_head :
    let s := { liftHeld with peers := { liftHeld.peers with referees := [{ id := 1, lastSeq := some 4, ad := none }] } }
    let t := after .turnFrame (withFrame (frameFrom 1 2 0 7 [5, 20, 7]) s)
    let again := after .turnFrame (withFrame (frameFrom 1 2 0 7 [5, 20, 7]) t)
    t.arb.ring.map (·.player) = [7, 9, 3] ∧ t.port.notices.map (·.kind) = [.turnTaken] ∧ again.arb = t.arb ∧
      again.port.notices = t.port.notices := by decide +kernel

/-- 1.10: the dispenser's pulse, its end, and the expiry that comes before BUDGET_SPENT. -/
def dispenser (hold countdown budget : Nat) (pulse : Option Nat) : State :=
  let c : Claim := { player := 30, number := 17, offer := 0, granted := 1000, hold := hold, mark := 20000,
                     countdown := countdown, renews := 0 }
  { running { liftConfig with
      nodeId := 12, budgetBase := 3, clearing := 200, ringMode := 0,
      offer0 := { kind := 2, maxHold := 1000, cost := 2, openPhases := 6, restriction := 0, pulsePeriod := 500 } } with
    seat := { SeatUnit.reset with table := [.held c pulse 0 false] },
    arb := { Arbiter.reset with ring := [record 30 budget (.seated 0)] } }

theorem test_pulse_of_the_dispenser :
    let t := after (.pulseCountdownExpiry 0) (dispenser 500 0 1 none)
    t.arb.ring.map (·.budget) = [0] ∧ t.seatOut 0 = true ∧ (dispenser 500 0 1 none).seatOut 0 = false ∧
      t.seat.table = (dispenser 500 500 0 (some 50)).seat.table := by decide +kernel

/-- R11: a pulse with no time left has ended, though its PULSE_END is still to come: the output is off, and READ_SEATS shows
no pulse and the same bytes as after it. -/
theorem test_a_pulse_with_no_time_left_is_off :
    (dispenser 500 500 0 (some 1)).seatOut 0 = true ∧ (dispenser 500 500 0 (some 0)).seatOut 0 = false ∧
    (dispenser 500 500 0 none).seatOut 0 = false ∧
    (after (.readSeats 0) (dispenser 500 500 0 (some 0))).port.reply =
      (after (.readSeats 0) (dispenser 500 500 0 none)).port.reply ∧
    (after (.readSeats 0) (dispenser 500 500 0 (some 1))).port.reply ≠
      (after (.readSeats 0) (dispenser 500 500 0 none)).port.reply := by decide +kernel

theorem test_expiry_of_the_dispenser :
    (after (.pulseCountdownExpiry 0) (dispenser 0 0 0 none)).arb.ring.map (·.lastEnded) = [some (17, .expired)] ∧
    (after (.pulseCountdownExpiry 0) (dispenser 500 0 0 none)).arb.ring.map (·.lastEnded) = [some (17, .budgetSpent)] ∧
    (after (.holdExpiry 0) (dispenser 0 0 0 none)).seat.table = [.clearing 200] ∧
    (after (.pulseEnd 0) (dispenser 450 450 0 (some 0))).seatOut 0 = false := by decide +kernel

/-- One local ms counts hold, countdown and pulse while running, and the pulse alone under the halt latch. -/
theorem test_a_local_ms_of_the_dispenser :
    let s := dispenser 500 500 0 (some 50)
    (after (.ftAdvance 0) s).seat.table = (dispenser 499 499 0 (some 49)).seat.table ∧
    (after (.ftAdvance 0) { s with phase := { s.phase with latch := true } }).seat.table =
      (dispenser 500 500 0 (some 49)).seat.table := by decide +kernel

/-- 11.9: one ASK through the port. -/
theorem test_ask_through_the_port :
    let t := after (.ask 20 0 0) (robot [])
    t.port.token = 0 ∧ t.port.reply.take 1 = [13] ∧ t.req.list = [request .asking] ∧
      t.chan.txQueue = [{ body := .ask 20 13 false 0 0, ofRequest := true }] := by decide +kernel

/-- 11.9: the same ASK as one transaction; run on over the whole area it is an overrun, and the same command is taken. -/
theorem test_ask_as_a_transaction :
    let ask : List Byte := [32, 20, 0, 0, 0] ++ List.replicate 26 0 ++ [1]
    let t := (robot []).transaction 0 ask
    let u := (robot []).transaction 0 (ask ++ List.replicate 97 0)
    t = after (.ask 20 0 0) (robot []) ∧ u.req = t.req ∧ u.port.block = t.port.block ∧
      u.hasFlag .commandOverrun = true ∧ (robot []).transaction 0x80 ask = robot [] ∧
      (robot []).transaction 0 [] = robot [] ∧ State.readBytes 96 4 State.reset = [0, 1, 0xFF, 0xFF] := by decide +kernel

/-- 10.8: an inserted error inverts the first bit of the next PATTERN, and the checker counts one bit error. -/
theorem test_inserted_error_is_counted_once :
    let q : QueuedFrame := { body := .pattern (patternBytes 32 32767) 0, ofRequest := false }
    let s := testing .patternSend { panel with
      chan := { Channel.reset with
        txQueue := [q], contention := some { gapDone := true, gapCount := 32, slots := some 0, passed := 0 } } }
    let t := after .contentionComplete (after .insertError s)
    t.link.record.errorsInserted = 1 ∧ t.link.insertPending = false ∧
      t.chan.txFrame.map (fun x => bitDifferences (x.body.take 32) (patternBytes 32 32767)) = some 1 := by
  decide +kernel

/-- R190: the CRC of the digits 1 to 9 with this polynomial and start. -/
theorem test_crc_of_the_digits : crc16 [0x31, 0x32, 0x33, 0x34, 0x35, 0x36, 0x37, 0x38, 0x39] = 0x29B1 := by
  decide +kernel

/-- R191: the header's bytes, written from the layout: kind 2, level 1 and the latch in byte 0, sender 7 and role 0 in
byte 1, RED and DRIVER in byte 2. -/
theorem test_header_bytes :
    Header.bytes { headerFrom 7 0 1 2 with level := 1, halted := true } =
      [0x23, 0x1C, 0x50, 0x03, 0x03, 0xA1, 0x42, 0xA0] := by decide

/-- 6.7: a HALT sets the latch; a mark 120 ms later keeps it, one 1,020 ms later clears it. -/
theorem test_latch_holds_for_a_quiet_time :
    let h := after .haltFrame (withFrame (frameFrom 17 0 1 8 []) liftHeld)
    let mark (ms : Nat) : State := after .markFrame (withFrame (frameFrom 1 2 0 5 [4, 2, 0, 0, 0, 0])
      { h with time := { h.time with ft := 60900000 + ms * 1000 } })
    h.phase.latch = true ∧ h.hasFlag .haltChanged = true ∧ (mark 120).phase.latch = true ∧
      (mark 120).phase.seq = 4 ∧ (mark 1020).phase.latch = false := by decide +kernel

/-! ## States that meet the hypotheses of the statements -/

theorem test_witness_step_of_an_idle_block : State.reset.pending = [] := rfl

theorem test_witness_commands_at_token_0 : State.reset.port.token = 0 ∧ State.reset.port.nodeState = .config ∧
    panel.port.token = 0 ∧ panel.port.nodeState ≠ .config := by decide

theorem test_witness_offer_slots : (0 < 256 ∧ 0 < 4) ∧ (3 < 256 ∧ 3 < 4) ∧ (4 ≤ 4 ∧ 255 < 256) := by decide

theorem test_witness_start_checks :
    firstFault liftConfig = none ∧
    firstFault { liftConfig with windowLength := 1000, presencePeriod := 100, silenceTime := 500 } = none ∧
    firstFault robotConfig = none ∧ firstFault panelConfig = none ∧
    firstFault { liftConfig with partnerCount := 2, partner0 := { id := 21, rule := 1 },
                                 partner1 := { id := 22, rule := 2 } } = none := by decide

/-- R185: the pairs of refused items; of several the first. -/
theorem test_the_pairs_of_refused_node_items :
    ([{ robotConfig with nodeId := 64, role := 3 },
      { robotConfig with role := 3 },
      { robotConfig with alliance := 0 },
      { panelConfig with alliance := 1 },
      { robotConfig with presencePeriod := 99 },
      { robotConfig with silenceTime := 5001 },
      { robotConfig with presencePeriod := 501, silenceTime := 1001 },
      { robotConfig with windowLength := 999 }] : List StoredConfig).map firstFault =
      [some (1, 0), some (2, 0), some (3, 0), some (3, 0), some (4, 0), some (5, 0), some (6, 0),
        some (7, 0)] := by decide

theorem test_the_pairs_of_refused_element_items :
    ([{ liftConfig with seatCount := 5 },
      { liftConfig with offerCount := 0 },
      { liftConfig with ringMode := 4 },
      { liftConfig with clearing := 2001 },
      { liftConfig with offer0 := { liftConfig.offer0 with kind := 3 } },
      { liftConfig with offer0 := { liftConfig.offer0 with maxHold := 150 } },
      { liftConfig with offer0 := { liftConfig.offer0 with cost := 16 } },
      { liftConfig with offer0 := { liftConfig.offer0 with openPhases := 8 } },
      { liftConfig with offer0 := { liftConfig.offer0 with restriction := 3 } },
      { liftConfig with offer0 := { liftConfig.offer0 with kind := 2, pulsePeriod := 99 } },
      { liftConfig with offerCount := 2, offer1 := { liftConfig.offer0 with cost := 16 } },
      { liftConfig with partnerCount := 3 },
      { liftConfig with partnerCount := 1, partner0 := { id := 20, rule := 1 } },
      { liftConfig with partnerCount := 2, partner0 := { id := 21, rule := 1 },
                        partner1 := { id := 21, rule := 2 } }] : List StoredConfig).map firstFault =
      [some (8, 0), some (9, 0), some (10, 0), some (11, 0), some (12, 1), some (12, 2), some (12, 3), some (12, 4),
        some (12, 5), some (12, 6), some (13, 3), some (16, 0), some (17, 0), some (18, 0)] := by decide

/-- A node in CONFIG with a configuration. -/
def configured (cfg : StoredConfig) : State := { State.reset with port := { Port.reset with cfg := cfg } }

theorem test_witness_start :
    (configured liftConfig).port.token = 0 ∧ (configured liftConfig).port.nodeState = .config ∧
    firstFault (configured liftConfig).port.cfg = none ∧ liftConfig.role = 1 ∧
    firstFault (configured panelConfig).port.cfg = none ∧ panelConfig.role = 2 ∧ panelConfig.source ≠ 0 ∧
    firstFault (configured { panelConfig with source := 0 }).port.cfg = none ∧
    firstFault (configured robotConfig).port.cfg = none ∧ robotConfig.role ≠ 2 ∧
    (configured robotConfig).pins.stopLow = false ∧
    { configured robotConfig with pins := { Pins.reset with stopLow := true } }.pins.stopLow = true := by decide

theorem test_witness_start_refused :
    panel.port.token = 0 ∧ panel.port.nodeState ≠ .config ∧
    (configured StoredConfig.reset).port.nodeState = .config ∧
    firstFault (configured StoredConfig.reset).port.cfg = some (3, 0) := by decide

/-- Four requests to elements other than 20. -/
def fullList : List Request :=
  [{ request .asking with element := 1 }, { request .asking with element := 2 }, { request .asking with element := 3 },
    { request .asking with element := 4 }]

/-- Player 7 with a silent entry of element 20. -/
def deaf : State :=
  { robot [] with req := { (robot []).req with view := [(20, { heard20 with silent := true })] } }

theorem test_witness_ask_command :
    panel.port.token = 0 ∧ askCheck panel 20 0 0 = some .wrongRole ∧
    askCheck (inState .listening (robot [])) 20 0 0 = some .wrongState ∧
    askCheck { robot [] with req := { (robot []).req with bench := 1 } } 20 0 0 = some .wrongState ∧
    askCheck { robot [] with req := { (robot []).req with bench := 0, benchEnding := true } } 20 0 0 = none ∧
    askCheck { robot [] with req := { (robot []).req with ejected := true } } 20 0 0 = some .wrongState ∧
    askCheck (robot []) 64 0 0 = some .badArgument ∧ askCheck (robot []) 20 0 601 = some .badArgument ∧
    askCheck (robot fullList) 20 0 0 = some .listFull ∧ askCheck (robot []) 63 0 0 = some .notKnown ∧
    askCheck deaf 20 0 0 = some .notKnown ∧ askCheck (robot []) 20 1 0 = some .badArgument ∧
    askCheck (robot [request .asking]) 20 0 0 = some .wrongState ∧
    askCheck (robot (fullList.drop 1)) 20 0 600 = none ∧ (robot []).chan.txQueue.length < 8 ∧
    (crowded 7 (robot [])).chan.txQueue.length < 8 ∧ askCheck (crowded 8 (robot [])) 20 0 0 = none ∧
    8 ≤ (crowded 8 (robot [])).chan.txQueue.length ∧
    (∀ f ∈ (crowded 8 (robot [])).chan.txQueue, f.body.urgency ≤ 2) := by decide +kernel

/-- R89: with its bench at 0 the player may ask, though the end of the bench has not yet been taken. -/
theorem test_an_ask_at_bench_0 :
    let s := { robot [] with req := { (robot []).req with benchEnding := true } }
    (after (.ask 20 0 0) s).req.list = [request .asking] ∧ s.presenceBody = [0] := by decide +kernel

theorem test_an_ask_at_a_full_queue_is_lost :
    let t := after (.ask 20 0 0) (crowded 8 (robot []))
    t.req.list = [] ∧ t.port.notices.map (·.kind) = [.lost] ∧ t.link.window.drop = 4 ∧ t.chan.txQueue.length = 8 := by
  decide +kernel

theorem test_witness_yield_command :
    yieldCheck panel 20 = some .wrongRole ∧ yieldCheck (inState .test (robot [])) 20 = some .wrongState ∧
    yieldCheck (robot []) 64 = some .badArgument ∧ yieldCheck (robot []) 63 = some .notKnown ∧
    yieldCheck (robot [request .asking]) 20 = some .wrongState ∧
    yieldCheck (robot [request .yielding]) 20 = some .wrongState ∧
    yieldCheck (robot [request .waiting]) 20 = none ∧ yieldCheck (robot [request .seated]) 20 = none ∧
    (robot [request .seated]).request 20 = some (request .seated) := by decide +kernel

theorem test_witness_renew_command :
    renewCheck panel 20 = some .wrongRole ∧ renewCheck (inState .test (robot [])) 20 = some .wrongState ∧
    renewCheck (robot []) 64 = some .badArgument ∧ renewCheck (robot []) 63 = some .notKnown ∧
    renewCheck (robot [request .waiting]) 20 = some .wrongState ∧
    renewCheck (robot [{ request .seated with renewPending := true }]) 20 = some .wrongState ∧
    renewCheck (robot [{ request .seated with offer := 1 }]) 20 = some .wrongState ∧
    renewCheck (robot [request .seated]) 20 = none ∧
    (robot [request .seated]).request 20 = some (request .seated) := by decide +kernel

/-- The panel in another align state or phase. -/
def panelAt (a : AlignState) (p : Phase) : State :=
  { panel with time := { panel.time with align := a }, phase := { panel.phase with phase := p } }

theorem test_witness_send_mark :
    markCheck (robot []) 2 = some .wrongRole ∧ markCheck (inState .listening panel) 2 = some .wrongState ∧
    markCheck panel 6 = some .badArgument ∧ markCheck (panelAt .acquiring .driver) 5 = some .wrongState ∧
    markCheck (panelAt .source .ended) 1 = some .wrongState ∧ markCheck (panelAt .holdover .ended) 0 = none ∧
    markCheck panel 5 = none ∧ Phase.ended.code = 5 ∧ Phase.prematch.code = 0 ∧ panel.phase.pending = none ∧
    panel.time.ft ≤ 2 ^ 40 - 1 ∧ panel.time.ft < min (panel.time.ft + min 1 5000 * 1000) (2 ^ 40 - 1) ∧
    min (panel.time.ft + min 0 5000 * 1000) (2 ^ 40 - 1) ≤ panel.time.ft ∧ (crowded 7 panel).chan.txQueue.length < 8 := by
  decide +kernel

/-- The panel with a mark pending 127 ahead of its phase seq. -/
def panelAhead : State :=
  { panel with phase := { panel.phase with
      pending := some { seq := 130, phase := .endgame, boundary := 61900000, carried := 61900000 } } }

theorem test_witness_send_mark_seqs :
    MarkIsNewer panel 4 ∧ ¬ MarkIsNewer panelAhead (130 + 1) ∧ (130 + 1 : Byte) ≠ panelAhead.phase.seq := by
  refine ⟨⟨by decide, fun m h => absurd h (ne_some_of_none rfl m)⟩, fun h => absurd h.1 (by decide), by decide⟩

/-- A panel that has applied no mark, with a mark of seq 255 pending. -/
def panelFresh : State :=
  { panel with phase := { PhaseUnit.reset with
      pending := some { seq := 255, phase := .driver, boundary := 61900000, carried := 61900000 } } }

theorem test_witness_send_mark_of_seq_0 : ¬ MarkIsNewer panelFresh (255 + 1) ∧
    (255 + 1 : Byte) = panelFresh.phase.seq ∧ Phase.prematch = panelFresh.phase.currentPhase ∧
    panelFresh.phase.currentCarried = none ∧ Phase.driver ≠ panelFresh.phase.currentPhase :=
  ⟨fun h => absurd h.1 (by decide), by decide⟩

/-- Log entry 38: the seq after 255 at a node that has applied no mark is 0, and its mark is judged against the mark of reset:
another phase is a conflict, PREMATCH a repeat; it is sent all the same. -/
theorem test_a_mark_of_seq_0_at_a_fresh_referee :
    let t := after (.sendMark 1 0) panelFresh
    let u := after (.sendMark 0 0) panelFresh
    t.phase.conflictCount = 1 ∧ t.phase.pending = panelFresh.phase.pending ∧ t.ref.marks.map (·.seq) = some 0 ∧
      t.chan.txQueue.map (·.body.kindCode) = [5] ∧ t.hasFlag .markConflict = true ∧
      u.phase = panelFresh.phase ∧ u.ref.marks.map (·.seq) = some 0 ∧ u.hasFlag .markConflict = false := by
  decide +kernel

/-- Log entry 34: a mark 128 ahead of the phase seq is counted at its own node and sent all the same. -/
theorem test_a_mark_128_ahead_is_sent_and_counted :
    let t := after (.sendMark 2 0) panelAhead
    t.phase.ignoreCount = 1 ∧ t.phase.pending = panelAhead.phase.pending ∧ t.chan.txQueue.map (·.body.kindCode) = [5] ∧
      t.ref.marks.map (·.seq) = some 131 := by decide +kernel

/-- The panel with an order whose copies are still to go. -/
def panelBusy (copies : Nat) : State :=
  { panel with ref := { panel.ref with
      orders := some { frame := .turn 4 20 7, copies := copies, due := 60920 } } }

theorem test_witness_orders :
    orderCheck (robot []) false = some .wrongRole ∧ orderCheck (inState .listening panel) false = some .wrongState ∧
    orderCheck panel (decide (63 < (64 : Byte).toNat ∨ (1 : Byte).toNat < 1 ∨ 3 < (1 : Byte).toNat)) =
      some .badArgument ∧
    orderCheck panel (decide (63 < (63 : Byte).toNat ∨ (0 : Byte).toNat < 1 ∨ 3 < (0 : Byte).toNat)) =
      some .badArgument ∧
    orderCheck panel (decide (63 < (63 : Byte).toNat ∨ (4 : Byte).toNat < 1 ∨ 3 < (4 : Byte).toNat)) =
      some .badArgument ∧
    orderCheck (panelBusy 1) false = some .wrongState ∧ orderCheck panel (decide (63 < (63 : Byte).toNat)) = none ∧
    orderCheck panel (decide (63 < (64 : Byte).toNat ∨ 63 < (0 : Byte).toNat)) = some .badArgument ∧
    orderCheck panel (decide (63 < (0 : Byte).toNat ∨ 63 < (63 : Byte).toNat)) = none ∧
    (crowded 7 panel).chan.txQueue.length < 8 ∧ (TxBody.turn 4 20 7).kindCode = 7 ∧
    (TxBody.sanction 4 7 .bench 10).kindCode = 6 := by decide +kernel

theorem test_witness_halt_commands :
    (robot []).port.cfg.role ≠ 2 ∧ (configured panelConfig).port.cfg.role = 2 ∧
    (configured panelConfig).port.nodeState = .config ∧ panel.port.cfg.role = 2 ∧ panel.port.nodeState ≠ .config ∧
    panel.phase.haltSending = false ∧ panel.phase.latch = false ∧ (after .haltOn panel).phase.haltSending = true := by
  decide +kernel

theorem test_witness_halt_placing :
    panel.phase.haltDue = none ∧ panel.port.nodeState = .running ∧ panel.chan.txQueue.length < 8 ∧
    (∀ f ∈ panel.chan.txQueue, f.body ≠ .halt) ∧ (testing .patternSend panel).port.nodeState = .test ∧
    (inState .listening panel).port.nodeState ≠ .running ∧ (inState .listening panel).port.nodeState ≠ .test ∧
    ¬ (∀ f ∈ [({ body := .halt, ofRequest := false } : QueuedFrame)], f.body ≠ .halt) := by decide

/-- Log entry 23: HALT_ON places the first HALT frame in RUNNING, and none in LISTENING or beside a HALT that waits; the next
is due 20 local ms later. -/
theorem test_halt_on_places_one_frame :
    (after .haltOn panel).chan.txQueue.map (·.body) = [.halt] ∧ (after .haltOn panel).phase.haltDue = some 60920 ∧
    (after .haltOn (inState .listening panel)).chan.txQueue = [] ∧
    (after .haltOn (after .haltOn panel)).chan.txQueue.map (·.body) = [.halt] := by decide +kernel

theorem test_witness_trim_commands :
    (panelAt .source .driver).time.align = .source ∧ panel.time.align ≠ .source ∧ 2 < (3 : Byte).toNat ∧
    TrimMode.track.code = 0 ∧ TrimMode.track = panel.time.mode ∧ TrimMode.freeze.code = 1 ∧
    TrimMode.freeze ≠ panel.time.mode ∧ TrimMode.freeze ≠ .fixed ∧ TrimMode.fixed.code = 2 ∧
    TrimMode.fixed ≠ panel.time.mode ∧ panel.time.align ≠ .unaligned ∧ State.reset.time.align = .unaligned ∧
    max (-512) (min 511 (BitVec.ofInt 16 (-700)).toInt) = (-512 : Int) ∧ State.reset.time.alarm = false := by decide

theorem test_witness_test_commands :
    (robot []).port.nodeState = .running ∧ (robot []).phase.phase ≠ .prematch ∧ (robot []).phase.phase ≠ .ended ∧
    (inState .listening (robot [])).port.nodeState ≠ .running ∧ (panelAt .locked .prematch).phase.phase = .prematch ∧
    (panelAt .locked .ended).phase.phase = .ended ∧ (0 : Byte).toNat < 1 ∧ 3 < (4 : Byte).toNat ∧
    TestKind.patternSend.code = 1 ∧ TestKind.loopback.code = 3 ∧ TestKind.patternSend ≠ .patternCheck ∧
    (testing .patternSend panel).port.nodeState = .test ∧
    (testing .patternSend panel).link.testKind = some .patternSend ∧
    (testing .loopback panel).link.testKind = some .loopback ∧
    (testing .patternCheck panel).link.testKind ≠ some .patternSend ∧
    (testing .patternCheck panel).link.testKind ≠ some .loopback ∧ panel.port.nodeState ≠ .test := by decide

theorem test_witness_reads :
    (configured liftConfig).port.nodeState = .config ∧ liftHeld.port.nodeState ≠ .config ∧
    liftHeld.port.cfg.role = 1 ∧ (robot []).port.cfg.role ≠ 1 ∧ (robot []).port.cfg.role = 0 ∧
    panel.port.cfg.role ≠ 0 ∧ panel.port.cfg.role ≠ 1 ∧ 3 < (4 : Byte).toNat ∧ (3 : Byte).toNat ≤ 3 ∧
    15 < (16 : Byte).toNat ∧ (15 : Byte).toNat ≤ 15 ∧ 23 < (24 : Byte).toNat ∧ (23 : Byte).toNat ≤ 23 ∧
    31 < (32 : Byte).toNat ∧ (31 : Byte).toNat ≤ 31 ∧ 63 < (64 : Byte).toNat ∧ (63 : Byte).toNat ≤ 63 ∧
    (2 : Byte) ≠ 0 ∧ (2 : Byte) ≠ 1 := by decide

/-- The panel in a contention whose countdown may have run for a while. -/
def counting (b passed : Nat) : State :=
  contending (some { gapDone := true, gapCount := 32, slots := some b, passed := passed }) panel

theorem test_witness_read_link :
    panel.chan.contention = none ∧ (counting 5 4).chan.contention.map (·.slots) = some (some 5) ∧
    (4 : Nat) < 5 ∧ (5 : Nat) ≤ 5 ∧ (contending (some { gapDone := false, gapCount := 3, slots := none, passed := 0 })
      panel).chan.contention.isSome = true ∧ liftHeld.port.cfg.ringMode.toNat ≤ 3 := by decide

/-- R179, log entry 7: with every slot counted none remains, and before the gap is complete all remain. -/
theorem test_slots_remaining_at_a_read :
    (after (.readLink 0) (counting 5 5)).port.reply.getD 43 0 = 0 ∧
    (after (.readLink 0) (contending (some { gapDone := false, gapCount := 3, slots := some 5, passed := 0 }) panel)
      ).port.reply.getD 43 0 = 5 := by decide +kernel

/-- READ_TIME in the block, before it is handed over. -/
def loaded : State := { panel with port := { panel.port with block := 102 :: List.replicate 30 0 } }

theorem test_witness_handed_over :
    blockOf .readTime = some [102] ∧ Instr.wf .readTime = true ∧ loaded.port.token = 0 ∧
    loaded.port.block.take [102].length = [102] ∧ (1 : Byte) ≠ 0 ∧ (255 : Byte) ≠ 0 ∧ blockOf .haltOn = some [51] ∧
    Instr.wf .haltOn = true ∧ loaded.port.block.take [51].length ≠ [51] ∧ blockOf .pinReset = none ∧
    (∃ o, (some (Transaction.writing 5)) = some (Transaction.writing o)) := by
  refine ⟨by decide, by decide, by decide, by decide, by decide, by decide, by decide, by decide, by decide, by decide,
    ⟨5, rfl⟩⟩

/-- R182: the command handed over is taken alike at each nonzero token, by its own row, by another row and when CSn rises. -/
theorem test_a_command_is_taken_at_any_token :
    let held (token : Byte) : State := after (.portWrite 31 token) loaded
    (held 255).port.token = 255 ∧ after .readTime (held 255) = after .readTime loaded ∧
      after .readTime (held 2) = after .readTime loaded ∧
      after .haltOn (held 255) = after .readTime (withFlag .commandOverrun (held 255)) := by decide +kernel

/-- A state with a transaction open. -/
def opened (x : Transaction) (s : State) : State := { s with port := { s.port with spi := some x } }

theorem test_witness_transactions :
    State.reset.port.spi = none ∧ (opened .access panel).port.spi = some .access ∧
    (opened (.writing 127) loaded).port.spi = some (.writing 127) ∧ loaded.port.token = 0 ∧
    (after (.portWrite 31 1) loaded).port.token ≠ 0 ∧
    (opened (.reading 96 none none) panel).port.spi = some (.reading 96 none none) ∧
    (95 : BitVec 7) ≠ 96 ∧ (100 : BitVec 7) ≠ 99 ∧ (0x80 : Byte).getLsbD 7 = true ∧ (0x7F : Byte).getLsbD 7 = false ∧
    (30 : BitVec 7).toNat < 31 ∧ 34 ≤ (34 : BitVec 7).toNat ∧ (95 : BitVec 7).toNat < 96 ∧ 104 ≤ (104 : BitVec 7).toNat :=
  by decide

/-- R180: a pair is captured once; a flag set between its bytes shows in neither until the next transaction. -/
theorem test_a_pair_is_captured_once :
    let s := (opened (.reading 96 none none) { panel with port := { panel.port with flags := 0x0102 } }).spiCapture
    let t := { s.spiByte 0 with port := { (s.spiByte 0).port with flags := 0xFFFF } }
    s.spiOut = some 1 ∧ t.spiOut = some 2 ∧ t.csRise.csFall.sdoDriven = false ∧ (s.spiByte 0).sdoDriven = true := by
  decide +kernel

theorem test_witness_port_writes :
    State.reset.port.token = 0 ∧ (after (.portWrite 31 1) State.reset).port.token ≠ 0 ∧ (30 : BitVec 7).toNat < 31 ∧
    (31 : BitVec 7).toNat = 31 ∧ (32 ≤ (32 : BitVec 7).toNat ∧ (95 : BitVec 7).toNat < 96) ∧
    99 < (100 : BitVec 7).toNat ∧ (Instr.unknownCommand 0).wf = true ∧ (Instr.unknownCommand 255).wf = true := by
  decide

theorem test_witness_stop_input :
    (configured robotConfig).port.nodeState = .config ∧ (after .stopActive (robot [])).phase.stop = true ∧
    (after .stopActive (robot [])).port.nodeState ≠ .config ∧ (robot []).phase.stop = false ∧
    (robot []).phase.latch = false ∧ (robot []).phase.haltDue = none ∧ (robot []).port.nodeState = .running ∧
    (∀ f ∈ (robot []).chan.txQueue, f.body ≠ .halt) ∧ (crowded 7 (robot [])).chan.txQueue.length < 8 ∧
    (inState .listening (robot [])).port.nodeState = .listening ∧
    (after .haltOn panel).phase.haltDue.isSome = true ∧ (after .haltOn panel).phase.stop = false := by decide +kernel

/-- A state with the carrier detected. -/
def busy (s : State) : State := { s with pins := { s.pins with cd := true } }

def gap : Contention := { gapDone := false, gapCount := 0, slots := none, passed := 0 }

def slots5 : Contention := { gapDone := true, gapCount := 32, slots := some 5, passed := 0 }

theorem test_witness_carrier_detect :
    (busy panel).pins.cd = true ∧ panel.pins.cd = false ∧ panel.chan.contention = none ∧
    (testing .loopback panel).port.nodeState = .test ∧ (testing .loopback panel).link.testKind = some .loopback ∧
    ¬ (panel.port.nodeState = .test ∧ panel.link.testKind = some .loopback) ∧
    (contending (some gap) panel).chan.contention = some gap ∧ gap.slots = none ∧
    (contending (some slots5) panel).chan.contention = some slots5 ∧ slots5.slots = some 5 ∧
    (busy (contending (some slots5) panel)).chan.contention = some slots5 := by decide

/-- Field time at the two ends of the trim. -/
theorem test_witness_local_ms :
    TimeLaw State.reset ∧
    TimeLaw { panel with time := { panel.time with trim := -512, commanded := -512, alarm := true, fraction := 255 } } ∧
    TimeLaw { panel with time := { panel.time with trim := 511, commanded := 511, alarm := true, stall := 1002 } } ∧
    TimeLaw { panel with time := { panel.time with ft := ftMax, stall := 999 } } := by
  unfold TimeLaw; decide

theorem test_witness_guard_and_pulses :
    (lift (.guard claim12 0 true)).seat.table[0]? = some (.guard claim12 0 true) ∧
    (lift (.guard claim12 1 false)).seat.table[0]? = some (.guard claim12 1 false) ∧
    liftHeld.seat.table[3]? = none ∧
    (lift (.held claim12 (some 0) 300 false)).seat.table[0]? = some (.held claim12 (some 0) 300 false) ∧
    (∃ x, (dispenser 1 0 1 (some 7)).seat.table[0]? = some x) ∧
    ((dispenser 1 0 1 none).port.cfg.offer 0).kind = 2 := by
  refine ⟨by decide, by decide, by decide, by decide, ⟨_, rfl⟩, by decide⟩

theorem test_witness_a_player_that_can_pay :
    canPay (dispenser 1 0 1 none) 30 ∧ ¬ canPay (dispenser 1 0 0 none) 30 := by
  refine ⟨⟨_, rfl, by decide⟩, ?_⟩
  rintro ⟨r, h, hr⟩
  have : r = record 30 0 (.seated 0) := by
    have h0 : (dispenser 1 0 0 none).arb.ring.find? (fun x => decide (x.player = 30)) =
        some (record 30 0 (.seated 0)) := rfl
    rw [h0] at h; exact (Option.some.inj h).symm
  subst this; exact absurd hr (by decide)

/-- The lift with a sense input in use. -/
def sensing (x : Seat) : State :=
  let s := lift x
  { s with port := { s.port with cfg := { s.port.cfg with senseUse := 1 } } }

theorem test_witness_timers_of_seats :
    (lift (.held { claim12 with hold := 0 } none 0 false)).seat.table[0]? =
      some (.held { claim12 with hold := 0 } none 0 false) ∧
    (dispenser 0 0 0 none).seat.table[0]?.isSome = true ∧ liftHeld.port.cfg.senseUse = 0 ∧
    (sensing (.held claim12 none 0 false)).port.cfg.senseUse ≠ 0 ∧
    (sensing (.held claim12 none 0 true)).seat.table[0]? = some (.held claim12 none 0 true) ∧
    (sensing (.guard claim12 5 true)).seat.table[0]? = some (.guard claim12 5 true) ∧
    (sensing (.guard claim12 5 true)).pins.sense.getLsbD 0 = false ∧
    { sensing (.guard claim12 5 true) with pins := { Pins.reset with sense := 1 } }.pins.sense.getLsbD 0 = true ∧
    Reason.expired ≠ .matchEnd ∧ liftHeld.port.nodeState ≠ .test ∧ (testing .loopback liftHeld).port.nodeState = .test ∧
    (crowded 7 liftHeld).chan.txQueue.length < 8 ∧ liftHeld.port.notices.length < 16 := by decide

/-- The lift with seat 0 FREE and another ring mode. -/
def liftMode (m : Byte) : State :=
  let s := lift .free
  { s with port := { s.port with cfg := { s.port.cfg with ringMode := m } } }

theorem test_witness_resolutions :
    (liftMode 0).gateOpen = true ∧ (liftMode 0).seat.table[0]? = some .free ∧ (liftMode 0).chosen = some entry9 ∧
    (liftMode 3).chosen = some entry7 ∧ (liftMode 0).eligible entry9 = true ∧ (liftMode 3).port.cfg.ringMode ≠ 0 ∧
    (liftMode 3).port.cfg.ringMode.toNat ≤ 3 ∧ (inState .test (liftMode 0)).gateOpen = false ∧
    (∀ x ∈ liftHeld.seat.table, x ≠ .free) ∧ { liftMode 0 with arb := Arbiter.reset }.chosen = none ∧
    (liftMode 0).arb.waiting.map (fun e => e.player) = [9] ++ 7 :: [] ∧ (7 : NodeId) ∉ [(9 : NodeId)] ∧
    ((liftMode 3).arb.ring.map fun r => r.player).filter
      (fun q => (liftMode 3).arb.waiting.any fun e => decide (e.player = q)) = [] ++ 7 :: [9] ∧
    (7 : NodeId) ∉ ([] : List NodeId) := by decide +kernel

/-- R46: two FREE seats go to the two entries, the lower seat first. -/
theorem test_two_free_seats_are_granted :
    let s := liftMode 0
    ({ s with seat := { s.seat with table := [.free, .free] } } : State).resolve.holders = [9, 7] := by decide +kernel

theorem test_witness_clearing_expiry :
    (lift (.clearing 0)).seat.table[0]? = some (.clearing 0) ∧ (lift (.clearing 0)).gateOpen = true ∧
    (∀ x ∈ (lift (.clearing 0)).seat.table, x ≠ .free) ∧ (lift (.clearing 0)).chosen = some entry7 ∧
    (inState .test (lift (.clearing 0))).gateOpen = false ∧
    { lift (.clearing 0) with arb := Arbiter.reset }.chosen = none ∧
    { lift (.clearing 0) with arb := Arbiter.reset }.gateOpen = true := by decide +kernel

/-- The lift at another field ms. -/
def atMs (n : Nat) (s : State) : State := { s with time := { s.time with ft := n * 1000 } }

/-- The lift with player 9 benched. -/
def benched (remaining : Nat) (ending : Bool) : State :=
  { liftHeld with arb := { liftHeld.arb with
      ring := [{ record 9 10 .waiting with bench := remaining, benchEnding := ending }] } }

theorem test_witness_stale_entries_and_benches :
    liftHeld.arb.waiting.find? (fun x => decide (x.player = 9)) = some entry9 ∧
    (atMs 61999 liftHeld).time.ft / 1000 < entry9.refreshed + 1500 ∧
    entry9.refreshed + 1500 ≤ (atMs 62000 liftHeld).time.ft / 1000 ∧ liftHeld.port.nodeState ≠ .test ∧
    (crowded 7 liftHeld).chan.txQueue.length < 8 ∧
    (benched 0 true).arb.ring.find? (fun x => decide (x.player = 9)) =
      some { record 9 10 .waiting with benchEnding := true } ∧
    (benched 5 false).arb.ring.find? (fun x => decide (x.player = 9)) =
      some { record 9 10 .waiting with bench := 5 } ∧
    recordOf (benched 0 true) 8 = none ∧ entryOf liftHeld 9 = some entry9 ∧ entryOf liftHeld 8 = none ∧
    recordOf (benched 0 true) 9 = some { record 9 10 .waiting with benchEnding := true } := by decide +kernel

/-- A request whose ASK has an open wait. -/
def waitingFor (r : Request) (tries deadline : Nat) : Request :=
  { r with tries := tries, deadline := some deadline, waitFrame := some (.ask 20 13 false 0 0) }

theorem test_witness_answer_waits :
    (robot [waitingFor (request .asking) 3 60901]).request 20 = some (waitingFor (request .asking) 3 60901) ∧
    (robot []).localMs < 60901 ∧ 60900 ≤ (robot []).localMs ∧ TxBody.ask 20 13 false 0 0 ≠ .presence ∧
    (waitingFor (request .seated) 3 60900).state = .seated ∧
    (waitingFor (request .seated) 3 60900).renewPending = false ∧
    { waitingFor (request .seated) 0 60900 with renewPending := true }.renewPending = true ∧
    1 ≤ (waitingFor (request .waiting) 1 60900).tries ∧ (waitingFor (request .yielding) 0 60900).tries = 0 ∧
    (waitingFor (request .asking) 0 60900).tries = 0 ∧ (robot []).request 20 = none ∧
    (waitingFor (request .asking) 3 60901).deadline = some 60901 ∧
    (waitingFor (request .asking) 3 60901).waitFrame = some (.ask 20 13 false 0 0) ∧
    (request .asking).deadline = none := by decide

/-- A queue of eight frames, a PATTERN behind marks. -/
def patternLast : List QueuedFrame :=
  List.replicate 6 { body := .mark 0 .driver 0, ofRequest := false } ++
    { body := .pattern [] 0, ofRequest := false } :: [{ body := .answer 7 1 (.ended 2), ofRequest := false }]

def ask13 : QueuedFrame := { body := .ask 20 13 false 0 0, ofRequest := true }

theorem test_witness_placing :
    (testing .loopback panel).port.nodeState = .test ∧ (TxBody.answer 7 1 (.ended 2)).kindCode.toNat ≤ 4 ∧
    panel.port.nodeState ≠ .test ∧ 4 < TxBody.halt.kindCode.toNat ∧ TxBody.halt ≠ .presence ∧
    (∃ g ∈ [({ body := .presence, ofRequest := false } : QueuedFrame)], g.body = .presence) ∧
    (∀ g ∈ (crowded 8 panel).chan.txQueue, g.body ≠ .presence) ∧ (crowded 7 panel).chan.txQueue.length < 8 ∧
    8 ≤ patternLast.length ∧ ask13.body.urgency < (TxBody.pattern [] 0).urgency ∧
    (∀ x ∈ List.replicate 6 ({ body := .mark 0 .driver 0, ofRequest := false } : QueuedFrame),
      x.body.urgency ≤ (TxBody.pattern [] 0).urgency) ∧
    (TxBody.answer 7 1 (.ended 2)).urgency < (TxBody.pattern [] 0).urgency ∧
    requestOfFrame { body := .pattern [] 0, ofRequest := false } panel = none ∧
    requestOfFrame ask13 (robot [request .asking]) = some (request .asking) ∧ (request .asking).tries ≤ 3 ∧
    (∀ x ∈ (crowded 8 (robot [request .asking])).chan.txQueue, x.body.urgency ≤ ask13.body.urgency) := by
  decide +kernel

/-- R157 case 3: a HALT at a full queue takes the place of the latest frame of the highest class. -/
theorem test_a_full_queue_gives_way :
    let s := { panel with chan := { panel.chan with txQueue := patternLast } }
    (s.send .halt).chan.txQueue.map (·.body.kindCode) = [5, 5, 5, 5, 5, 5, 4, 8] ∧
      (s.send .halt).link.window.drop = 1 ∧ (s.send .presence).chan.txQueue = patternLast := by decide +kernel

theorem test_witness_request_timers :
    (robot [{ request .waiting with refreshDue := some 60900 }]).request 20 =
      some { request .waiting with refreshDue := some 60900 } ∧ 60900 ≤ (robot []).localMs ∧
    (robot [request .seated]).request 20 = some (request .seated) ∧ (request .seated).countdown = 0 ∧
    (request .seated).margin = none ∧ { request .seated with margin := some 0 }.margin = some 0 ∧
    (request .asking).state ≠ .seated ∧ (request .asking).state ≠ .waiting := by decide

theorem test_witness_holdover_link_and_window :
    (panelAt .holdover .driver).time.align = .holdover ∧ (panelAt .holdover .driver).time.holdover = 0 ∧
    panel.time.align ≠ .holdover ∧ { panel with link := { panel.link with remaining := 0 } }.link.remaining = 0 ∧
    panel.link.lost = false ∧ panel.port.nodeState ≠ .config ∧ panel.link.remaining ≠ 0 ∧
    panel.link.elapsed < panel.link.windowLength ∧
    { panel with link := { panel.link with elapsed := 10000 } }.link.windowLength ≤ 10000 := by decide

theorem test_witness_schedules :
    (inState .listening State.reset).port.nodeState = .listening ∧
    (inState .listening State.reset).port.listenRemaining = 0 ∧ panel.port.nodeState ≠ .listening ∧
    { panel with chan := { panel.chan with presenceDue := some 60900 } }.chan.presenceDue = some 60900 ∧
    60900 ≤ panel.localMs ∧ panel.localMs < 60901 ∧ (testing .loopback panel).port.nodeState = .test ∧
    panel.chan.txQueue.any isPattern = false ∧ (crowded 7 panel).chan.txQueue.any isPattern = false ∧
    [{ body := .pattern [] 0, ofRequest := false }].any isPattern = true ∧
    (crowded 7 panel).chan.txQueue.length < 8 := by decide

/-- The panel with a due HALT schedule and a mark schedule. -/
def panelDue (due copies : Nat) : State :=
  { panelBusy copies with
    phase := { panel.phase with haltDue := some due },
    ref := { (panelBusy copies).ref with
      marks := some { seq := 4, phase := .driver, carried := 0, copies := copies, due := due } } }

theorem test_witness_copies :
    (panelDue 60900 1).phase.haltDue = some 60900 ∧ 60900 ≤ (panelDue 60900 1).localMs ∧
    (panelDue 60901 2).localMs < 60901 ∧ (configured panelConfig).port.nodeState = .config ∧
    (∃ f ∈ (after .stopActive panel).chan.txQueue, f.body = .halt) ∧ (panelDue 60900 1).port.nodeState = .running ∧
    (∀ f ∈ (panelDue 60900 1).chan.txQueue, f.body ≠ .halt) ∧ (panelDue 60900 1).chan.txQueue.length < 8 ∧
    (panelDue 60900 1).ref.marks = some { seq := 4, phase := .driver, carried := 0, copies := 1, due := 60900 } ∧
    (panelDue 60900 2).ref.orders = some { frame := .turn 4 20 7, copies := 2, due := 60920 } ∧
    (TxBody.turn 4 20 7).urgency = 1 ∧ (TxBody.turn 4 20 7).barredInTest = false ∧
    (panelBusy 1).localMs < 60920 ∧ 60920 ≤ { panelBusy 1 with localMs := 60920 }.localMs := by decide +kernel

/-- A mark to a phase at a boundary. -/
def markTo (p : Phase) (boundary : Nat) : PendingMark := { seq := 4, phase := p, boundary := boundary, carried := 0 }

/-- The lift with a pending mark. -/
def marked (m : PendingMark) (p : Phase) : State :=
  { liftHeld with phase := { liftHeld.phase with phase := p, pending := some m } }

theorem test_witness_pending_mark :
    (marked (markTo .paused 60900000) .driver).phase.pending = some (markTo .paused 60900000) ∧
    (markTo .paused 60900000).boundary ≤ liftHeld.time.ft ∧ liftHeld.time.ft < (markTo .paused 60900001).boundary ∧
    (inState .config liftHeld).port.nodeState = .config ∧ liftHeld.port.nodeState ≠ .config ∧
    (marked (markTo .driver 0) .ended).phase.phase = .ended ∧ (markTo .driver 0).phase ≠ .prematch ∧
    (markTo .prematch 0).phase = .prematch ∧ (marked (markTo .ended 0) .driver).phase.phase ≠ .ended := by decide

theorem test_witness_mark_kinds :
    let latched (stop : Bool) : State := { liftHeld with phase := { liftHeld.phase with latch := true, stop := stop } }
    (adopted 4 .driver none (latched false)).phase.latch = false ∧ (adopted 4 .driver none (latched true)).phase.latch = true ∧
    Phase.driver = liftHeld.phase.phase ∧ Phase.driver.isRunningPhase = true ∧ Phase.paused.isRunningPhase = false ∧
    Phase.endgame ≠ liftHeld.phase.phase ∧ Phase.endgame.isRunningPhase = true ∧ Phase.prematch ≠ Phase.ended ∧
    (marked (markTo .driver 0) .paused).phase.phase = .paused ∧
    inPhaseSet ({ liftConfig with reloadPhases := 4 } : StoredConfig).reloadPhases .endgame = true ∧
    inPhaseSet ({ liftConfig with reloadPhases := 3 } : StoredConfig).reloadPhases .endgame = false ∧
    (testing .loopback liftHeld).port.nodeState = .test := by decide +kernel

/-- A slot of the peer table whose silence has run out. -/
def quiet (role : BitVec 2) : PeerSlot :=
  { role := role, alliance := 0, level := 1, align := 2, halted := false, test := false, phase := 2, seq := 3,
    lastHeard := 60000, silence := 0, heard := true, frames := 9, ad := none }

/-- The lift with player 3 silent as its peer table will find, and node 3 as reference. -/
def liftQuiet (a : AlignState) (reference : Option NodeId) : State :=
  { liftHeld with
    peers := { liftHeld.peers with slots := [(3, quiet 0)] },
    time := { liftHeld.time with align := a, reference := reference } }

theorem test_witness_peer_silent :
    ElementLaw (liftQuiet .locked (some 3)) ∧ (liftQuiet .locked (some 3)).port.nodeState ≠ .config ∧
    lookupId 3 (liftQuiet .locked (some 3)).peers.slots = some (quiet 0) ∧ (quiet 0).heard = true ∧
    (quiet 0).silence = 0 ∧ (liftQuiet .locked (some 3)).time.reference = some 3 ∧
    (liftQuiet .acquiring (some 3)).time.align = .acquiring ∧ (liftQuiet .locked none).time.reference ≠ some 3 ∧
    lookupId 4 (liftQuiet .locked none).peers.slots = none ∧ liftHeld.port.cfg.clearing ≠ 0 ∧
    claimAt liftHeld 0 = some claim12 ∧ claim12.player = 3 ∧ unsensed liftHeld 0 = true := by
  unfold ElementLaw; decide +kernel

theorem test_silent_player_leaves_its_seat :
    (after (.peerSilent 3) (liftQuiet .locked (some 3))).seat.table = [.clearing 500] ∧
    (after (.peerSilent 3) (liftQuiet .locked (some 3))).time.align = .holdover ∧
    (after (.peerSilent 3) (liftQuiet .locked (some 3))).time.holdover = 10000 := by decide +kernel

theorem test_witness_generators : (1 : Half) ≠ 0 ∧ (32767 : BitVec 15) ≠ 0 ∧ 15 < 16 ∧ 14 < 15 ∧ 255 < 256 :=
  by decide

/-- The panel with a HALT alone in the queue. -/
def halting : State := { panel with chan := { panel.chan with txQueue := [{ body := .halt, ofRequest := false }] } }

theorem test_witness_idle_gap :
    (contending (some gap) panel).chan.contention = some gap ∧ gap.gapDone = false ∧ slots5.gapDone = true ∧
    panel.pins.cd = false ∧ (busy panel).pins.cd = true ∧ ¬ inLoop (busy panel) ∧
    inLoop (testing .loopback (busy panel)) ∧
    { slots5 with gapDone := false }.slots = some 5 ∧ gap.slots = none ∧
    halting.chan.txQueue.any (fun f => decide (f.body = .halt)) = true ∧
    (crowded 1 panel).chan.txQueue.any (fun f => decide (f.body = .halt)) = false := by decide

theorem test_witness_contention :
    (contending (some slots5) halting).chan.contention = some slots5 ∧
    halting.chan.txQueue = [] ++ { body := .halt, ofRequest := false } :: [] ∧
    patternLast = [] ++ { body := .mark 0 .driver 0, ofRequest := false } :: patternLast.drop 1 ∧
    (∀ g ∈ patternLast.drop 1, (TxBody.mark 0 .driver 0).urgency ≤ g.body.urgency) ∧
    (∀ g ∈ [({ body := .presence, ofRequest := false } : QueuedFrame)], TxBody.halt.urgency < g.body.urgency) ∧
    slots5.gapDone = true ∧ slots5.slots.isSome = true ∧ halting.pins.cd = false ∧ halting.chan.txFrame = none ∧
    panel.chan.contention = none ∧ panel.chan.txQueue = [] ∧ gap.gapDone = false ∧
    TxBody.halt.kindCode ≠ 9 ∧ (TxBody.pattern [1] 0).kindCode = 9 ∧ TxBody.presence ≠ .halt ∧
    (after .insertError (testing .loopback panel)).link.insertPending = true ∧
    bodyOf (.pattern [1] 0) = 1 :: [0, 0] := by decide

/-- R156: of two frames of one class the one placed earlier goes first, after any of a lower class. -/
theorem test_the_earliest_of_a_class_goes_first :
    let a : QueuedFrame := { body := .turn 1 20 7, ofRequest := false }
    let b : QueuedFrame := { body := .turn 2 20 7, ofRequest := false }
    let p : QueuedFrame := { body := .presence, ofRequest := false }
    let s := contending (some slots5) { panel with chan := { panel.chan with txQueue := [p, a, b] } }
    (after .contentionComplete s).chan.txQueue = [p, b] ∧
      (after .contentionComplete s).chan.txFrame.map (·.frame) = some a := by decide +kernel

/-- R23: the lift's PRESENCE: one seat HELD by player 3, two waiting, offer 0 open. -/
theorem test_presence_of_the_lift :
    elementBody liftHeld = [1, 2, 3, 0xE9, 0xFC, 2, 1, 0x20, 2, 0x13, 0x88] ∧
      liftHeld.presenceBody = elementBody liftHeld := by decide +kernel

/-- A frame in transmission. -/
def sending (b : TxBody) (req looped : Bool) (s : State) : State :=
  let f : TxFrame := { frame := { body := b, ofRequest := req }, header := headerFrom 7 0 1 2, body := b.bytes,
                       stampOpen := true, looped := looped }
  { s with chan := { s.chan with txFrame := some f } }

/-- The ASK of a request in transmission. -/
def asking : State := sending (.ask 20 13 false 0 0) true false (robot [request .asking])

theorem test_witness_transmission_end :
    asking.chan.txFrame.isSome = true ∧ asking.link.txFault = false ∧ asking.link.txFault ≠ !false ∧
    panel.chan.txFrame = none ∧ requestOfFrame ask13 asking = some (request .asking) ∧
    requestOfFrame { body := .halt, ofRequest := false } panel = none ∧
    (crowded 1 asking).chan.txQueue ≠ [] ∧ (crowded 1 asking).chan.contention = none ∧
    (busy asking).pins.cd = true ∧ ¬ inLoop (busy asking) ∧
    ((sending .halt false true (testing .loopback panel)).chan.txFrame.map TxFrame.looped) = some true := by decide

theorem test_ask_opens_its_answer_wait :
    (after (.transmissionEnd true) asking).req.list.map (·.deadline) = [some 60940] ∧
    (after (.transmissionEnd false) asking).link.txFault = true := by decide +kernel

/-- R153, R155: TXD starts with the preamble, and is low with TXEN for a looped frame. -/
theorem test_txd_carries_the_run :
    asking.txen = true ∧ (List.range 16).map asking.txd =
      [true, false, true, false, true, false, true, false, true, false, true, false, true, false, true, false] ∧
    panel.txen = false ∧ panel.txd 0 = false ∧ (sending .halt false true (testing .loopback panel)).txen = false ∧
    (sending .halt false true (testing .loopback panel)).txd 0 = false := by decide +kernel

/-- A node that reads a frame. -/
def receiving (stamp : Quad) (s : State) : State :=
  { s with chan := { s.chan with reception := some { stamp := stamp, looped := none } } }

theorem test_witness_reception :
    (receiving 5 panel).chan.reception = some { stamp := 5, looped := none } ∧ ¬ inLoop (receiving 5 panel) ∧
    (headerFrom 7 0 1 9).kind.toNat ≤ 9 ∧ 1 ≤ (headerFrom 7 0 1 1).kind.toNat ∧
    (List.replicate 48 (0 : Byte)).length ≤ 48 ∧
    panel.chan.rxQueue.length < 4 ∧ panel.link.lost = false ∧ panel.chan.reception = none ∧
    (configured panelConfig).port.nodeState = .config ∧ panel.port.nodeState ≠ .config ∧ panel.chan.txFrame = none ∧
    (sending .halt false false panel).chan.txFrame.map TxFrame.looped = some false ∧
    inLoop (sending .halt false true (testing .loopback panel)) ∧
    (sending .halt false true (testing .loopback panel)).chan.txFrame.map TxFrame.stampOpen = some true := by decide

/-- The panel in a loopback test that reads a frame of its own. -/
def readingBack (bs : List Byte) : State :=
  let l := testing .loopback panel
  { l with chan := { l.chan with reception := some { stamp := 5, looped := some bs } } }

theorem test_witness_readings :
    (∀ rxd, Reads (receiving 5 panel) { stamp := 5, looped := none } rxd rxd) ∧
    ∀ rxd bs, Reads (readingBack bs) { stamp := 5, looped := some bs } rxd bs ∧
      (readingBack bs).chan.reception = some { stamp := 5, looped := some bs } :=
  ⟨fun _ => .inl ⟨by decide, rfl⟩, fun _ _ => ⟨.inr ⟨⟨rfl, rfl⟩, rfl⟩, rfl⟩⟩

/-- The header of a PATTERN of the panel's own. -/
def ownHeader : Header := { headerFrom 1 2 0 9 with test := true }

theorem test_witness_looped_pattern :
    let bits := patternBytes 32 32767
    inLoop (readingBack []) ∧ (readingBack []).chan.rxQueue = [] ∧ ownHeader.kind = 9 ∧
    ownHeader.sender = panel.port.cfg.nodeId.setWidth 6 ∧ bits.length = 32 ∧ (readingBack []).link.checkGen = none ∧
    (readingBack []).link.lost = false ∧
    (headerOf (((frameBytes ownHeader (bodyOf (.pattern bits 0))).take 43).drop 1)).sender =
      (readingBack []).port.cfg.nodeId.setWidth 6 := by decide +kernel

/-- R177: a looped PATTERN is received whatever RXD carries, and seeds the check; a looped frame with a bit inverted fails its
CRC. -/
theorem test_a_looped_pattern_is_checked :
    let bs := frameBytes ownHeader (bodyOf (.pattern (patternBytes 32 32767) 0))
    let t := after .patternFrame (after (.frameReceived [9, 9]) (readingBack bs))
    t.link.record.seedFrames = 1 ∧ t.link.checkGen = some (patternSteps 256 32767) ∧ t.link.window.good = 1 ∧
      t.peers = panel.peers ∧ t.hasFlag .idClash = false ∧
      (after (.frameReceived []) (readingBack (bs.set 9 128))).link.window.crc = 1 := by decide +kernel

theorem test_witness_unfinished_frames :
    8 ≤ (byteAt [8] 0).toNat ∧ (byteAt [56] 0).toNat ≤ 56 ∧ [(8 : Byte)].length < (byteAt [8] 0).toNat + 3 ∧
    (List.replicate 58 (56 : Byte)).length < (byteAt (List.replicate 58 56) 0).toNat + 3 ∧
    exec (.frameReceived [8]) (receiving 5 panel) = .next (receiving 5 panel) ∧
    exec (.frameReceived []) (readingBack []) = .next (readingBack []) := by
  refine ⟨by decide, by decide, by decide, by decide, rfl, rfl⟩

theorem test_witness_bodies :
    (3 : Byte).toNat < 4 ∧ 4 ≤ (4 : Byte).toNat ∧ (bodyOf (.answer 7 13 (.granted 3 500 6000))).length = 8 ∧
    (byteAt [7, 13, 0] 2).toNat = 0 ∧ 6 < (byteAt [7, 13, 7] 2).toNat ∧ (patternBytes 32 32767).length = 32 ∧
    1 ≤ liftHeld.seat.table.length ∧ (List.replicate 4 Seat.free).length ≤ 4 ∧
    1 ≤ liftHeld.port.cfg.offerCount.toNat ∧ (4 : Byte).toNat ≤ 4 ∧ 0 < (elementBody liftHeld).length ∧
    byteAt [0] 0 = 0 ∧ 4 < (byteAt [5] 0).toNat ∧ byteAt (1 :: List.replicate 8 0) 6 = 0 ∧
    4 < (byteAt (1 :: List.replicate 8 5) 6).toNat := by decide +kernel

theorem test_witness_reception_checks :
    (byteAt [7] 0).toNat < 8 ∧ 56 < (byteAt [57] 0).toNat ∧ (byteAt (frameBytes (headerFrom 7 0 1 2) []) 0).toNat = 8 ∧
    8 + 3 ≤ (frameBytes (headerFrom 7 0 1 2) []).length ∧
    crc16 ((frameBytes (headerFrom 7 0 1 2) []).take 9) = halfAt (frameBytes (headerFrom 7 0 1 2) []) 9 ∧
    crc16 (([8] ++ List.replicate 10 (0 : Byte)).take 9) ≠ halfAt ([8] ++ List.replicate 10 (0 : Byte)) 9 ∧
    (headerOf (((frameBytes (headerFrom 7 0 1 10) []).take 9).drop 1)).kind.toNat = 10 ∧
    (headerOf (((frameBytes (headerFrom 7 0 1 0) []).take 9).drop 1)).kind.toNat = 0 ∧
    4 ≤ { panel.chan with rxQueue := List.replicate 4 (frameFrom 7 0 1 2 []) }.rxQueue.length ∧
    { panel.link with lost := true }.lost = true ∧
    (headerOf (((frameBytes (headerFrom 7 0 1 9) []).take 9).drop 1)).sender ≠ panel.port.cfg.nodeId.setWidth 6 := by
  decide +kernel

theorem test_a_frame_is_received :
    (after (.frameReceived (frameBytes (headerFrom 7 0 1 2) [20, 13, 0, 0, 0])) (receiving 60900000 panel)
      ).chan.rxQueue = [frameFrom 7 0 1 2 [20, 13, 0, 0, 0]] := by decide +kernel

/-- R177: a looped frame returns though a local ms passes before its sync word, with both stamps of that moment. -/
theorem test_a_looped_frame_returns_after_a_local_ms :
    let s := after (.ftAdvance 0) (sending (.pattern [] 0) false true (testing .loopback panel))
    let t := after (.frameReceived []) (after .syncWordFound s)
    (after .syncWordFound s).chan.reception.map (·.stamp) = some 60901000 ∧
      (after .syncWordFound s).chan.txFrame.map (·.header.stamp) = some 60901000 ∧
      t.chan.reception = none ∧ (after (.ftAdvance 0) asking).chan.txFrame.map (·.stampOpen) = some false := by
  decide +kernel

theorem test_witness_headers :
    (Instr.haltFrame, (8 : BitVec 4)) ∈ frameCommands ∧ panel.chan.rxQueue = [] ∧
    (withFrame (frameFrom 1 2 0 8 []) panel).chan.rxQueue = frameFrom 1 2 0 8 [] :: [] ∧
    (frameFrom 1 2 0 7 []).header.kind ≠ 8 ∧ (frameFrom 1 2 0 8 []).header.sender = panel.port.cfg.nodeId.setWidth 6 ∧
    ¬ inLoop panel ∧ inLoop (testing .loopback panel) ∧ (frameFrom 7 3 1 8 []).header.role = 3 ∧
    (frameFrom 7 0 3 8 []).header.alliance = 3 ∧
    (frameFrom 7 0 1 8 []).header.sender ≠ panel.port.cfg.nodeId.setWidth 6 := by decide

/-- Player 7 LOCKED to node 1, whose slot is of level 0 and heard or SILENT. -/
def following (heard : Bool) : State :=
  let slot : PeerSlot := { role := 2, alliance := 0, level := 0, align := 2, halted := false, test := false, phase := 2,
                           seq := 3, lastHeard := 60000, silence := 500, heard := heard, frames := 9, ad := none }
  { aligning 60900000 0 with peers := { Peers.reset with slots := [(1, slot)] } }

/-- A HALT of a node with a level, an align state and a seq. -/
def haltFrom (sender : NodeId) (level : BitVec 3) (align : BitVec 2) (seq : Byte) : RxFrame :=
  { frameFrom sender 2 0 8 [] with
    header := { headerFrom sender 2 0 8 with level := level, align := align, seq := seq } }

theorem test_witness_header_stages :
    let f := haltFrom 1 0 2 4
    let s := withFrame f (following true)
    let w := headerTimed f s
    Arrives s f 8 ∧ MarkIsNewer w 4 ∧ ¬ MarkIsNewer (headerTimed (haltFrom 1 0 2 3) s) 3 ∧
    (∃ old, lookupId 1 s.peers.slots = some old ∧ old.heard = true) ∧
    (∃ old, lookupId 1 (following false).peers.slots = some old ∧ old.heard = false) ∧
    lookupId 2 s.peers.slots = none ∧ phaseOfCode f.header.phase.toNat = some .driver ∧ w.phase.phase ≠ .ended ∧
    ({ f.header with phase := 6 } : Header).phase.toNat = 6 := by
  refine ⟨arrives_of [] rfl (by decide), ⟨by decide +kernel, fun m h => absurd h (ne_some_of_none (by decide +kernel) m)⟩,
    fun h => absurd h.1 (by decide +kernel), ⟨_, rfl, rfl⟩, ⟨_, rfl, rfl⟩, by decide, by decide, by decide +kernel, rfl⟩

/-- R126, R148: a header of a newer seq is caught up with, and a SILENT node is heard again. -/
theorem test_a_header_is_caught_up_with :
    (after .haltFrame (withFrame (haltFrom 1 0 2 4) (following true))).phase.seq = 4 ∧
    (after .haltFrame (withFrame (haltFrom 1 0 2 3) (following true))).phase.seq = 3 ∧
    (lookupId 1 (after .haltFrame (withFrame (haltFrom 1 0 2 3) (following false))).peers.slots).map (·.heard) =
      some true := by decide +kernel

theorem test_witness_references :
    let s := following true
    Arrives (withFrame (haltFrom 1 0 2 3) s) (haltFrom 1 0 2 3) 8 ∧ (Instr.haltFrame, (8 : BitVec 4)) ∈ frameCommands ∧
    PeerLaw s ∧ PeerLaw { s with time := { s.time with align := .unaligned, level := 7, reference := none } } ∧
    s.time.reference = some 1 ∧ s.time.reference ≠ some 2 ∧ s.time.align ≠ .source ∧ s.time.mode ≠ .fixed ∧
    (panelAt .source .driver).time.align = .source ∧ TrimMode.fixed ≠ .track ∧
    ((haltFrom 1 0 2 3).header.align = 2 ∧ (haltFrom 1 0 2 3).header.level.toNat ≤ 5) ∧
    ¬ ((haltFrom 1 6 2 3).header.level.toNat ≤ 5) ∧ (haltFrom 2 5 3 3).header.level.toNat ≤ 5 := by
  refine ⟨arrives_of [] rfl (by decide), by decide, ?_, ?_, by decide⟩ <;> (unfold PeerLaw; decide)

/-- R99 to R101: the first candidate is chosen at once and sampled; the reference that turns into none is lost. -/
theorem test_a_reference_is_chosen_and_lost :
    let s := { following true with time := { (following true).time with align := .unaligned, level := 7, reference := none } }
    let t := after .haltFrame (withFrame (haltFrom 2 5 3 3) { s with peers := Peers.reset })
    let u := after .haltFrame (withFrame (haltFrom 1 6 2 3) (following true))
    t.time.reference = some 2 ∧ t.time.align = .acquiring ∧ t.time.lastSample.isSome = true ∧ u.time.reference = none ∧
      u.time.align = .holdover ∧ u.hasFlag .alignChanged = true := by decide +kernel

/-- Offsets at which a sample moves FT forward, by a STEP and by a SLEW, and at which it does not. -/
theorem test_witness_samples :
    let s := aligning 1000000 0
    Arrives (withFrame (sampleFrame 1000168 1000000) s) (sampleFrame 1000168 1000000) 8 ∧ s.time.align ≠ .source ∧
    s.time.mode ≠ .fixed ∧ s.time.reference = some 1 ∧ (sampleFrame 1000168 1000000).header.align = 2 ∧
    (sampleFrame 1000168 1000000).header.level.toNat ≤ 5 ∧
    sampleOffset s.port.cfg.linkDelay (sampleFrame 1000168 1000000) = 180 ∧ 0 < correction s.time 180 ∧
    0 < correction s.time 2500 ∧ correction s.time 3 ≤ 0 ∧ correction s.time (-3000) ≤ 0 ∧
    (correctedTime s.time 2500).ft = 1002500 ∧ reachesLock { s.time with align := .acquiring, lockCount := 3 } 250 = true ∧
    reachesLock { s.time with align := .acquiring, lockCount := 3 } 251 = false :=
  ⟨arrives_of [] rfl (by decide), by decide +kernel⟩

/-- The stamp of a frame in transmission: open, taken, and that of a looped frame. -/
theorem test_witness_stamps_of_frames :
    ((sending .halt false false (aligning 1000000 0)).chan.txFrame.map fun g => (g.stampOpen, g.looped)) =
      some (true, false) ∧
    ((sending .halt false true (aligning 1000000 0)).chan.txFrame.map fun g => (g.stampOpen, g.looped)) =
      some (true, true) ∧
    ((after (.ftAdvance 0) (sending .halt false false (aligning 1000000 0))).chan.txFrame.map TxFrame.stampOpen) =
      some false := by decide +kernel

/-- Log entry 6: a STEP forward draws a free value for the stamp of an open frame, and leaves a looped frame as it is. -/
theorem test_a_step_restamps_an_open_frame :
    let step (s : State) : State := after .haltFrame (withFrame (sampleFrame 1002488 1000000) s)
    let sent : State := sending .halt false false (aligning 1000000 0)
    let looped : State := sending .halt false true (aligning 1000000 0)
    (step sent).time.ft = 1002500 ∧ (step sent).freeIndex = sent.freeIndex + 1 ∧
      ((step sent).chan.txFrame.map fun g => (g.body, g.stampOpen)) = some ([], true) ∧
      (step looped).chan.txFrame = looped.chan.txFrame ∧ (step looped).freeIndex = looped.freeIndex := by decide +kernel

/-- R128: a STEP past a pending mark's boundary applies the mark. -/
theorem test_a_step_reaches_a_boundary :
    let m : PendingMark := { seq := 4, phase := .paused, boundary := 1002900, carried := 1002900 }
    let at' (b : Nat) : State := { aligning 1000400 0 with
      phase := { (aligning 1000400 0).phase with pending := some { m with boundary := b } } }
    (after .haltFrame (withFrame (sampleFrame 1002888 1000400) (at' 1002900))).phase.phase = .paused ∧
      (after .haltFrame (withFrame (sampleFrame 1002888 1000400) (at' 1002901))).phase.phase = .driver := by decide +kernel

/-- An ASK of a player for a claim: its third byte and its hold in units. -/
def askFrom (sender : NodeId) (claim flags units : Byte) : RxFrame :=
  frameFrom sender 0 1 2 [20, claim, flags, 0, units]

theorem test_witness_ask_not_for_the_arbiter :
    Arrives (withFrame (frameFrom 7 0 1 2 [20, 88, 0, 0]) liftHeld) (frameFrom 7 0 1 2 [20, 88, 0, 0]) 2 ∧
    (frameFrom 7 0 1 2 [20, 88, 0, 0]).body.length < 5 ∧ panel.port.cfg.role ≠ 1 ∧
    Arrives (withFrame (frameFrom 7 0 1 2 [21, 88, 0, 0, 0]) liftHeld) (frameFrom 7 0 1 2 [21, 88, 0, 0, 0]) 2 ∧
    idAt [21, 88, 0, 0, 0] 0 ≠ liftHeld.port.cfg.nodeId.setWidth 6 ∧
    Arrives (withFrame (frameFrom 7 1 0 2 [20, 88, 0, 0, 0]) liftHeld) (frameFrom 7 1 0 2 [20, 88, 0, 0, 0]) 2 ∧
    (frameFrom 7 1 0 2 [20, 88, 0, 0, 0]).header.role ≠ 0 ∧
    (afterHeader (askFrom 7 88 0 0) (inState .test (withFrame (askFrom 7 88 0 0) liftHeld))
      ).port.nodeState ≠ .running :=
  ⟨arrives_of [] rfl (by decide), by decide, by decide, arrives_of [] rfl (by decide), by decide,
    arrives_of [] rfl (by decide), by decide, by decide +kernel⟩

/-- The lift with a RENEWABLE offer, its seat in a given state, and no one waiting. -/
def renewable (x : Seat) (budget : Nat) : State :=
  let s := lift x
  { s with
    port := { s.port with cfg := { s.port.cfg with offer0 := { s.port.cfg.offer0 with kind := 1 } } },
    arb := { s.arb with waiting := [], ring := [record 3 budget (.seated 0)] } }

theorem test_witness_ask_of_a_seat :
    let f := askFrom 3 12 0 0
    let r := askFrom 3 12 128 0
    let u := afterHeader f (withFrame f liftHeld)
    let v (x : Seat) (b : Nat) : State := afterHeader r (withFrame r (renewable x b))
    let held := Seat.held claim12 none 0 false
    Arrives (withFrame f liftHeld) f 2 ∧ HoldsSeat u 3 0 claim12 ∧ HoldsSeat (v held 2) 3 0 claim12 ∧
    ForArbiter u f 5 ∧ ForArbiter (v held 2) r 5 ∧ claim12.number = byteAt f.body 1 ∧
    (byteAt f.body 2).getLsbD 7 = false ∧ (byteAt r.body 2).getLsbD 7 = true ∧
    renewalDenial u 3 0 claim12 = some 48 ∧ renewalDenial (v (.guard claim12 5 false) 8) 3 0 claim12 = some 49 ∧
    renewalDenial { v held 8 with arb := { (v held 8).arb with
      waiting := [entry9], ring := [record 3 8 (.seated 0), record 9 10 .waiting] } } 3 0 claim12 = some 50 ∧
    renewalDenial (v held 1) 3 0 claim12 = some 39 ∧ renewalDenial (v held 2) 3 0 claim12 = none ∧
    (v held 2).seat.table[0]? = some held :=
  ⟨arrives_of [] rfl (by decide), holds_seat_0 (by decide +kernel) rfl, holds_seat_0 (by decide +kernel) rfl,
    by decide +kernel⟩

theorem test_renewal_is_charged :
    let t := after .askFrame (withFrame (askFrom 3 12 128 0) (renewable (.held claim12 none 0 false) 2))
    t.arb.ring.map (·.budget) = [0] ∧
      t.chan.txQueue = [{ body := .answer 3 12 (.renewed 5000), ofRequest := false }] := by decide +kernel

theorem test_witness_ask_of_an_entry :
    let f := askFrom 7 88 0 0
    let u := afterHeader f (withFrame f liftHeld)
    Arrives (withFrame f liftHeld) f 2 ∧ ¬ SeatedUnder u 7 88 ∧ ForArbiter u f 5 ∧ entryOf u 7 = some entry7 ∧
      entry7.claim = byteAt f.body 1 :=
  ⟨arrives_of [] rfl (by decide), not_seated_under_of_one (by decide +kernel) (by decide +kernel), by decide +kernel⟩

/-- The lift with player 3's claim 12 ended. -/
def liftEnded : State :=
  { lift (.clearing 300) with arb := { Arbiter.reset with
      ring := [{ record 3 8 .none with lastEnded := some (12, .expired) }] } }

theorem test_witness_ask_of_an_ended_claim :
    let f := askFrom 3 12 0 0
    let g := askFrom 3 13 128 0
    let u := afterHeader f (withFrame f liftEnded)
    let v := afterHeader g (withFrame g liftEnded)
    Arrives (withFrame f liftEnded) f 2 ∧ Arrives (withFrame g liftEnded) g 2 ∧ PastOrNew u 3 12 ∧ PastOrNew v 3 13 ∧
    ForArbiter u f 5 ∧ ForArbiter v g 5 ∧ lastEndedOf u 3 = some (byteAt f.body 1, .expired) ∧
    lastEndedOf v 3 = some (12, .expired) ∧ byteAt g.body 1 ≠ 12 ∧ (byteAt g.body 2).getLsbD 7 = true :=
  ⟨arrives_of [] rfl (by decide), arrives_of [] rfl (by decide),
    past_or_new (by decide +kernel) (by decide +kernel) (by decide +kernel),
    past_or_new (by decide +kernel) (by decide +kernel) (by decide +kernel), by decide +kernel⟩

/-- A new claim's ASK from player 11 with a level. -/
def newAsk (level : BitVec 3) (flags : Byte) : RxFrame :=
  let f := askFrom 11 1 flags 60
  { f with header := { f.header with level := level } }

/-- The lift as the frame's header leaves it. -/
def met (f : RxFrame) (s : State) : State := afterHeader f (withFrame f s)

/-- The lift with another offer 0. -/
def offering (o : OfferSlot) : State :=
  { liftHeld with port := { liftHeld.port with cfg := { liftConfig with offer0 := o } } }

/-- The lift with n records of players 30 and up in the ring. -/
def ringOf (n : Nat) : State :=
  { liftHeld with arb := { liftHeld.arb with
      ring := (List.range n).map fun i => record (BitVec.ofNat 6 (30 + i)) 10 .none } }

theorem test_witness_early_refusals :
    let f := newAsk 6 0
    Arrives (withFrame f liftHeld) f 2 ∧ PastOrNew (met f liftHeld) 11 1 ∧
    (∀ r, lastEndedOf (met f liftHeld) 11 ≠ some (1, r)) ∧ ForArbiter (met f liftHeld) f 5 ∧
    (byteAt f.body 2).getLsbD 7 = false ∧ earlyRefusal (met (newAsk 7 0) liftHeld) (newAsk 7 0) = some 32 ∧
    earlyRefusal (met (newAsk 6 1) liftHeld) (newAsk 6 1) = some 33 ∧
    earlyRefusal (met f (offering { liftConfig.offer0 with restriction := 2 })) f = some 34 ∧
    earlyRefusal (met f (offering { liftConfig.offer0 with restriction := 1 })) f = none ∧
    earlyRefusal (met f (offering { liftConfig.offer0 with openPhases := 5 })) f = some 35 ∧
    earlyRefusal (met f (ringOf 24)) f = some 36 ∧ earlyRefusal (met f (ringOf 23)) f = none ∧
    earlyRefusal (met f liftHeld) f = none :=
  ⟨arrives_of [] rfl (by decide), past_or_new (by decide +kernel) (by decide +kernel) (by decide +kernel),
    fun r => ne_some_of_none (by decide +kernel) (1, r), by decide +kernel⟩

/-- The lift with player 11's record. -/
def standing (r : StandingRecord) : State := { liftHeld with arb := { liftHeld.arb with ring := [r] } }

/-- The lift with n entries waiting, none of player 11. -/
def crowd (n : Nat) : State :=
  { liftHeld with arb := { liftHeld.arb with
      waiting := (List.range n).map fun i => { entry9 with player := BitVec.ofNat 6 (30 + i) } } }

theorem test_witness_late_refusals :
    let f := newAsk 6 0
    let late (s : State) : Option Byte := lateRefusal (met f s) 11 2
    late (standing { record 11 10 .none with ejected := true }) = some 37 ∧
    late (standing { record 11 10 .none with bench := 1 }) = some 38 ∧
    late (standing { record 11 10 .none with benchEnding := true }) = none ∧
    late (standing (record 11 1 .none)) = some 39 ∧ late (standing (record 11 2 .none)) = none ∧
    late (lift (.held { claim12 with player := 11 } none 0 false)) = some 40 ∧ late (crowd 16) = some 41 ∧
    late (crowd 15) = none ∧ (∀ x ∈ (met f liftHeld).seat.table, x ≠ .free) ∧ entryOf (met f liftHeld) 11 = none ∧
    entryOf (met (askFrom 9 41 0 0) liftHeld) 9 = some entry9 := by decide +kernel

/-- The lift with its one seat FREE, the gate open and no one waiting. -/
def liftFree : State := { lift .free with arb := Arbiter.reset }

theorem test_witness_granted_at_once :
    let f := newAsk 6 0
    let u := met f liftFree
    let e : Entry := { player := 11, claim := 1, offer := 0, hold := 5000, refreshed := 60900 }
    let listed : State := { u with arb := { u.arb with waiting := [e], ring := [record 11 10 .waiting] } }
    Arrives (withFrame f liftFree) f 2 ∧ PastOrNew u 11 1 ∧ earlyRefusal u f = none ∧ lateRefusal u 11 2 = none ∧
    ringWith u 11 = [record 11 10 .none] ∧ u.gateOpen = true ∧ u.seat.table[0]? = some .free ∧
    listed.chosen = some e ∧ entryOf listed.resolve 11 = none ∧ (∀ m, m < 0 → u.seat.table[m]? ≠ some .free) ∧
    (after .askFrame (withFrame f liftFree)).holders = [11] :=
  ⟨arrives_of [] rfl (by decide), past_or_new (by decide +kernel) (by decide +kernel) (by decide +kernel),
    by decide +kernel, by decide +kernel, by decide +kernel, by decide +kernel, by decide +kernel, by decide +kernel,
    by decide +kernel, fun m h => absurd h (Nat.not_lt_zero m), by decide +kernel⟩

theorem test_a_new_claim_waits :
    let t := after .askFrame (withFrame (newAsk 6 0) liftHeld)
    t.arb.waiting.map (·.hold) = [3000, 5000, 5000] ∧ t.arb.ring.map (·.player) = [3, 7, 9, 11] ∧
      t.chan.txQueue = [{ body := .answer 11 1 (.waiting 3 3), ofRequest := false }] := by decide +kernel

theorem test_witness_yield_frames :
    let f := frameFrom 3 0 1 3 [20, 12]
    let g := frameFrom 7 0 1 3 [20, 88]
    let e := frameFrom 3 0 1 3 [20, 12]
    let x := frameFrom 7 0 1 3 [20, 89]
    Arrives (withFrame f liftHeld) f 3 ∧ Arrives (withFrame g liftHeld) g 3 ∧ Arrives (withFrame e liftEnded) e 3 ∧
    Arrives (withFrame (frameFrom 7 0 1 3 [20]) liftHeld) (frameFrom 7 0 1 3 [20]) 3 ∧
    Arrives (withFrame (frameFrom 7 2 0 3 [20, 88]) liftHeld) (frameFrom 7 2 0 3 [20, 88]) 3 ∧
    HoldsSeat (met f liftHeld) 3 0 claim12 ∧ ¬ SeatedUnder (met g liftHeld) 7 88 ∧ PastOrNew (met e liftEnded) 3 12 ∧
    PastOrNew (met x liftHeld) 7 89 ∧ ForArbiter (met f liftHeld) f 2 ∧ claim12.number = byteAt f.body 1 ∧
    ForArbiter (met g liftHeld) g 2 ∧ entryOf (met g liftHeld) 7 = some entry7 ∧ entry7.claim = byteAt g.body 1 ∧
    ForArbiter (met e liftEnded) e 2 ∧ lastEndedOf (met e liftEnded) 3 = some (byteAt e.body 1, .expired) ∧
    ForArbiter (met x liftHeld) x 2 ∧ lastEndedOf (met x liftHeld) 7 = none :=
  ⟨arrives_of [] rfl (by decide), arrives_of [] rfl (by decide), arrives_of [] rfl (by decide),
    arrives_of [] rfl (by decide), arrives_of [] rfl (by decide), holds_seat_0 (by decide +kernel) rfl,
    not_seated_under_of_one (by decide +kernel) (by decide +kernel),
    past_or_new (by decide +kernel) (by decide +kernel) (by decide +kernel),
    past_or_new (by decide +kernel) (by decide +kernel) (by decide +kernel), by decide +kernel⟩

/-- An ANSWER of element 20 to player 7's claim 13. -/
def answerFrom (a : AnswerBody) : RxFrame := frameFrom 20 1 0 4 ([7, 13] ++ a.bytes)

theorem test_witness_answers :
    let g := AnswerBody.granted 3 5000 60900
    let u (a : AnswerBody) (st : RequestState) : State := met (answerFrom a) (robot [request st])
    Arrives (withFrame (answerFrom g) (robot [request .asking])) (answerFrom g) 4 ∧
    Matches (u g .asking) (answerFrom g) (request .asking) ∧ Matches (u g .waiting) (answerFrom g) (request .waiting) ∧
    Matches (u g .seated) (answerFrom g) (request .seated) ∧
    Matches (u g .yielding) (answerFrom g) (request .yielding) ∧ answerOf (answerFrom g).body = some g ∧
    answerOf (answerFrom (.waiting 1 2)).body = some (.waiting 1 2) ∧
    answerOf (answerFrom (.refused 39)).body = some (.refused 39) ∧
    answerOf (answerFrom (.ended 2)).body = some (.ended 2) ∧
    answerOf (answerFrom (.renewed 5000)).body = some (.renewed 5000) ∧
    answerOf (answerFrom (.renewDenied 50)).body = some (.renewDenied 50) ∧
    { request .seated with renewPending := true, seat := 3 }.seat = 3 :=
  ⟨arrives_of [] rfl (by decide), by unfold Matches; decide +kernel, by unfold Matches; decide +kernel,
    by unfold Matches; decide +kernel, by unfold Matches; decide +kernel, by decide +kernel⟩

theorem test_a_grant_seats_the_request :
    let t := after .answerFrame (withFrame (answerFrom (.granted 0 5000 60900)) (robot [request .waiting]))
    t.req.list.map (·.state) = [.seated] ∧ t.req.list.map (·.countdown) = [5000] ∧
      t.port.notices.map (·.kind) = [.granted] := by decide +kernel

/-- The lift with element 21 as a partner. -/
def partnered : State :=
  { liftHeld with views := [{ id := 21, rule := .exclusive, seats := [], lastHeard := 0, silent := true }] }

/-- The same with a COMPANION partner. -/
def companioned : State :=
  { liftHeld with views := [{ id := 21, rule := .companion, seats := [], lastHeard := 0, silent := false }] }

theorem test_witness_stray_answers :
    let g := answerFrom (.granted 0 5000 60900)
    let w := answerFrom (.waiting 1 2)
    let role := frameFrom 20 0 1 4 ([7, 13] ++ AnswerBody.bytes (.waiting 1 2))
    Arrives (withFrame g (robot [])) g 4 ∧ Arrives (withFrame w (robot [])) w 4 ∧
    Arrives (withFrame role (robot [])) role 4 ∧ ForRequests (met g (robot [])) g ∧ ForRequests (met w (robot [])) w ∧
    ForRequests (met role (robot [])) role ∧ (∀ r ∈ (met g (robot [])).req.list, r.element ≠ 20 ∨ r.claim ≠ 13) ∧
    g.header.role = 1 ∧ role.header.role ≠ 1 ∧ answerOf g.body = some (.granted 0 5000 60900) ∧
    answerOf w.body = some (.waiting 1 2) ∧ answerOf role.body = some (.waiting 1 2) ∧
    (∀ seat hold mark, AnswerBody.waiting 1 2 ≠ .granted seat hold mark) ∧ panel.port.cfg.role = 2 ∧
    answerOf ([7, 13, 0] : List Byte) = none ∧ (met g (inState .test (robot []))).port.nodeState ≠ .running ∧
    idAt ([8, 13] : List Byte) 0 ≠ (robot []).port.cfg.nodeId.setWidth 6 ∧ liftHeld.port.cfg.role = 1 :=
  ⟨arrives_of [] rfl (by decide), arrives_of [] rfl (by decide), arrives_of [] rfl (by decide), by decide +kernel,
    by decide +kernel, by decide +kernel, by decide +kernel, by decide, by decide, by decide, by decide, by decide,
    fun _ _ _ h => AnswerBody.noConfusion h, by decide, by decide, by decide +kernel, by decide, by decide⟩

theorem test_a_stray_grant_draws_a_yield :
    (after .answerFrame (withFrame (answerFrom (.granted 0 5000 60900)) (robot []))).chan.txQueue =
      [{ body := .yield 20 13, ofRequest := false }] := by decide +kernel

/-- A PRESENCE of element 20: one seat in a state held by a player, none waiting, one offer. -/
def presenceFrom (sender : NodeId) (st holder : Byte) : RxFrame :=
  frameFrom sender 1 0 1 [1, st, holder, 0, 0, 0, 1, 0x20, 2, 0x13, 0x88]

theorem test_witness_partner_frames :
    let a := frameFrom 21 1 0 4 ([7, 13] ++ AnswerBody.bytes (.granted 0 5000 60900))
    let p := presenceFrom 21 2 7
    let v : PartnerView := { id := 21, rule := .exclusive, seats := [], lastHeard := 0, silent := true }
    Arrives (withFrame a partnered) a 4 ∧ Arrives (withFrame p partnered) p 1 ∧
    viewDiffers v (viewAnswered 7 13 (.granted 0 5000 60900) 60900 v) ∧
    ¬ viewDiffers v (viewAnswered 7 13 (.waiting 1 2) 60900 v) ∧ (met a partnered).port.nodeState = .running ∧
    partnered.port.cfg.role = 1 ∧ a.header.role = 1 ∧ p.header.role = 1 ∧
    (met a partnered).views.map (·.id) = [21] ∧ (met a liftHeld).views = [] ∧
    answerOf a.body = some (.granted 0 5000 60900) ∧ (elementPresenceOf p.body).isSome = true ∧
    elementPresenceOf ([] : List Byte) = none :=
  ⟨arrives_of [] rfl (by decide), arrives_of [] rfl (by decide), by unfold viewDiffers; decide,
    by unfold viewDiffers; decide, by decide +kernel⟩

/-- R66, R67: player 3's seat ends when its companion's PRESENCE shows it on no seat, and yields to an exclusive partner
whose grant is earlier. -/
theorem test_interlock_ends_seats :
    (after .presenceFrame (withFrame (presenceFrom 21 2 7) companioned)).arb.ring.map (·.lastEnded) =
      [none, none, some (12, .interlock)] ∧
    (after .presenceFrame (withFrame (presenceFrom 21 2 3) companioned)).holders = [3] ∧
    (after .answerFrame (withFrame (frameFrom 21 1 0 4 ([7, 13] ++ AnswerBody.bytes (.granted 0 5000 59899))) partnered)
      ).holders = [] ∧
    (after .answerFrame (withFrame (frameFrom 21 1 0 4 ([7, 13] ++ AnswerBody.bytes (.granted 0 5000 59901))) partnered)
      ).holders = [3] := by decide +kernel

theorem test_witness_boundary : 0 ≤ 2 ^ 40 - 1 ∧ 2 ^ 40 - 1 ≤ 2 ^ 40 - 1 ∧ 2 ^ 32 ≤ 2 ^ 40 - 1 ∧
    2 ^ 32 % 2 ^ 32 = (0 : Quad).toNat := by decide

/-- A MARK of the panel: seq, phase code and carried boundary. -/
def markFrom (seq phase : Byte) (carried : Quad) : RxFrame :=
  frameFrom 1 2 0 5 ([seq, phase] ++ bytesOf 4 carried.toNat)

/-- The same MARK from a node that has applied none. -/
def freshMark : RxFrame := { markFrom 1 2 0 with header := { headerFrom 1 2 0 5 with seq := 0 } }

theorem test_witness_newer_seqs :
    MarkIsNewer (met (markFrom 4 2 0) liftHeld) 4 ∧ MarkIsNewer (met (markFrom 130 2 0) liftHeld) 130 ∧
    ¬ MarkIsNewer (met (markFrom 3 2 0) liftHeld) 3 ∧ ¬ MarkIsNewer (met (markFrom 131 2 0) liftHeld) 131 ∧
    MarkIsNewer (met freshMark State.reset) 1 := by
  refine ⟨⟨by decide +kernel, ?_⟩, ⟨by decide +kernel, ?_⟩, fun h => absurd h.1 (by decide +kernel),
    fun h => absurd h.1 (by decide +kernel), ⟨by decide +kernel, ?_⟩⟩ <;>
    intro m h <;> exact absurd h (ne_some_of_none (by decide +kernel) m)

theorem test_witness_mark_frames :
    let soon := markFrom 4 2 60900001
    let now := markFrom 4 2 60900000
    Arrives (withFrame soon liftHeld) soon 5 ∧ Arrives (withFrame now liftHeld) now 5 ∧ 6 ≤ now.body.length ∧
    ([4, 2, 0, 0, 0] : List Byte).length < 6 ∧ phaseOfCode (byteAt now.body 1).toNat = some .driver ∧
    phaseOfCode (byteAt (markFrom 4 6 0).body 1).toNat = none ∧ (frameFrom 3 0 1 5 now.body).header.role ≠ 2 ∧
    (met soon liftHeld).time.ft < rebuildBoundary (met soon liftHeld).time.ft (quadAt soon.body 2) ∧
    rebuildBoundary (met now liftHeld).time.ft (quadAt now.body 2) ≤ (met now liftHeld).time.ft ∧
    (met now (marked (markTo .ended 60900001) .ended)).phase.phase = .ended ∧
    (met now (marked (markTo .driver 60900001) .driver)).phase.pending = some (markTo .driver 60900001) ∧
    byteAt now.body 0 = (markTo .driver 60900001).seq ∧ quadAt now.body 2 ≠ (markTo .driver 60900001).carried ∧
    quadAt (markFrom 4 2 0).body 2 = (markTo .driver 60900001).carried ∧ (3 : Byte) = (met now liftHeld).phase.seq ∧
    (met now liftHeld).phase.currentCarried = none ∧ (2 : Byte) ≠ (met now liftHeld).phase.seq :=
  ⟨arrives_of [] rfl (by decide), arrives_of [] rfl (by decide), by decide +kernel⟩

theorem test_witness_halt_frames :
    let f := frameFrom 17 0 1 8 []
    Arrives (withFrame f liftHeld) f 8 ∧ (met f liftHeld).phase.latch = false ∧
    (met f { liftHeld with phase := { liftHeld.phase with latch := true } }).phase.latch = true :=
  ⟨arrives_of [] rfl (by decide), by decide +kernel⟩

/-- A state with a slot of the referee 1. -/
def refereed (last : Option Byte) (s : State) : State :=
  { s with peers := { s.peers with referees := [{ id := 1, lastSeq := last, ad := none }] } }

def sanctionFrom (seq player code : Byte) : RxFrame := frameFrom 1 2 0 6 [seq, player, code, 0, 50]

theorem test_witness_orders_taken :
    OrderTaken (met (sanctionFrom 5 7 1) (refereed none liftHeld)) (sanctionFrom 5 7 1) 5 ∧
    OrderTaken (met (sanctionFrom 5 7 1) (refereed (some 4) liftHeld)) (sanctionFrom 5 7 1) 5 := by
  have h1 : (met (sanctionFrom 5 7 1) (refereed none liftHeld)).peers.referees.find?
      (fun r => decide (r.id = 1)) = some { id := 1, lastSeq := none, ad := none } := by decide +kernel
  have h2 : (met (sanctionFrom 5 7 1) (refereed (some 4) liftHeld)).peers.referees.find?
      (fun r => decide (r.id = 1)) = some { id := 1, lastSeq := some 4, ad := none } := by decide +kernel
  refine ⟨⟨rfl, _, h1, fun last h => absurd h (by simp)⟩, ⟨rfl, _, h2, fun last h => ?_⟩⟩
  cases h; decide

theorem test_witness_order_tests :
    let f := sanctionFrom 5 7 3
    let g := frameFrom 1 2 0 7 [5, 20, 7]
    Arrives (withFrame f (refereed (some 5) liftHeld)) f 6 ∧ Arrives (withFrame g (refereed (some 5) liftHeld)) g 7 ∧
    5 ≤ f.body.length ∧ 3 ≤ g.body.length ∧ ([5, 7, 1, 0] : List Byte).length < 5 ∧
    (met f (refereed (some 5) liftHeld)).port.nodeState = .running ∧
    (met f (refereed (some 5) (inState .listening liftHeld))).port.nodeState = .listening ∧
    1 ≤ (byteAt f.body 2).toNat ∧ (byteAt f.body 2).toNat ≤ 3 ∧ (frameFrom 3 0 1 6 f.body).header.role ≠ 2 ∧
    ((met f (refereed (some 5) liftHeld)).peers.referees.find? fun r => decide (r.id = 1)) =
      some { id := 1, lastSeq := some 5, ad := none } ∧ byteAt f.body 0 = 5 ∧ newer 5 6 = false ∧ newer 5 133 = false ∧
    newer 5 134 = true ∧ (1 : Byte) ≠ 0 ∧ panel.port.cfg.role = 2 :=
  ⟨arrives_of [] rfl (by decide), arrives_of [] rfl (by decide), by decide +kernel⟩

theorem test_witness_sanctions :
    let s := refereed none (robot [request .asking])
    let e := refereed none liftHeld
    let b := refereed none (standing { record 11 10 .none with bench := 5 })
    Arrives (withFrame (sanctionFrom 5 7 2) s) (sanctionFrom 5 7 2) 6 ∧
    Arrives (withFrame (sanctionFrom 5 7 2) e) (sanctionFrom 5 7 2) 6 ∧ HoldsSeat (met (sanctionFrom 5 3 2) e) 3 0 claim12 ∧
    (∀ n c, ¬ HoldsSeat (met (sanctionFrom 5 7 2) e) 7 n c) ∧
    (∃ x, lookupId 1 (met (sanctionFrom 5 1 2) e).peers.slots = some x ∧ x.role ≠ 0) ∧
    s.port.cfg.role = 0 ∧ e.port.cfg.role = 1 ∧
    idAt (sanctionFrom 5 7 2).body 1 = s.port.cfg.nodeId.setWidth 6 ∧
    idAt (sanctionFrom 5 8 2).body 1 ≠ s.port.cfg.nodeId.setWidth 6 ∧
    lookupId 7 (met (sanctionFrom 5 7 2) e).peers.slots = none ∧ entryOf (met (sanctionFrom 5 7 2) e) 7 = some entry7 ∧
    entryOf (met (sanctionFrom 5 11 2) e) 11 = none ∧ (recordOf (met (sanctionFrom 5 7 2) e) 7).isSome = true ∧
    recordOf (met (sanctionFrom 5 11 2) e) 11 = none ∧ (recordOf (met (sanctionFrom 5 11 3) b) 11).map (·.bench) = some 5 ∧
    (recordOf (met (sanctionFrom 5 7 3) e) 7).map (·.bench) = some 0 ∧
    24 ≤ (met (sanctionFrom 5 11 2) (ringOf 24)).arb.ring.length ∧
    (met (sanctionFrom 5 11 2) (ringOf 23)).arb.ring.length < 24 :=
  ⟨arrives_of [] rfl (by decide), arrives_of [] rfl (by decide), holds_seat_0 (by decide +kernel) rfl,
    holds_no_seat_of_one (by decide +kernel) (by decide +kernel), ⟨_, rfl, by decide⟩, by decide +kernel⟩

theorem test_an_eject_ends_the_seat :
    let t := after .sanctionFrame (withFrame (sanctionFrom 5 3 2) (refereed none liftHeld))
    t.seat.table = [.clearing 500] ∧ t.arb.ring.map (·.ejected) = [false, false, true] ∧
      t.port.notices.map (·.kind) = [.seatEnded, .sanctionTaken] := by decide +kernel

theorem test_witness_turns :
    let f := frameFrom 1 2 0 7 [5, 20, 7]
    let u := met f (refereed none liftHeld)
    Arrives (withFrame f (refereed none liftHeld)) f 7 ∧ 3 ≤ f.body.length ∧ u.port.nodeState = .running ∧
    idAt f.body 1 = liftHeld.port.cfg.nodeId.setWidth 6 ∧ (robot []).port.cfg.role ≠ 1 ∧
    idAt [5, 21, 7] 1 ≠ liftHeld.port.cfg.nodeId.setWidth 6 ∧ (∀ r ∈ u.arb.ring, r.player ≠ 8) ∧
    u.arb.ring = [record 3 8 (.seated 0)] ++ record 7 10 .waiting :: [record 9 10 .waiting] ∧
    (record 7 10 .waiting).player = 7 ∧ (∀ x ∈ [record 3 8 (.seated 0)], x.player ≠ 7) ∧
    (∀ x ∈ u.seat.table, x ≠ .free) := ⟨arrives_of [] rfl (by decide), by decide +kernel⟩

theorem test_witness_presence_bodies :
    let f := presenceFrom 20 2 7
    let g := presenceFrom 20 0 255
    let s := robot [request .seated]
    (∃ x, [({ state := 2, holder := some 7, mark := 0, claim := none } : ViewSeat)][(request .seated).seat.toNat]? = some x ∧
      (x.state = 1 ∨ x.state = 2) ∧ x.holder = some (s.port.cfg.nodeId.setWidth 6)) ∧
    Arrives (withFrame f s) f 1 ∧ Arrives (withFrame g s) g 1 ∧ (met f s).port.nodeState = .running ∧
    (met f (inState .test s)).port.nodeState ≠ .running ∧ s.port.cfg.role = 0 ∧ f.header.role = 1 ∧
    elementPresenceOf [] = none ∧ (elementPresenceOf f.body).isSome = true ∧ (elementPresenceOf g.body).isSome = true ∧
    (lookupId 20 (met f s).req.view).isSome = true ∧ lookupId 21 (met f s).req.view = none ∧
    (met f s).req.view.length < 32 ∧
    32 ≤ ((List.range 32).map fun i => (BitVec.ofNat 6 i, heard20)).length ∧
    (met f s).request 20 = some (request .seated) ∧ (request .seated).state = .seated ∧
    (elementPresenceOf f.body).map (fun x => x.1.map (·.holder)) = some [some 7] ∧
    (elementPresenceOf g.body).map (fun x => x.1.map (·.holder)) = some [none] ∧
    (s.port.cfg.nodeId.setWidth 6 : NodeId) = 7 :=
  ⟨⟨_, rfl, Or.inr rfl, rfl⟩, arrives_of [] rfl (by decide), arrives_of [] rfl (by decide), by decide +kernel⟩

theorem test_an_unconfirmed_seat_is_lost :
    (after .presenceFrame (withFrame (presenceFrom 20 0 255) (robot [request .seated]))).req.list = [] ∧
    (after .presenceFrame (withFrame (presenceFrom 20 2 7) (robot [request .seated]))).req.list =
      [request .seated] := by decide +kernel

theorem test_witness_other_presence_bodies :
    let r := frameFrom 2 2 0 1 [128, 5]
    let p := frameFrom 9 0 1 1 [0xC2]
    Arrives (withFrame r liftHeld) r 1 ∧ Arrives (withFrame p liftHeld) p 1 ∧ 2 ≤ r.body.length ∧ 1 ≤ p.body.length ∧
    r.header.role = 2 ∧ p.header.role = 0 ∧ (met r liftHeld).port.nodeState = .running ∧
    ([128] : List Byte).length < 2 ∧ ([] : List Byte).length < 1 ∧ (presenceFrom 21 2 7).header.role = 1 ∧
    panel.port.cfg.role = 2 := ⟨arrives_of [] rfl (by decide), arrives_of [] rfl (by decide), by decide +kernel⟩

/-- A PATTERN of node 9 with the first bits of the generator. -/
def patternFrom (sender : NodeId) (seq : Byte) : RxFrame := frameFrom sender 2 0 9 (patternBytes 32 32767 ++ [0, seq])

theorem test_witness_patterns :
    let s := testing .patternCheck (robot [])
    let l := testing .loopback panel
    let once := after .patternFrame (withFrame (patternFrom 9 0) s)
    Arrives (withFrame (patternFrom 9 0) s) (patternFrom 9 0) 9 ∧
    (∃ rest, (withFrame (patternFrom 1 0) l).chan.rxQueue = patternFrom 1 0 :: rest) ∧ inLoop l ∧
    (patternFrom 1 0).header.sender = l.port.cfg.nodeId.setWidth 6 ∧ 34 ≤ (patternFrom 9 0).body.length ∧
    ([] : List Byte).length < 34 ∧ s.link.checkGen = none ∧ once.link.checkGen.isSome = true ∧
    once.link.patternSource = some 9 ∧ once.link.expectedSeq = 1 ∧ once.link.record.seedFrames = 1 ∧
    (halfAt (patternFrom 9 1).body 32 - once.link.expectedSeq).toNat = 0 ∧
    32768 ≤ (halfAt (patternFrom 9 0).body 32 - once.link.expectedSeq).toNat ∧
    once.link.patternSource ≠ some 8 ∧ (robot []).port.nodeState ≠ .test :=
  ⟨arrives_of [] rfl (by decide), ⟨_, rfl⟩, by decide +kernel⟩

/-- The lift under the halt latch, a mark pending. -/
def latched : State :=
  { liftHeld with phase := { liftHeld.phase with latch := true, pending := some (markTo .driver 0) } }

theorem test_witness_a_latch_that_clears :
    (∃ t, exec .markBoundaryReached latched = .next t) ∧ latched.phase.latch = true ∧
      (after .markBoundaryReached latched).phase.latch = false ∧ (after .pinReset latched).phase.latch = false := by
  refine ⟨⟨_, rfl⟩, by decide +kernel⟩

/-- Each way a mark can be at hand: pending, in a header, in a MARK body, in a SEND_MARK, and in the command block. -/
theorem test_witness_marks_at_hand :
    MarkAtHand .markBoundaryReached latched 4 .driver ∧
    MarkAtHand .askFrame (withFrame (frameFrom 1 2 0 2 []) latched) 3 .driver ∧
    MarkAtHand .markFrame (withFrame (markFrom 9 1 0) latched) 9 .autonomous ∧
    MarkAtHand (.sendMark 5 0) latched 5 .ended ∧ MarkAtHand (.sendMark 5 0) panel 4 .ended ∧
    MarkAtHand (.portWrite 100 1) { panel with port := { panel.port with token := 1, block := [48, 2] } } 4 .driver :=
  ⟨.inl ⟨_, rfl, rfl, rfl⟩, .inr (.inl ⟨_, _, rfl, .inl ⟨rfl, rfl⟩⟩),
    .inr (.inl ⟨_, _, rfl, .inr ⟨rfl, rfl, rfl⟩⟩), .inr (.inr ⟨rfl, .inl ⟨_, rfl⟩⟩), .inr (.inr ⟨rfl, .inl ⟨_, rfl⟩⟩),
    .inr (.inr ⟨rfl, .inr (by decide)⟩)⟩

theorem test_witness_laws_before_a_step :
    step (State.reset.withPending [.readTime]) = exec .readTime State.reset ∧
    TimeLaw State.reset ∧ LevelLaw State.reset ∧ QueueLaw State.reset ∧ BackoffLaw State.reset ∧
    RequestLaw State.reset ∧ ElementLaw State.reset ∧ BudgetLaw State.reset ∧ PeerLaw State.reset ∧
    ElementLaw liftHeld ∧ BudgetLaw liftHeld ∧ PeerLaw (liftQuiet .locked none) ∧
    RequestLaw (robot [request .seated]) := by
  refine ⟨rfl, ?_, ?_, ?_, ?_, ?_, ?_, ?_, ?_, ?_, ?_, ?_, ?_⟩
  · unfold TimeLaw; decide
  · exact rfl
  · unfold QueueLaw; decide
  · unfold BackoffLaw; decide
  · unfold RequestLaw; decide
  · unfold ElementLaw; decide
  · unfold BudgetLaw; decide
  · unfold PeerLaw; decide
  · unfold ElementLaw; decide +kernel
  · unfold BudgetLaw; decide +kernel
  · unfold PeerLaw; decide
  · unfold RequestLaw; decide

end Sys2Proof.Tests
end

section
/-! The field-time commands TRIM_MODE and TRIM_SET (R110 to R112): what the completion of a command, an event flag, a
write of T and the entry to FIXED do, said once for each, and the two statements from them. -/

namespace Sys2Proof

/-! ## The bits of the event flags (R193) -/

/-- The bits follow the order in which the flags are declared. -/
theorem EventFlag.bit_eq_ctorIdx (f : EventFlag) : f.bit = f.ctorIdx := by cases f <;> rfl

theorem EventFlag.bit_injective {f g : EventFlag} (h : f.bit = g.bit) : f = g := by
  rw [f.bit_eq_ctorIdx, g.bit_eq_ctorIdx] at h
  rw [← EventFlag.ofNat_ctorIdx f, h, EventFlag.ofNat_ctorIdx]

theorem EventFlag.bit_lt (f : EventFlag) : f.bit < 16 := by cases f <;> decide

end Sys2Proof

namespace Sys2Proof.Machine

/-! ## Event flags (R187) -/

/-- The flag set is the only one that can change. -/
@[simp] theorem State.setFlag_hasFlag (f g : EventFlag) (s : State) :
    (s.setFlag f).hasFlag g = (s.hasFlag g || decide (g = f)) := by
  have bits : (1#16 <<< f.bit).getLsbD g.bit = decide (g = f) := by
    rw [← BitVec.twoPow_eq, BitVec.getLsbD_twoPow]
    by_cases h : g = f
    · simp [h, f.bit_lt]
    · have hb : f.bit ≠ g.bit := fun e => h (EventFlag.bit_injective e).symm
      simp [h, hb]
  simp only [State.hasFlag, State.setFlag, State.mapPort_port, BitVec.getLsbD_or, bits]

@[simp] theorem State.mapTime_hasFlag (f : FieldTime → FieldTime) (g : EventFlag) (s : State) :
    (s.mapTime f).hasFlag g = s.hasFlag g := rfl

@[simp] theorem State.handOver_hasFlag (code : Byte) (args : List Byte) (g : EventFlag) (s : State) :
    (s.handOver code args).hasFlag g = s.hasFlag g := rfl

/-! ## A change of field time and the port alone -/

/-- Every block but field time and the port is as it was. -/
def SameOutsideTime (s t : State) : Prop := SameOutsidePort { s with time := t.time } t

theorem SameOutsideTime.trans {s t u : State} (h : SameOutsideTime s t) (k : SameOutsideTime t u) :
    SameOutsideTime s u := by
  simp_all [SameOutsideTime, SameOutsidePort]

theorem State.mapTime_outside (f : FieldTime → FieldTime) (s : State) : SameOutsideTime s (s.mapTime f) := by
  simp [SameOutsideTime, SameOutsidePort]

theorem State.setFlag_outside (f : EventFlag) (s : State) : SameOutsideTime s (s.setFlag f) := by
  simp [SameOutsideTime, SameOutsidePort]

theorem State.handOver_outside (code : Byte) (args : List Byte) (s : State) :
    SameOutsideTime s (s.handOver code args) := by
  simp [SameOutsideTime, SameOutsidePort, State.handOver]

/-! ## The hand-over and the completion of a command (R182) -/

@[simp] theorem State.handOver_time (code : Byte) (args : List Byte) (s : State) :
    (s.handOver code args).time = s.time := rfl

@[simp] theorem Completion.finish_time (c : Completion) : c.finish.time = c.state.time := rfl

@[simp] theorem Completion.finish_hasFlag (c : Completion) (g : EventFlag) :
    c.finish.hasFlag g = (c.state.hasFlag g || decide (g = .commandDone)) :=
  State.setFlag_hasFlag ..

theorem Completion.finish_outside (c : Completion) : SameOutsideTime c.state c.finish := by
  simp [SameOutsideTime, SameOutsidePort, Completion.finish]

@[simp] theorem done_state (s : State) (reply : List Byte) : (done s reply).state = s := rfl

theorem done_shows (s : State) (reply : List Byte) : Shows (done s reply).finish .done reply :=
  ⟨rfl, rfl, rfl, rfl, by simp⟩

theorem done_onlyDone (code : Byte) (args reply : List Byte) {s t : State} (h : t.port = (s.handOver code args).port) :
    OnlyDone s (done t reply).finish := by
  have flags : t.port.flags = s.port.flags := by rw [h]; rfl
  exact congrArg (· ||| 1#16 <<< EventFlag.commandDone.bit) flags

/-- Where a command's work reaches field time and the port alone, so does the whole command. -/
theorem done_outside (code : Byte) (args reply : List Byte) {s t : State}
    (h : SameOutsideTime (s.handOver code args) t) : SameOutsideTime s (done t reply).finish :=
  ((State.handOver_outside code args s).trans h).trans (Completion.finish_outside (done t reply))

/-! ## The trim (R97, R98) -/

theorem clampTrim_clampTrim (v : Int) : clampTrim (clampTrim v) = clampTrim v := by
  unfold clampTrim
  omega

/-- Field time with T written and the alarm judged. -/
def FieldTime.withTrim (v : Int) (x : FieldTime) : FieldTime :=
  { x with trim := clampTrim v, alarm := trimAlarm (clampTrim v) }

theorem State.writeTrim_sameAlarm (v : Int) (s : State) (h : trimAlarm (clampTrim v) = s.time.alarm) :
    s.writeTrim v = s.mapTime (FieldTime.withTrim v) := if_pos h

theorem State.writeTrim_newAlarm (v : Int) (s : State) (h : trimAlarm (clampTrim v) ≠ s.time.alarm) :
    s.writeTrim v = (s.mapTime (FieldTime.withTrim v)).setFlag .trimLimit := if_neg h

@[simp] theorem State.writeTrim_time (v : Int) (s : State) : (s.writeTrim v).time = s.time.withTrim v := by
  by_cases h : trimAlarm (clampTrim v) = s.time.alarm
  · rw [State.writeTrim_sameAlarm v s h, State.mapTime_time]
  · rw [State.writeTrim_newAlarm v s h, State.setFlag_time, State.mapTime_time]

/-- TRIM_LIMIT is set where the alarm changes, and no other flag is. -/
@[simp] theorem State.writeTrim_hasFlag (v : Int) (g : EventFlag) (s : State) :
    (s.writeTrim v).hasFlag g =
      (s.hasFlag g || decide (g = .trimLimit ∧ trimAlarm (clampTrim v) ≠ s.time.alarm)) := by
  by_cases h : trimAlarm (clampTrim v) = s.time.alarm
  · simp [State.writeTrim_sameAlarm v s h, h]
  · simp [State.writeTrim_newAlarm v s h, h]

theorem State.writeTrim_outside (v : Int) (s : State) : SameOutsideTime s (s.writeTrim v) := by
  by_cases h : trimAlarm (clampTrim v) = s.time.alarm
  · rw [State.writeTrim_sameAlarm v s h]
    exact State.mapTime_outside _ s
  · rw [State.writeTrim_newAlarm v s h]
    exact (State.mapTime_outside _ s).trans (State.setFlag_outside _ _)

/-! ## The entry to FIXED (R110) -/

theorem State.enterFixed_time (s : State) :
    s.enterFixed.time = { s.time with
      mode := .fixed, trim := clampTrim s.time.commanded, alarm := trimAlarm (clampTrim s.time.commanded),
      reference := none, lockCount := 0, holdover := 0, align := .unaligned,
      level := if s.time.align = .unaligned then s.time.level else 7,
      lastCause := if s.time.align = .unaligned then s.time.lastCause else .fixedMode } := by
  by_cases h : s.time.align = .unaligned <;> simp [State.enterFixed, State.setAlign, FieldTime.withTrim, h]

/-- The entry sets TRIM_LIMIT where the alarm changes and ALIGN_CHANGED where the align state does. -/
theorem State.enterFixed_hasFlag (g : EventFlag) (s : State) :
    s.enterFixed.hasFlag g =
      (s.hasFlag g || decide (g = .trimLimit ∧ trimAlarm (clampTrim s.time.commanded) ≠ s.time.alarm) ||
        decide (g = .alignChanged ∧ s.time.align ≠ .unaligned)) := by
  by_cases h : s.time.align = .unaligned <;> simp [State.enterFixed, State.setAlign, h]

theorem State.enterFixed_outside (s : State) : SameOutsideTime s s.enterFixed := by
  have entered := (State.writeTrim_outside s.time.commanded s).trans (State.mapTime_outside (fun x =>
    { x with mode := .fixed, reference := none, lockCount := 0, holdover := 0 }) _)
  unfold State.enterFixed
  split
  · exact entered
  · exact entered.trans ((State.mapTime_outside _ _).trans (State.setFlag_outside _ _))

/-! ## TRIM_MODE (R111) -/

theorem exec_trimMode (mode : Byte) (s : State) (h : s.port.token = 0) :
    exec (.trimMode mode) s = .next (trimModeAct mode (s.handOver 64 [mode])).finish :=
  congrArg Host.Outcome.next (State.command_handed 64 [mode] (trimModeAct mode) s h)

theorem trimModeOfCode_code (m : TrimMode) : trimModeOfCode m.code.toNat = some m := by cases m <;> rfl

theorem trimModeOfCode_above (c : Nat) (h : 2 < c) : trimModeOfCode c = none := by
  match c, h with
  | _ + 3, _ => rfl

theorem trimModeAct_source (mode : Byte) (s : State) (h : s.time.align = .source) :
    trimModeAct mode s = refuse .wrongState s := if_pos h

theorem trimModeAct_noMode (mode : Byte) (s : State) (h : s.time.align ≠ .source) (hc : 2 < mode.toNat) :
    trimModeAct mode s = refuse .badArgument s := by
  simp [trimModeAct, h, trimModeOfCode_above _ hc]

theorem trimModeAct_inForce (m : TrimMode) (s : State) (h : s.time.align ≠ .source) (hm : m = s.time.mode) :
    trimModeAct m.code s = done s [s.time.align.code] := by
  simp [trimModeAct, h, trimModeOfCode_code, hm]

theorem trimModeAct_trackFreeze (m : TrimMode) (s : State) (h : s.time.align ≠ .source) (hm : m ≠ s.time.mode)
    (hf : m ≠ .fixed) :
    trimModeAct m.code s = done (s.mapTime fun x => { x with mode := m }) [s.time.align.code] := by
  simp [trimModeAct, h, trimModeOfCode_code, hm, hf]

theorem trimModeAct_fixed (s : State) (h : s.time.align ≠ .source) (hm : TrimMode.fixed ≠ s.time.mode) :
    trimModeAct TrimMode.fixed.code s = done s.enterFixed [AlignState.unaligned.code] := by
  simp [trimModeAct, h, trimModeOfCode_code, hm, State.enterFixed_time]

/-- Settles O11, by the cases of TRIM_MODE: refused, the mode in force, TRACK or FREEZE, and FIXED, whose effects are
those of `State.enterFixed`. -/
theorem trimModeSetsTheMode : Obligations.TrimModeSetsTheMode := by
  intro s mode token
  have run := exec_trimMode mode s token
  refine ⟨fun source => ?_, fun other noMode => ?_, ?_⟩
  · rw [trimModeAct_source mode (s.handOver 64 [mode]) source] at run
    exact ⟨_, run, refuse_finish ..⟩
  · rw [trimModeAct_noMode mode (s.handOver 64 [mode]) other noMode] at run
    exact ⟨_, run, refuse_finish ..⟩
  · rintro other m rfl
    refine ⟨?inForce, ?trackOrFreeze, ?fixed⟩
    case inForce =>
      intro same
      rw [trimModeAct_inForce m (s.handOver 64 [m.code]) other same] at run
      exact ⟨_, run, done_finish _ 64 [m.code] s _ rfl⟩
    case trackOrFreeze =>
      intro new notFixed
      rw [trimModeAct_trackFreeze m (s.handOver 64 [m.code]) other new notFixed] at run
      exact ⟨_, run, done_shows .., rfl, done_outside 64 [m.code] _ (State.mapTime_outside ..)⟩
    case fixed =>
      rintro new rfl
      rw [trimModeAct_fixed (s.handOver 64 [TrimMode.fixed.code]) other new] at run
      refine ⟨_, run, done_shows .., ?_⟩
      have outside := done_outside 64 [TrimMode.fixed.code] [AlignState.unaligned.code]
        (State.enterFixed_outside (s.handOver 64 [TrimMode.fixed.code]))
      simp only [SameOutsideTime, Completion.finish_time, Completion.finish_hasFlag, done_state, State.enterFixed_time,
        State.enterFixed_hasFlag, State.handOver_time, State.handOver_hasFlag, true_and] at outside ⊢
      exact ⟨rfl, fun aligned => by simp [aligned], fun unaligned => by simp [unaligned],
        fun changed => by simp [changed], outside⟩

/-! ## TRIM_SET (R112) -/

theorem exec_trimSet (trim : Half) (s : State) (h : s.port.token = 0) :
    exec (.trimSet trim) s = .next (trimSetAct trim (s.handOver 65 (bytesOf 2 trim.toNat))).finish :=
  congrArg Host.Outcome.next (State.command_handed 65 _ (trimSetAct trim) s h)

/-- The commanded trim and T become the value, as a change of the commanded trim followed by a write of T. -/
def State.setTrim (v : Int) (s : State) : State :=
  (s.mapTime fun x => { x with commanded := clampTrim v }).writeTrim (clampTrim v)

theorem State.setTrim_outside (v : Int) (s : State) : SameOutsideTime s (s.setTrim v) :=
  (State.mapTime_outside _ s).trans (State.writeTrim_outside (clampTrim v) _)

theorem State.setTrim_time (v : Int) (s : State) :
    (s.setTrim v).time =
      { s.time with commanded := clampTrim v, trim := clampTrim v, alarm := trimAlarm (clampTrim v) } := by
  simp [State.setTrim, FieldTime.withTrim, clampTrim_clampTrim]

theorem State.setTrim_trimLimit (v : Int) (s : State) (h : s.time.alarm ≠ trimAlarm (clampTrim v)) :
    (s.setTrim v).hasFlag .trimLimit = true := by
  simp [State.setTrim, clampTrim_clampTrim, h.symm]

theorem State.setTrim_port (v : Int) (s : State) (h : s.time.alarm = trimAlarm (clampTrim v)) :
    (s.setTrim v).port = s.port := by
  rw [State.setTrim, State.writeTrim_sameAlarm _ _ (by rw [clampTrim_clampTrim, ← h]; rfl)]
  rfl

theorem trimSetAct_source (trim : Half) (s : State) (h : s.time.align = .source) :
    trimSetAct trim s = refuse .wrongState s := if_pos h

theorem trimSetAct_taken (trim : Half) (s : State) (h : s.time.align ≠ .source) :
    trimSetAct trim s = done (s.setTrim trim.toInt) (signedBytes (clampTrim trim.toInt)) := if_neg h

/-- Settles O12: TRIM_SET is a change of the commanded trim and a write of T, whose value is clamped already. -/
theorem trimSetClampsAndSets : Obligations.TrimSetClampsAndSets := by
  intro s trim token
  have run := exec_trimSet trim s token
  refine ⟨fun source => ?_, fun other => ?_⟩
  · rw [trimSetAct_source trim (s.handOver 65 (bytesOf 2 trim.toNat)) source] at run
    exact ⟨_, run, refuse_finish ..⟩
  · rw [trimSetAct_taken trim (s.handOver 65 (bytesOf 2 trim.toNat)) other] at run
    refine ⟨_, run, done_shows .., State.setTrim_time .., fun changed => ?_, fun same => ?_,
      done_outside 65 _ _ (State.setTrim_outside ..)⟩
    · rw [Completion.finish_hasFlag, done_state, State.setTrim_trimLimit _ (s.handOver ..) changed, Bool.true_or]
    · exact done_onlyDone 65 _ _ (State.setTrim_port _ (s.handOver ..) same)

end Sys2Proof.Machine
end

section
/-! What every shared operation keeps of the laws of the state (Safety.lean), said once for each: `CarriesLaws s t` says
that every law that holds of s holds of t and that field time has not fallen. It is reflexive and transitive, so what a
command keeps follows from what its operations keep. -/

namespace Sys2Proof.Machine

/-! ## The relations -/

theorem map_unchanged {α : Type} {l : List α} {f : α → α} (same : ∀ x ∈ l, f x = x) : l.map f = l :=
  (List.map_congr_left (g := id) same).trans (List.map_id l)

/-- A list with room takes one more. -/
theorem length_append_one {α : Type} {l : List α} {n : Nat} (x : α) (room : l.length < n) : (l ++ [x]).length ≤ n := by
  rw [List.length_append]
  exact Nat.succ_le_of_lt room

theorem ite_of_iff {α : Type} {p q : Prop} [Decidable p] [Decidable q] {a b c d : α} (same : p ↔ q) (yes : a = c)
    (no : b = d) : (if p then a else b) = if q then c else d := by
  simp only [same, yes, no]

/-- Every law but that of the budgets holds of t where it holds of s, and field time has not fallen. -/
structure CarriesTables (s t : State) : Prop where
  ft : s.time.ft ≤ ftMax → s.time.ft ≤ t.time.ft ∧ t.time.ft ≤ ftMax
  time : TimeLaw s → TimeLaw t
  level : LevelLaw s → LevelLaw t
  queue : QueueLaw s → QueueLaw t
  backoff : BackoffLaw s → BackoffLaw t
  request : RequestLaw s → RequestLaw t
  peer : PeerLaw s → PeerLaw t
  element : ElementLaw s → ElementLaw t

/-- Every law holds of t where it holds of s, and field time has not fallen. -/
structure CarriesLaws (s t : State) : Prop extends CarriesTables s t where
  budget : BudgetLaw s → BudgetLaw t

theorem CarriesTables.trans {s t u : State} (h : CarriesTables s t) (k : CarriesTables t u) : CarriesTables s u where
  ft := fun x => ⟨Nat.le_trans (h.ft x).1 (k.ft (h.ft x).2).1, (k.ft (h.ft x).2).2⟩
  time := k.time ∘ h.time
  level := k.level ∘ h.level
  queue := k.queue ∘ h.queue
  backoff := k.backoff ∘ h.backoff
  request := k.request ∘ h.request
  peer := k.peer ∘ h.peer
  element := k.element ∘ h.element

theorem CarriesLaws.refl (s : State) : CarriesLaws s s := ⟨⟨fun h => ⟨Nat.le_refl _, h⟩, id, id, id, id, id, id, id⟩, id⟩

theorem CarriesLaws.trans {s t u : State} (h : CarriesLaws s t) (k : CarriesLaws t u) : CarriesLaws s u :=
  ⟨h.toCarriesTables.trans k.toCarriesTables, k.budget ∘ h.budget⟩

/-! ## A change of one block -/

theorem State.mapLink_laws (f : Link → Link) (s : State) : CarriesLaws s (s.mapLink f) :=
  ⟨⟨fun h => ⟨Nat.le_refl _, h⟩, id, id, id, id, id, id, id⟩, id⟩

theorem State.mapPhase_laws (f : PhaseUnit → PhaseUnit) (s : State) : CarriesLaws s (s.mapPhase f) :=
  ⟨⟨fun h => ⟨Nat.le_refl _, h⟩, id, id, id, id, id, id, id⟩, id⟩

theorem State.mapViews_laws (f : List PartnerView → List PartnerView) (s : State) : CarriesLaws s (s.mapViews f) :=
  ⟨⟨fun h => ⟨Nat.le_refl _, h⟩, id, id, id, id, id, id, id⟩, id⟩

theorem State.mapRef_laws (f : RefereeUnit → RefereeUnit) (s : State) : CarriesLaws s (s.mapRef f) :=
  ⟨⟨fun h => ⟨Nat.le_refl _, h⟩, id, id, id, id, id, id, id⟩, id⟩

theorem State.mapPins_laws (f : Pins → Pins) (s : State) : CarriesLaws s (s.mapPins f) :=
  ⟨⟨fun h => ⟨Nat.le_refl _, h⟩, id, id, id, id, id, id, id⟩, id⟩

theorem State.withPending_laws (q : List Instr) (s : State) : CarriesLaws s (s.withPending q) :=
  ⟨⟨fun h => ⟨Nat.le_refl _, h⟩, id, id, id, id, id, id, id⟩, id⟩

/-- No law speaks of the port but of its notices, the budget base and, for the budgets, of CONFIG. -/
theorem State.mapPort_laws (f : Port → Port) (s : State)
    (notices : s.port.notices.length ≤ 16 → (f s.port).notices.length ≤ 16)
    (base : (f s.port).cfg.budgetBase = s.port.cfg.budgetBase)
    (node : (f s.port).nodeState = .config → s.port.nodeState = .config) : CarriesLaws s (s.mapPort f) where
  ft := fun h => ⟨Nat.le_refl _, h⟩
  time := id
  level := id
  queue := fun ⟨h, k⟩ => ⟨notices h, k⟩
  backoff := id
  request := id
  peer := id
  element := id
  budget := fun ⟨h, k⟩ => ⟨by simpa [State.budgetBase, base] using h, fun c => k (node c)⟩

theorem State.mapChan_laws (f : Channel → Channel) (s : State)
    (queue : QueueLaw s → QueueLaw (s.mapChan f)) (backoff : BackoffLaw s → BackoffLaw (s.mapChan f))
    (idle : s.chan.rxQueue = [] ∧ s.chan.reception = none → (f s.chan).rxQueue = [] ∧ (f s.chan).reception = none) :
    CarriesLaws s (s.mapChan f) :=
  ⟨⟨fun h => ⟨Nat.le_refl _, h⟩, id, id, queue, backoff, id, id, id⟩, fun ⟨h, k⟩ => ⟨h, fun c => ⟨(k c).1, idle (k c).2⟩⟩⟩

/-- A change of the channel that leaves its two queues, its reception and its generator alone. -/
theorem State.mapChan_laws_same (f : Channel → Channel) (s : State) (tx : (f s.chan).txQueue = s.chan.txQueue)
    (rx : (f s.chan).rxQueue = s.chan.rxQueue) (exponent : (f s.chan).exponent = s.chan.exponent)
    (backoff : (f s.chan).backoff = s.chan.backoff) (reception : (f s.chan).reception = s.chan.reception) :
    CarriesLaws s (s.mapChan f) :=
  State.mapChan_laws f s (by simp [QueueLaw, tx, rx]) (by simp [BackoffLaw, exponent, backoff])
    (by simp [rx, reception])

theorem State.mapTime_laws (f : FieldTime → FieldTime) (s : State)
    (ft : s.time.ft ≤ ftMax → s.time.ft ≤ (f s.time).ft ∧ (f s.time).ft ≤ ftMax)
    (time : TimeLaw s → TimeLaw (s.mapTime f)) (level : LevelLaw s → LevelLaw (s.mapTime f)) :
    CarriesLaws s (s.mapTime f) :=
  ⟨⟨ft, time, level, id, id, id, id, id⟩, id⟩

theorem State.mapReq_laws (f : RequestUnit → RequestUnit) (s : State) (h : RequestLaw s → RequestLaw (s.mapReq f)) :
    CarriesLaws s (s.mapReq f) :=
  ⟨⟨fun h => ⟨Nat.le_refl _, h⟩, id, id, id, id, h, id, id⟩, id⟩

theorem State.mapPeers_laws (f : Peers → Peers) (s : State) (h : PeerLaw s → PeerLaw (s.mapPeers f)) :
    CarriesLaws s (s.mapPeers f) :=
  ⟨⟨fun h => ⟨Nat.le_refl _, h⟩, id, id, id, id, id, h, id⟩, id⟩

theorem State.mapSeat_laws (f : SeatUnit → SeatUnit) (s : State) (h : ElementLaw s → ElementLaw (s.mapSeat f)) :
    CarriesLaws s (s.mapSeat f) :=
  ⟨⟨fun h => ⟨Nat.le_refl _, h⟩, id, id, id, id, id, id, h⟩, id⟩

theorem State.mapArb_laws (f : Arbiter → Arbiter) (s : State) (h : ElementLaw s → ElementLaw (s.mapArb f))
    (budgets : (∀ r ∈ s.arb.ring, r.budget ≤ s.budgetBase) → ∀ r ∈ (f s.arb).ring, r.budget ≤ s.budgetBase)
    (empty : s.arb.ring = [] → (f s.arb).ring = []) : CarriesLaws s (s.mapArb f) :=
  ⟨⟨fun h => ⟨Nat.le_refl _, h⟩, id, id, id, id, id, id, h⟩,
    fun ⟨b, k⟩ => ⟨budgets b, fun c => ⟨empty (k c).1, (k c).2⟩⟩⟩

/-! ## Flags and notices -/

theorem State.setFlag_laws (f : EventFlag) (s : State) : CarriesLaws s (s.setFlag f) :=
  State.mapPort_laws _ s id rfl id

theorem State.postNotice_laws (k : NoticeKind) (i c : Byte) (d : Half) (s : State) :
    CarriesLaws s (s.postNotice k i c d) := by
  unfold State.postNotice
  split
  · next room =>
    refine CarriesLaws.trans (State.mapPort_laws _ s (fun _ => ?_) rfl id) (State.setFlag_laws ..)
    exact length_append_one _ room
  · exact State.setFlag_laws ..

/-! ## The backoff generator -/

/-- R162: a step of the backoff generator moves each stage one place up. -/
theorem backoffStep_getLsbD_succ (g : Half) (i : Nat) (h : i < 15) : (backoffStep g).getLsbD (i + 1) = g.getLsbD i := by
  have : i + 1 < 16 := by omega
  simp [backoffStep, this]
  rfl

theorem backoffStep_getLsbD_zero (g : Half) :
    (backoffStep g).getLsbD 0 = ((g.getLsbD 15 ^^ g.getLsbD 13) ^^ (g.getLsbD 12 ^^ g.getLsbD 10)) := by
  simp [backoffStep]

/-- R162: the backoff generator does not reach 0: before a 0 every stage but the last is 0, and then the tap of the
last stage makes bit 0. -/
theorem backoffStep_ne_zero (g : Half) (h : g ≠ 0) : backoffStep g ≠ 0 := by
  intro zero
  have low (i : Nat) (hi : i < 15) : g.getLsbD i = false := by
    rw [← backoffStep_getLsbD_succ g i hi, zero]
    simp
  have top : g.getLsbD 15 = false := by
    have b := backoffStep_getLsbD_zero g
    rw [zero, low 13 (by omega), low 12 (by omega), low 10 (by omega)] at b
    simpa using b.symm
  refine h (BitVec.eq_of_getLsbD_eq fun i hi => ?_)
  rcases Nat.lt_or_ge i 15 with lt | ge
  · rw [low i lt]
    exact BitVec.getLsbD_zero.symm
  · obtain rfl : i = 15 := by omega
    rw [top]
    exact BitVec.getLsbD_zero.symm

theorem State.draw_laws (n : Nat) (s : State) : CarriesLaws s (s.draw n).1 :=
  State.mapChan_laws (fun c => { c with backoff := backoffStep s.chan.backoff }) s id
    (fun ⟨low, high, ne⟩ => ⟨low, high, backoffStep_ne_zero _ ne⟩) id

/-! ## Requests -/

/-- A change of the request list that adds no element. -/
theorem RequestLaw.of_sublist {s t : State} (law : RequestLaw s)
    (list : List.Sublist (t.req.list.map (·.element)) (s.req.list.map (·.element)))
    (view : t.req.view.map (·.1) = s.req.view.map (·.1)) : RequestLaw t := by
  obtain ⟨count, distinct, views, rising⟩ := law
  have short := list.length_le
  have same := congrArg List.length view
  simp only [List.length_map] at short same
  exact ⟨by omega, distinct.sublist list, by omega, view ▸ rising⟩

theorem State.mapList_laws (f : Request → Request) (s : State) (h : ∀ r, (f r).element = r.element) :
    CarriesLaws s (s.mapReq fun u => { u with list := u.list.map f }) :=
  State.mapReq_laws _ s fun law => law.of_sublist (by simp [Function.comp_def, h]) rfl

theorem State.setRequest_laws (e : NodeId) (f : Request → Request) (s : State) (h : ∀ r, (f r).element = r.element) :
    CarriesLaws s (s.setRequest e f) :=
  State.mapList_laws _ s fun r => by split <;> simp [h]

theorem State.closeRequest_laws (r : Request) (k : NoticeKind) (d : Half) (s : State) :
    CarriesLaws s (s.closeRequest r k d) :=
  (State.postNotice_laws ..).trans (State.mapReq_laws _ _ fun law =>
    law.of_sublist (List.filter_sublist.map _) rfl)

theorem State.finalMiss_laws (r : Request) (s : State) : CarriesLaws s (s.finalMiss r) := by
  unfold State.finalMiss
  split
  case h_3 =>
    refine CarriesLaws.trans ?_ (State.postNotice_laws ..)
    exact State.setRequest_laws _ _ _ (by intro _; rfl)
  all_goals exact State.closeRequest_laws ..

theorem State.missWith_laws (place : QueuedFrame → State → State) (h : ∀ f s, CarriesLaws s (place f s)) (r : Request)
    (b : TxBody) (s : State) : CarriesLaws s (s.missWith place r b) := by
  unfold State.missWith
  split
  · exact State.setRequest_laws _ _ _ (by intro _; rfl)
  · split
    · refine CarriesLaws.trans ?_ (h ..)
      exact State.setRequest_laws _ _ _ (by intro _; rfl)
    · exact State.finalMiss_laws ..

/-! ## The transmit queue -/

theorem State.beginContention_laws (s : State) : CarriesLaws s s.beginContention := by
  unfold State.beginContention
  split
  · refine State.mapChan_laws _ s ?_ ?_ ?_
    · intro law
      dsimp only [State.mapChan]
      split <;> exact law
    · intro ⟨low, high, ne⟩
      dsimp only [State.mapChan]
      split
      · exact ⟨Nat.le_min.mpr ⟨Nat.le_succ_of_le low, by decide⟩, Nat.min_le_right .., ne⟩
      · exact ⟨low, high, ne⟩
    · intro idle
      dsimp only
      split <;> exact idle
  · exact .refl s

/-- R157, R159: a frame may stand behind some of the waiting frames where there is room, and a PRESENCE where none waits. -/
theorem State.appendFrame_laws (f : QueuedFrame) (q : List QueuedFrame) (k : Option Contention → Option Contention)
    (s : State) (sub : q.Sublist s.chan.txQueue) (room : s.chan.txQueue.length ≤ 8 → q.length < 8)
    (one : f.body = .presence → ∀ g ∈ q, g.body ≠ .presence) :
    CarriesLaws s (s.mapChan fun c => { c with txQueue := q ++ [f], contention := k c.contention }) := by
  refine State.mapChan_laws _ s ?_ id id
  rintro ⟨notices, rx, tx, presences⟩
  refine ⟨notices, rx, length_append_one _ (room tx), ?_⟩
  by_cases h : f.body = .presence
  · have none : (q.filter fun g => decide (g.body = .presence)) = [] := by simpa using one h
    simp [State.mapChan, List.filter_append, none, h]
  · have fewer := (sub.filter fun g => decide (g.body = .presence)).length_le
    simpa [State.mapChan, List.filter_append, h] using Nat.le_trans fewer presences

theorem State.enterQueue_laws (f : QueuedFrame) (s : State) (room : s.chan.txQueue.length < 8)
    (one : f.body = .presence → ∀ g ∈ s.chan.txQueue, g.body ≠ .presence) : CarriesLaws s (s.enterQueue f) :=
  (State.appendFrame_laws f s.chan.txQueue (fun k => if f.body = .halt then k.map Contention.afterHalt else k) s (.refl _)
    (fun _ => room) one).trans (State.beginContention_laws _)

theorem State.countDrop_laws (s : State) : CarriesLaws s s.countDrop := State.mapLink_laws ..

theorem State.discard_laws (retry : Request → TxBody → State → State) (h : ∀ r b s, CarriesLaws s (retry r b s))
    (g : QueuedFrame) (s : State) : CarriesLaws s (s.discard retry g) := by
  unfold State.discard
  split
  · exact h ..
  · exact .refl s

theorem TxBody.urgency_le (b : TxBody) : b.urgency ≤ 3 := by cases b <;> simp [TxBody.urgency]

theorem worstClass_le (q : List QueuedFrame) : worstClass q ≤ 3 := by
  have step : ∀ (q : List QueuedFrame) (m : Nat), m ≤ 3 → q.foldl (fun m f => max m f.body.urgency) m ≤ 3 := by
    intro q
    induction q with
    | nil => exact fun m h => h
    | cons f q ih => exact fun m h => ih _ (Nat.max_le.mpr ⟨h, f.body.urgency_le⟩)
  exact step q 0 (by omega)

/-- R157 case 3: what an eviction leaves is the queue with the frame taken out. -/
theorem evictFrom_sublist (q : List QueuedFrame) : (evictFrom q).2.Sublist q := by
  have h := (List.eraseP_sublist (p := fun f => decide (f.body.urgency = worstClass q)) (l := q.reverse)).reverse
  simpa [evictFrom] using h

theorem evictFrom_length (q rest : List QueuedFrame) (g : QueuedFrame) (h : evictFrom q = (some g, rest)) :
    rest.length + 1 = q.length := by
  simp only [evictFrom, Prod.mk.injEq] at h
  obtain ⟨found, rfl⟩ := h
  have mem := List.mem_of_find?_eq_some found
  have pos := List.length_pos_of_mem mem
  rw [List.length_reverse, List.length_eraseP_of_mem mem (List.find?_some found), List.length_reverse]
  simp only [List.length_reverse] at pos
  omega

theorem State.placeFull_laws (retry : Request → TxBody → State → State) (h : ∀ r b s, CarriesLaws s (retry r b s))
    (f : QueuedFrame) (s : State) : CarriesLaws s (s.placeFull retry f) := by
  unfold State.placeFull
  split
  · next urgent =>
    split
    · next g rest evicted =>
      have sub : rest.Sublist s.chan.txQueue := by simpa [evicted] using evictFrom_sublist s.chan.txQueue
      have short := evictFrom_length _ _ _ evicted
      have worst := worstClass_le s.chan.txQueue
      have taken := State.appendFrame_laws f rest
        (fun k => if f.body = .halt then k.map Contention.afterHalt else k) s sub (by omega) fun presence => by
          simp only [presence, TxBody.urgency] at urgent
          omega
      exact ((taken.trans (State.countDrop_laws _)).trans (State.beginContention_laws _)).trans
        (State.discard_laws _ h ..)
    · exact .refl s
  · exact (State.countDrop_laws s).trans (State.discard_laws _ h ..)

/-- R157, R158: a frame placed, whatever a discarded ASK or YIELD does. -/
theorem State.placeBy_laws (retry : Request → TxBody → State → State) (h : ∀ r b s, CarriesLaws s (retry r b s))
    (f : QueuedFrame) (s : State) : CarriesLaws s (s.placeBy retry f) := by
  unfold State.placeBy
  split
  · exact .refl s
  · split
    · exact .refl s
    · next absorbed =>
      split
      · next room => exact State.enterQueue_laws f s room (by simpa using absorbed)
      · exact State.placeFull_laws retry h f s

theorem State.placeWith_laws (n : Nat) (f : QueuedFrame) (s : State) : CarriesLaws s (s.placeWith n f) := by
  induction n generalizing f s with
  | zero => exact State.placeBy_laws _ (fun _ _ s => .refl s) ..
  | succ n ih => exact State.placeBy_laws _ (fun r b s => State.missWith_laws _ ih r b s) ..

theorem State.place_laws (f : QueuedFrame) (s : State) : CarriesLaws s (s.place f) := State.placeWith_laws 5 f s

theorem State.miss_laws (r : Request) (b : TxBody) (s : State) : CarriesLaws s (s.miss r b) :=
  State.missWith_laws _ State.place_laws r b s

theorem State.send_laws (b : TxBody) (s : State) : CarriesLaws s (s.send b) := State.place_laws _ s

theorem State.sendOfRequest_laws (b : TxBody) (s : State) : CarriesLaws s (s.sendOfRequest b) := State.place_laws _ s

theorem State.answer_laws (p : NodeId) (c : Byte) (a : AnswerBody) (s : State) : CarriesLaws s (s.answer p c a) :=
  State.send_laws _ s

theorem State.presenceAt_laws (due : Nat) (s : State) : CarriesLaws s (s.presenceAt due) :=
  ((State.send_laws .presence s).trans (State.draw_laws 4 _)).trans (State.mapChan_laws_same (fun c =>
    { c with presenceDue := some (due + c.presencePeriod + ((s.send .presence).draw 4).2) }) _ rfl rfl rfl rfl rfl)

/-- R159: the entry into RUNNING places a PRESENCE as a due time of now does. -/
theorem State.startPresence_eq (s : State) : s.startPresence = s.presenceAt s.localMs := by
  have ms : ((s.send .presence).draw 4).1.localMs = s.localMs := State.send_localMs ..
  simp only [State.startPresence, State.presenceAt, ms]

theorem State.startPresence_laws (s : State) : CarriesLaws s s.startPresence :=
  s.startPresence_eq ▸ s.presenceAt_laws s.localMs

/-! ## Seats, standing records and the waiting list -/

/-- A seat's holder. -/
def Seat.holder? (x : Seat) : Option NodeId := x.claim?.map Claim.player

theorem State.holders_eq (s : State) : s.holders = s.seat.table.filterMap Seat.holder? := rfl

theorem filterMap_set_none {α β : Type} (f : α → Option β) (l : List α) (n : Nat) (x : α) (h : f x = none) :
    ((l.set n x).filterMap f).Sublist (l.filterMap f) := by
  induction l generalizing n with
  | nil => simp
  | cons y l ih =>
    cases n with
    | zero =>
      simp only [List.set_cons_zero, List.filterMap_cons_none h]
      exact (List.sublist_cons_self y l).filterMap f
    | succ n =>
      simp only [List.set_cons_succ, List.filterMap_cons]
      split
      · exact ih n
      · exact (ih n).cons_cons _

theorem filterMap_set_same {α β : Type} (f : α → Option β) (l : List α) (n : Nat) (x y : α) (at_n : l[n]? = some y)
    (h : f x = f y) : (l.set n x).filterMap f = l.filterMap f := by
  induction l generalizing n with
  | nil => simp
  | cons z l ih =>
    cases n with
    | zero =>
      obtain rfl : z = y := by simpa using at_n
      simp [List.filterMap_cons, h]
    | succ n => simp [List.filterMap_cons, ih n (by simpa using at_n)]

theorem filterMap_set_fresh {α β : Type} (f : α → Option β) (l : List α) (n : Nat) (x y : α) (b : β)
    (at_n : l[n]? = some y) (old : f y = none) (new : f x = some b) :
    ((l.set n x).filterMap f).Perm (b :: l.filterMap f) := by
  induction l generalizing n with
  | nil => simp at at_n
  | cons z l ih =>
    cases n with
    | zero =>
      obtain rfl : z = y := by simpa using at_n
      simp [old, new]
    | succ n =>
      have perm := ih n (by simpa using at_n)
      simp only [List.set_cons_succ, List.filterMap_cons]
      split
      · exact perm
      · exact (perm.cons _).trans (List.Perm.swap ..)

/-- A change that seats nobody, adds no entry and keeps the players of the ring keeps the element's law. -/
theorem ElementLaw.of_fewer {s t : State} (law : ElementLaw s) (seats : t.seat.table.length ≤ s.seat.table.length)
    (holders : t.holders.Sublist s.holders) (ring : (t.arb.ring.map (·.player)).Perm (s.arb.ring.map (·.player)))
    (waiting : (t.arb.waiting.map (·.player)).Sublist (s.arb.waiting.map (·.player))) : ElementLaw t := by
  obtain ⟨four, once, records, distinct, entries, single, known⟩ := law
  have sameRing := ring.length_eq
  have fewer := waiting.length_le
  simp only [List.length_map] at sameRing fewer
  refine ⟨by omega, once.sublist holders, by omega, ring.nodup_iff.mpr distinct, by omega, single.sublist waiting, ?_⟩
  intro e he
  obtain ⟨e', he', same⟩ := List.mem_map.mp (waiting.subset (List.mem_map.mpr ⟨e, he, rfl⟩))
  obtain ⟨record, seatless⟩ := known e' he'
  replace same : e'.player = e.player := same
  rw [same] at record seatless
  exact ⟨ring.mem_iff.mpr record, fun h => seatless (holders.subset h)⟩

/-- A change of the table that seats nobody. -/
theorem State.mapTable_laws (f : List Seat → List Seat) (s : State)
    (length : (f s.seat.table).length ≤ s.seat.table.length)
    (holders : ((f s.seat.table).filterMap Seat.holder?).Sublist (s.seat.table.filterMap Seat.holder?)) :
    CarriesLaws s (s.mapSeat fun u => { u with table := f u.table }) :=
  State.mapSeat_laws _ s fun law => law.of_fewer length holders (.refl _) (.refl _)

/-- A seat that turns FREE or CLEARING. -/
theorem State.setSeat_laws_vacant (n : Nat) (x : Seat) (s : State) (h : x.claim? = none) :
    CarriesLaws s (s.setSeat n x) :=
  State.mapTable_laws (·.set n x) s (by simp) (filterMap_set_none _ _ _ _ (by simp [Seat.holder?, h]))

/-- A seat that keeps its holder. -/
theorem State.setSeat_laws_same (n : Nat) (x y : Seat) (s : State) (at_n : s.seatAt n = some y)
    (h : x.holder? = y.holder?) : CarriesLaws s (s.setSeat n x) :=
  State.mapTable_laws (·.set n x) s (by simp) (filterMap_set_same _ _ n x y at_n h ▸ List.Sublist.refl _)

/-- A change of each seat that keeps its holder. -/
theorem State.mapSeats_laws (f : Nat → Seat → Seat) (s : State) (h : ∀ n x, (f n x).holder? = x.holder?) :
    CarriesLaws s (s.mapSeat fun u => { u with table := u.table.mapIdx f }) := by
  refine State.mapTable_laws (·.mapIdx f) s (by simp) ?_
  have same : (s.seat.table.mapIdx f).map Seat.holder? = s.seat.table.map Seat.holder? := by
    apply List.ext_getElem <;> simp [h]
  have through (l : List Seat) : l.filterMap Seat.holder? = (l.map Seat.holder?).filterMap id := by
    rw [List.filterMap_map]
    rfl
  have holders : (s.seat.table.mapIdx f).filterMap Seat.holder? = s.seat.table.filterMap Seat.holder? := by
    rw [through, same, ← through]
  exact holders ▸ List.Sublist.refl _

end Sys2Proof.Machine
end

section
/-! What the operations of the arbiter, the phase unit, field time and the peer table keep of the laws of the state. -/

namespace Sys2Proof.Machine

/-! ## Standing records -/

theorem State.setRecord_players (p : NodeId) (f : StandingRecord → StandingRecord) (s : State)
    (h : ∀ r, (f r).player = r.player) : (s.setRecord p f).arb.ring.map (·.player) = s.arb.ring.map (·.player) := by
  simp only [State.setRecord, State.mapArb_arb, List.map_map]
  exact List.map_congr_left fun r _ => by simp only [Function.comp]; split <;> simp [h]

/-- A change of the ring and the list that keeps the players of the ring, raises no budget and adds no entry. -/
theorem State.mapArb_laws_fewer (f : Arbiter → Arbiter) (s : State)
    (ring : ((f s.arb).ring.map (·.player)).Perm (s.arb.ring.map (·.player)))
    (budgets : (∀ r ∈ s.arb.ring, r.budget ≤ s.budgetBase) → ∀ r ∈ (f s.arb).ring, r.budget ≤ s.budgetBase)
    (waiting : ((f s.arb).waiting.map (·.player)).Sublist (s.arb.waiting.map (·.player))) :
    CarriesLaws s (s.mapArb f) := by
  refine State.mapArb_laws f s (fun law => law.of_fewer (Nat.le_refl _) (.refl _) ring waiting) budgets fun empty => ?_
  rw [empty] at ring
  simpa using ring.length_eq

/-- A change of one player's record that raises no budget. -/
theorem State.setRecord_laws (p : NodeId) (f : StandingRecord → StandingRecord) (s : State)
    (player : ∀ r, (f r).player = r.player) (budget : ∀ r, (f r).budget ≤ r.budget) :
    CarriesLaws s (s.setRecord p f) := by
  refine State.mapArb_laws_fewer _ s (.of_eq (State.setRecord_players p f s player)) (fun within r hr => ?_) (.refl _)
  obtain ⟨q, hq, rfl⟩ := List.mem_map.mp hr
  have bound := within q hq
  have lower := budget q
  split <;> omega

theorem State.charge_laws (p : NodeId) (n : Nat) (s : State) : CarriesLaws s (s.charge p n) :=
  State.setRecord_laws _ _ _ (fun _ => rfl) (fun _ => Nat.sub_le ..)

/-- A new order of the ring. -/
theorem State.reorder_laws (f : List StandingRecord → List StandingRecord) (s : State) (h : (f s.arb.ring).Perm s.arb.ring) :
    CarriesLaws s (s.mapArb fun a => { a with ring := f a.ring }) :=
  State.mapArb_laws_fewer _ s (h.map _) (fun within r hr => within r (h.mem_iff.mp hr)) (.refl _)

theorem moveToTail_perm (p : NodeId) (ring : List StandingRecord) : (moveToTail p ring).Perm ring :=
  List.perm_append_comm.trans (List.filter_append_perm (fun r => decide (r.player = p)) ring)

theorem turnRing_perm (p : NodeId) (ring : List StandingRecord) : (turnRing p ring).Perm ring :=
  List.perm_append_comm.trans (.of_eq List.takeWhile_append_dropWhile)

theorem State.countArbiterIgnore_laws (s : State) : CarriesLaws s s.countArbiterIgnore :=
  State.mapArb_laws_fewer _ s (.refl _) id (.refl _)

theorem State.dropEntry_laws (p : NodeId) (s : State) : CarriesLaws s (s.dropEntry p) :=
  State.mapArb_laws_fewer _ s (.refl _) id (List.filter_sublist.map _)

theorem State.endEntry_laws (e : Entry) (r : Reason) (s : State) : CarriesLaws s (s.endEntry e r) := by
  refine CarriesLaws.trans (CarriesLaws.trans (State.dropEntry_laws e.player s) ?_) (State.answer_laws ..)
  exact State.setRecord_laws e.player (fun q => { q with engagement := .none, lastEnded := some (e.claim, r) }) _
    (fun _ => rfl) (fun _ => Nat.le_refl _)

/-- A player's record is in the ring exactly when the ring names the player. -/
theorem State.record_isSome (s : State) (p : NodeId) : (s.record p).isSome = true ↔ p ∈ s.arb.ring.map (·.player) := by
  simp [State.record, List.find?_isSome]

theorem State.entry_isSome (s : State) (p : NodeId) : (s.entry p).isSome = true ↔ p ∈ s.arb.waiting.map (·.player) := by
  simp [State.entry, List.find?_isSome]

/-- A record is made in a started node, where the ring holds fewer than 24 and none of the player. -/
theorem State.ensureRecord_laws (p : NodeId) (s : State) (started : s.port.nodeState ≠ .config) :
    CarriesLaws s (s.ensureRecord p) := by
  unfold State.ensureRecord
  split
  · exact .refl s
  · next room =>
    simp only [State.record_isSome, not_or, Nat.not_le] at room
    refine ⟨⟨fun h => ⟨Nat.le_refl _, h⟩, id, id, id, id, id, id, ?_⟩, ?_⟩
    · rintro ⟨four, once, records, distinct, entries, single, known⟩
      refine ⟨four, once, ?_, ?_, entries, single, fun e he => ⟨?_, (known e he).2⟩⟩
      · simp only [State.mapArb_arb, List.length_append, List.length_cons, List.length_nil]
        omega
      · simp only [State.mapArb_arb, List.map_append, List.map_cons, List.map_nil]
        exact List.nodup_append.mpr ⟨distinct, List.pairwise_singleton _ _, fun a ha b hb => by
          rintro rfl
          have same : a = p := List.mem_singleton.mp hb
          exact room.1 (same ▸ ha)⟩
      · simp only [State.mapArb_arb, List.map_append]
        exact List.mem_append_left _ (known e he).1
    · rintro ⟨within, -⟩
      refine ⟨fun r hr => ?_, fun config => absurd config started⟩
      rcases List.mem_append.mp hr with old | new
      · exact within r old
      · rw [List.mem_singleton.mp new]
        exact Nat.le_refl _

/-! ## Grants and resolutions -/

theorem State.chosen_mem (s : State) (e : Entry) (h : s.chosen = some e) : e ∈ s.arb.waiting := by
  unfold State.chosen at h
  split at h
  · exact List.mem_of_find?_eq_some h
  · obtain ⟨r, -, hr⟩ := List.mem_filterMap.mp (List.mem_of_find?_eq_some h)
    exact List.mem_of_find?_eq_some hr

theorem State.grantedSeat_holder (s : State) (e : Entry) : (s.grantedSeat e).holder? = some e.player := by
  unfold State.grantedSeat
  split <;> rfl

/-- R46 steps 4 to 6: a waiting player takes a FREE seat and leaves the list. -/
theorem State.seatEntry_laws (n : Nat) (e : Entry) (cost : Nat) (x : Seat) (s : State)
    (free : s.seat.table[n]? = some .free) (waits : e ∈ s.arb.waiting) (holder : x.holder? = some e.player) :
    CarriesLaws s (((s.dropEntry e.player).charge e.player cost).setSeat n x) := by
  have before := (State.dropEntry_laws e.player s).trans (State.charge_laws e.player cost _)
  refine ⟨⟨before.ft, before.time, before.level, before.queue, before.backoff, before.request, before.peer, ?_⟩,
    before.budget⟩
  intro law
  obtain ⟨four, once, rest⟩ := before.element law
  obtain ⟨records, distinct, entries, single, known⟩ := rest
  have perm : (((s.dropEntry e.player).charge e.player cost).setSeat n x).holders.Perm (e.player :: s.holders) :=
    filterMap_set_fresh Seat.holder? _ n x .free _ free rfl holder
  have seatless : e.player ∉ s.holders := (law.2.2.2.2.2.2 e waits).2
  refine ⟨by simpa [State.setSeat] using four, perm.nodup_iff.mpr (List.nodup_cons.mpr ⟨seatless, once⟩), records,
    distinct, entries, single, fun e' he' => ⟨(known e' he').1, fun holds => ?_⟩⟩
  rcases List.mem_cons.mp (perm.mem_iff.mp holds) with same | other
  · have left : e'.player ≠ e.player := by
      simpa using (List.mem_filter.mp (show e' ∈ (s.dropEntry e.player).arb.waiting from he')).2
    exact left same
  · exact (known e' he').2 other

theorem State.grant_laws (n : Nat) (e : Entry) (s : State) (free : s.seat.table[n]? = some .free)
    (waits : e ∈ s.arb.waiting) : CarriesLaws s (s.grant n e) := by
  have seated := State.seatEntry_laws n e (s.offer e.offer).cost.toNat (s.grantedSeat e) s free waits
    (s.grantedSeat_holder e)
  have engaged := (seated.trans (State.postNotice_laws .seatGranted (idByte e.player) e.claim (BitVec.ofNat 16 e.hold)
    _)).trans (State.setRecord_laws e.player (fun r => { r with engagement := .seated n }) _ (fun _ => rfl)
    (fun _ => Nat.le_refl _))
  unfold State.grant
  refine CarriesLaws.trans ?_ (State.answer_laws ..)
  split
  · exact engaged.trans (State.reorder_laws _ _ (moveToTail_perm ..))
  · exact engaged

theorem State.resolvePasses_laws (k : Nat) (s : State) : CarriesLaws s (s.resolvePasses k) := by
  induction k generalizing s with
  | zero => exact .refl s
  | succ k ih =>
    unfold State.resolvePasses
    split
    · split
      · next n e first chosen =>
        exact (State.grant_laws n e s (firstFree_free 0 n _ first).1 (s.chosen_mem e chosen)).trans (ih _)
      · exact .refl s
    · exact .refl s

theorem State.resolve_laws (s : State) : CarriesLaws s s.resolve := State.resolvePasses_laws _ s

/-! ## Seat ends -/

theorem State.endedSeat_claim (s : State) : s.endedSeat.claim? = none := by
  unfold State.endedSeat
  split <;> rfl

theorem State.endSeat_laws (n : Nat) (r : Reason) (s : State) : CarriesLaws s (s.endSeat n r) := by
  unfold State.endSeat
  split
  · exact .refl s
  · next c _ =>
    have written := State.setRecord_laws c.player
      (fun q => { q with engagement := .none, lastEnded := some (c.number, r) }) s (fun _ => rfl) (fun _ => Nat.le_refl _)
    refine CarriesLaws.trans (CarriesLaws.trans ?_ (State.postNotice_laws ..))
      (State.setSeat_laws_vacant _ _ _ s.endedSeat_claim)
    by_cases told : r = .matchEnd
    · simpa [told] using written
    · have answered := written.trans (State.answer_laws c.player c.number (.ended r.code) _)
      simp only [told, if_false]
      split
      · exact answered.trans (State.reorder_laws _ _ (moveToTail_perm ..))
      · exact answered

theorem State.endSeatAndResolve_laws (n : Nat) (r : Reason) (s : State) : CarriesLaws s (s.endSeatAndResolve n r) := by
  unfold State.endSeatAndResolve
  dsimp only
  split
  · exact (State.endSeat_laws n r s).trans (State.resolve_laws _)
  · exact State.endSeat_laws n r s

theorem State.endSeatsWhere_laws (test : State → Nat → Claim → Bool) (r : Reason) (l : List Nat) (s : State) :
    CarriesLaws s (s.endSeatsWhere test r l) := by
  induction l generalizing s with
  | nil => exact .refl s
  | cons n rest ih =>
    unfold State.endSeatsWhere
    refine CarriesLaws.trans ?_ (ih _)
    split
    · split
      · exact State.endSeat_laws n r s
      · exact .refl s
    · exact .refl s

/-! ## Deliveries of a phase change -/

theorem State.endRequests_laws (k : NoticeKind) (d : Half) (l : List Request) (s : State) :
    CarriesLaws s (s.endRequests k d l) := by
  induction l generalizing s with
  | nil => exact .refl s
  | cons r rest ih => exact (State.closeRequest_laws r k d s).trans (ih _)

theorem State.endAllRequests_laws (k : NoticeKind) (d : Half) (s : State) : CarriesLaws s (s.endAllRequests k d) :=
  State.endRequests_laws ..

theorem State.endTest_laws (c : EndCause) (s : State) : CarriesLaws s (s.endTest c) :=
  ((State.mapPort_laws (fun p => { p with nodeState := .running }) s id rfl nofun).trans
    (State.mapLink_laws ..)).trans (State.startPresence_laws _)

theorem State.closeSeats_laws (s : State) : CarriesLaws s s.closeSeats := State.endSeatsWhere_laws ..

theorem State.reload_laws (s : State) : CarriesLaws s s.reload := by
  unfold State.reload
  split
  · refine State.mapArb_laws_fewer _ s (.of_eq ?_) (fun _ r hr => ?_) (.refl _)
    · simp [Function.comp_def]
    · obtain ⟨q, -, rfl⟩ := List.mem_map.mp hr
      exact Nat.le_refl _
  · exact .refl s

theorem State.emptyWaiting_laws (s : State) : CarriesLaws s s.emptyWaiting := by
  refine State.mapArb_laws_fewer _ s (.of_eq ?_) (fun within r hr => ?_) (List.nil_sublist _)
  · rw [List.map_map]
    exact List.map_congr_left fun r _ => by simp only [Function.comp]; split <;> rfl
  · obtain ⟨q, hq, rfl⟩ := List.mem_map.mp hr
    have bound := within q hq
    split <;> exact bound

theorem State.matchReset_laws (s : State) : CarriesLaws s s.matchReset := by
  have vacant (l : List Seat) : (l.map fun _ => Seat.free).filterMap Seat.holder? = [] := by
    simp [List.filterMap_eq_nil_iff, Seat.holder?, Seat.claim?]
  have seats := State.mapTable_laws (·.map fun _ => Seat.free) s (by simp) (by rw [vacant]; exact List.nil_sublist _)
  have emptied := seats.trans (State.mapArb_laws (fun a => { a with waiting := [], ring := [] }) _
    (fun ⟨four, once, _⟩ => ⟨four, once, by simp, by simp, by simp, by simp, by simp⟩) (fun _ => by simp) (fun _ => rfl))
  exact (emptied.trans (State.endAllRequests_laws .ended (reasonDetail .matchEnd) _)).trans
    (State.mapReq_laws (fun u => { u with bench := 0, benchEnding := false, ejected := false }) _ id)

theorem State.matchEnd_laws (s : State) : CarriesLaws s s.matchEnd :=
  ((State.endSeatsWhere_laws ..).trans (State.emptyWaiting_laws _)).trans (State.endAllRequests_laws ..)

theorem State.endTestByPhase_laws (s : State) : CarriesLaws s s.endTestByPhase := by
  unfold State.endTestByPhase
  split
  · exact State.endTest_laws _ s
  · exact .refl s

/-! ## Marks -/

theorem State.clearLatch_laws (s : State) : CarriesLaws s s.clearLatch := by
  unfold State.clearLatch
  split
  · exact (State.mapPhase_laws ..).trans (State.setFlag_laws ..)
  · exact .refl s

theorem State.deliver_laws (k : MarkKind) (s : State) : CarriesLaws s (s.deliver k) := by
  cases k with
  | confirming => exact .refl s
  | pause => exact .refl s
  | resume => exact (State.endTestByPhase_laws s).trans (State.closeSeats_laws _)
  | entry => exact ((State.endTestByPhase_laws s).trans (State.closeSeats_laws _)).trans (State.reload_laws _)
  | finish => exact State.matchEnd_laws s
  | matchReset => exact State.matchReset_laws s

theorem State.applyMark_laws (seq : Byte) (new : Phase) (carried : Option Quad) (s : State) :
    CarriesLaws s (s.applyMark seq new carried) := by
  have adopted := (State.mapPhase_laws (fun u => u.adopt seq new carried) s).trans (State.clearLatch_laws _)
  have flagged (b : Prop) [Decidable b] (t : State) : CarriesLaws t (if b then t.setFlag .phaseChanged else t) := by
    split
    · exact State.setFlag_laws ..
    · exact .refl t
  have delivered := (adopted.trans (flagged (new ≠ s.phase.phase) _)).trans
    (State.deliver_laws (markKind s.phase.phase s.phase.pausedPhase new) _)
  unfold State.applyMark
  dsimp only
  split
  · exact delivered.trans (State.resolve_laws _)
  · exact delivered

theorem State.countMarkIgnore_laws (s : State) : CarriesLaws s s.countMarkIgnore := State.mapPhase_laws ..

theorem State.testPending_laws (s : State) : CarriesLaws s s.testPending := by
  unfold State.testPending
  split
  · exact .refl s
  · split
    · exact .refl s
    · split
      · exact State.applyMark_laws ..
      · exact (State.mapPhase_laws ..).trans (State.countMarkIgnore_laws _)

theorem State.takeMark_laws (seq : Byte) (new : Phase) (carried : Quad) (s : State) :
    CarriesLaws s (s.takeMark seq new carried) :=
  (State.mapPhase_laws ..).trans (State.testPending_laws _)

theorem State.markConflict_laws (s : State) : CarriesLaws s s.markConflict :=
  (State.mapPhase_laws ..).trans (State.setFlag_laws ..)

theorem State.judgeCurrent_laws (seq : Byte) (new : Phase) (carried : Quad) (s : State) :
    CarriesLaws s (s.judgeCurrent seq new carried) := by
  unfold State.judgeCurrent
  split
  · split
    · exact .refl s
    · exact State.markConflict_laws s
  · exact State.countMarkIgnore_laws s

theorem State.judgeMark_laws (seq : Byte) (new : Phase) (carried : Quad) (s : State) :
    CarriesLaws s (s.judgeMark seq new carried) := by
  unfold State.judgeMark
  split
  · exact State.takeMark_laws ..
  · split
    · split
      · split
        · exact .refl s
        · exact State.markConflict_laws s
      · exact State.judgeCurrent_laws ..
    · exact State.judgeCurrent_laws ..

theorem State.catchUp_laws (h : Header) (s : State) : CarriesLaws s (s.catchUp h) := by
  unfold State.catchUp
  split
  · exact .refl s
  · split
    · exact State.applyMark_laws ..
    · exact .refl s

/-! ## The halt latch -/

theorem State.setLatch_laws (s : State) : CarriesLaws s s.setLatch := by
  unfold State.setLatch
  split
  · exact .refl s
  · exact (State.mapPhase_laws ..).trans (State.setFlag_laws ..)

theorem State.noteHalt_laws (s : State) : CarriesLaws s s.noteHalt := State.mapPhase_laws ..

theorem State.placeHalt_laws (s : State) : CarriesLaws s s.placeHalt := by
  unfold State.placeHalt
  split
  · exact State.send_laws ..
  · exact .refl s

theorem State.beginHaltSchedule_laws (s : State) : CarriesLaws s s.beginHaltSchedule := by
  unfold State.beginHaltSchedule
  split
  · exact .refl s
  · exact (State.mapPhase_laws ..).trans (State.placeHalt_laws _)

theorem State.settleHaltSchedule_laws (s : State) : CarriesLaws s s.settleHaltSchedule := by
  unfold State.settleHaltSchedule
  split
  · exact .refl s
  · exact State.mapPhase_laws ..

theorem State.activateStop_laws (s : State) : CarriesLaws s s.activateStop :=
  ((State.mapPhase_laws ..).trans (State.setLatch_laws _)).trans (State.beginHaltSchedule_laws _)

theorem State.deactivateStop_laws (s : State) : CarriesLaws s s.deactivateStop :=
  ((State.mapPhase_laws ..).trans (State.noteHalt_laws _)).trans (State.settleHaltSchedule_laws _)

end Sys2Proof.Machine
end

section
/-! What field time, the peer table and the reports keep of the laws of the state. -/

namespace Sys2Proof.Machine

/-! ## What an applied mark leaves alone -/

/-- What no delivery of a mark reaches: the peer table, field time, the partner views, the referee unit, the pins, the clock,
the stored configuration, the mask and the open transaction. -/
structure SameOutsideMark (s t : State) : Prop where
  peers : t.peers = s.peers
  time : t.time = s.time
  views : t.views = s.views
  ref : t.ref = s.ref
  pins : t.pins = s.pins
  localMs : t.localMs = s.localMs
  freeIndex : t.freeIndex = s.freeIndex
  pending : t.pending = s.pending
  cfg : t.port.cfg = s.port.cfg
  mask : t.port.mask = s.port.mask
  spi : t.port.spi = s.port.spi

theorem SameOutsideMark.refl (s : State) : SameOutsideMark s s := ⟨rfl, rfl, rfl, rfl, rfl, rfl, rfl, rfl, rfl, rfl, rfl⟩

theorem SameOutsideMark.trans {s t u : State} (h : SameOutsideMark s t) (k : SameOutsideMark t u) :
    SameOutsideMark s u :=
  ⟨k.peers.trans h.peers, k.time.trans h.time, k.views.trans h.views, k.ref.trans h.ref, k.pins.trans h.pins,
    k.localMs.trans h.localMs, k.freeIndex.trans h.freeIndex, k.pending.trans h.pending, k.cfg.trans h.cfg,
    k.mask.trans h.mask, k.spi.trans h.spi⟩

theorem SameOutsideElement.mark {s t : State} (h : SameOutsideElement s t) : SameOutsideMark s t := by
  obtain ⟨peers, time, -, views, ref, pins, localMs, freeIndex, pending, cfg, -, mask, spi⟩ := h
  exact ⟨peers, time, views, ref, pins, localMs, freeIndex, pending, cfg, mask, spi⟩

theorem State.mapPhase_mark (f : PhaseUnit → PhaseUnit) (s : State) : SameOutsideMark s (s.mapPhase f) :=
  ⟨rfl, rfl, rfl, rfl, rfl, rfl, rfl, rfl, rfl, rfl, rfl⟩

theorem State.mapReq_mark (f : RequestUnit → RequestUnit) (s : State) : SameOutsideMark s (s.mapReq f) :=
  ⟨rfl, rfl, rfl, rfl, rfl, rfl, rfl, rfl, rfl, rfl, rfl⟩

theorem State.setFlag_mark (f : EventFlag) (s : State) : SameOutsideMark s (s.setFlag f) :=
  ⟨rfl, rfl, rfl, rfl, rfl, rfl, rfl, rfl, rfl, rfl, rfl⟩

theorem State.mapArb_mark (f : Arbiter → Arbiter) (s : State) : SameOutsideMark s (s.mapArb f) :=
  ⟨rfl, rfl, rfl, rfl, rfl, rfl, rfl, rfl, rfl, rfl, rfl⟩

theorem State.endRequests_player (k : NoticeKind) (d : Half) (l : List Request) (s : State) :
    SameOutsidePlayer s (s.endRequests k d l) := by
  induction l generalizing s with
  | nil => exact .refl s
  | cons r rest ih => exact (State.closeRequest_player r k d s).trans (ih _)

theorem State.endAllRequests_player (k : NoticeKind) (d : Half) (s : State) :
    SameOutsidePlayer s (s.endAllRequests k d) := State.endRequests_player ..

theorem State.presenceAt_player (due : Nat) (s : State) : SameOutsidePlayer s (s.presenceAt due) :=
  (State.send_player .presence s).trans (State.mapChan_player (fun c =>
    { c with backoff := backoffStep (s.send .presence).chan.backoff,
             presenceDue := some (due + c.presencePeriod + ((s.send .presence).draw 4).2) }) _)

theorem State.startPresence_player (s : State) : SameOutsidePlayer s s.startPresence :=
  s.startPresence_eq ▸ s.presenceAt_player s.localMs

theorem State.endTest_mark (c : EndCause) (s : State) : SameOutsideMark s (s.endTest c) :=
  SameOutsideMark.trans (t := (s.mapPort fun p => { p with nodeState := .running }).mapLink fun l =>
      { l with testKind := none, patternDue := none, insertPending := false, remaining := 2000,
               record := { l.record with endCause := some c } })
    ⟨rfl, rfl, rfl, rfl, rfl, rfl, rfl, rfl, rfl, rfl, rfl⟩ (State.startPresence_player _).element.mark

theorem State.endTestByPhase_mark (s : State) : SameOutsideMark s s.endTestByPhase := by
  unfold State.endTestByPhase
  split
  · exact State.endTest_mark ..
  · exact .refl s

theorem State.reload_mark (s : State) : SameOutsideMark s s.reload := by
  unfold State.reload
  split
  · exact State.mapArb_mark ..
  · exact .refl s

theorem State.matchReset_mark (s : State) : SameOutsideMark s s.matchReset :=
  SameOutsideMark.trans (t := (s.mapSeat fun u => { u with table := u.table.map fun _ => Seat.free }).mapArb fun a =>
      { a with waiting := [], ring := [] }) ⟨rfl, rfl, rfl, rfl, rfl, rfl, rfl, rfl, rfl, rfl, rfl⟩
    ((State.endAllRequests_player .ended (reasonDetail .matchEnd) _).element.mark.trans (State.mapReq_mark
      (fun u => { u with bench := 0, benchEnding := false, ejected := false }) _))

theorem State.matchEnd_mark (s : State) : SameOutsideMark s s.matchEnd :=
  ((State.endSeatsWhere_element ..).mark.trans (State.mapArb_mark ..)).trans (State.endAllRequests_player ..).element.mark

theorem State.deliver_mark (k : MarkKind) (s : State) : SameOutsideMark s (s.deliver k) := by
  have closed := (State.endTestByPhase_mark s).trans (State.endSeatsWhere_element (fun t _ c =>
    !(t.offer c.offer).openIn t.phase.phase) .phaseClosed s.endTestByPhase.seatNumbers _).mark
  cases k with
  | confirming => exact .refl s
  | pause => exact .refl s
  | resume => exact closed
  | entry => exact closed.trans (State.reload_mark _)
  | finish => exact State.matchEnd_mark s
  | matchReset => exact State.matchReset_mark s

theorem State.clearLatch_mark (s : State) : SameOutsideMark s s.clearLatch := by
  unfold State.clearLatch
  split
  · exact (State.mapPhase_mark ..).trans (State.setFlag_mark ..)
  · exact .refl s

theorem State.applyMark_mark (seq : Byte) (new : Phase) (carried : Option Quad) (s : State) :
    SameOutsideMark s (s.applyMark seq new carried) := by
  have adopted := (State.mapPhase_mark (fun u => u.adopt seq new carried) s).trans (State.clearLatch_mark _)
  have flagged (b : Prop) [Decidable b] (t : State) : SameOutsideMark t (if b then t.setFlag .phaseChanged else t) := by
    split
    · exact State.setFlag_mark ..
    · exact .refl t
  have delivered := (adopted.trans (flagged (new ≠ s.phase.phase) _)).trans
    (State.deliver_mark (markKind s.phase.phase s.phase.pausedPhase new) _)
  unfold State.applyMark
  dsimp only
  split
  · exact delivered.trans (State.resolve_element _).mark
  · exact delivered

theorem State.testPending_mark (s : State) : SameOutsideMark s s.testPending := by
  unfold State.testPending
  split
  · exact .refl s
  · split
    · exact .refl s
    · split
      · exact State.applyMark_mark ..
      · exact (State.mapPhase_mark ..).trans (State.mapPhase_mark ..)

/-! ## Field time -/

theorem State.countSeat_holder (s : State) (k n : Nat) (x : Seat) : (s.countSeat k n x).holder? = x.holder? := by
  cases x <;> simp only [State.countSeat, Seat.holder?, Seat.claim?]
  split <;> rfl

theorem State.countField_laws (k : Nat) (s : State) : CarriesLaws s (s.countField k) := by
  have counted := (State.mapSeats_laws (s.countSeat k) s (s.countSeat_holder k)).trans
    (State.mapTime_laws (fun t => { t with holdover := t.holdover - k }) _ (fun h => ⟨Nat.le_refl _, h⟩) id id)
  unfold State.countField
  dsimp only
  split
  · refine (counted.trans (State.mapArb_laws_fewer (fun a => { a with ring := a.ring.map (StandingRecord.count k) }) _
      (.of_eq (by simp [Function.comp_def, StandingRecord.count])) (fun within r hr => ?_) (.refl _))).trans
      (State.mapReq_laws (RequestUnit.count k) _ fun law => law.of_sublist ?_ rfl)
    · obtain ⟨q, hq, rfl⟩ := List.mem_map.mp hr
      exact within q hq
    · have same (r : Request) : (r.countDown k).element = r.element := by
        unfold Request.countDown
        split
        · split <;> rfl
        · rfl
      simp [RequestUnit.count, Function.comp_def, same]
  · exact counted

theorem State.countField_time (k : Nat) (s : State) :
    (s.countField k).time = { s.time with holdover := s.time.holdover - k } := by
  unfold State.countField
  dsimp only
  split <;> rfl

theorem State.restamp_laws (s : State) : CarriesLaws s s.restamp := by
  unfold State.restamp
  split
  · exact .refl s
  · split
    · exact ⟨⟨fun h => ⟨Nat.le_refl _, h⟩, id, id, id, id, id, id, id⟩, id⟩
    · exact .refl s

theorem State.moveFt_laws (ft : Nat) (s : State) (h : s.time.ft ≤ ftMax → s.time.ft ≤ ft ∧ ft ≤ ftMax) :
    CarriesLaws s (s.moveFt ft) := by
  refine ((State.countField_laws _ s).trans (State.mapTime_laws (fun t => { t with ft := ft }) _ ?_ ?_ id)).trans
    (State.restamp_laws _)
  · simpa only [State.countField_time] using h
  · rintro ⟨bound, rest⟩
    simp only [State.countField_time] at bound
    exact ⟨(h bound).2, rest⟩

theorem State.raiseFt_laws (d : Nat) (s : State) : CarriesLaws s (s.raiseFt d) :=
  State.moveFt_laws _ s fun h => ⟨Nat.le_min.mpr ⟨Nat.le_add_right .., h⟩, Nat.min_le_right ..⟩

theorem State.restamp_time (s : State) : s.restamp.time = s.time := by
  unfold State.restamp
  split
  · rfl
  · split <;> rfl

theorem State.moveFt_time (ft : Nat) (s : State) :
    (s.moveFt ft).time = { s.time with holdover := s.time.holdover - (ft / 1000 - s.time.ft / 1000), ft := ft } := by
  simp only [State.moveFt, State.restamp_time, State.mapTime_time, State.countField_time]

theorem clampTrim_range (v : Int) : -512 ≤ clampTrim v ∧ clampTrim v ≤ 511 := by
  unfold clampTrim
  omega

theorem State.writeTrim_laws (v : Int) (s : State) : CarriesLaws s (s.writeTrim v) := by
  have written : CarriesLaws s (s.mapTime (FieldTime.withTrim v)) := by
    refine State.mapTime_laws _ s (fun h => ⟨Nat.le_refl _, h⟩) ?_ id
    rintro ⟨ft, fraction, -, -, -, commanded⟩
    exact ⟨ft, fraction, (clampTrim_range v).1, (clampTrim_range v).2, rfl, commanded⟩
  by_cases h : trimAlarm (clampTrim v) = s.time.alarm
  · rw [State.writeTrim_sameAlarm v s h]
    exact written
  · rw [State.writeTrim_newAlarm v s h]
    exact written.trans (State.setFlag_laws ..)

/-- R102, R103: an align state is entered with a level of its range. -/
theorem State.setAlign_laws (a : AlignState) (level : Nat) (cause : AlignCause) (s : State)
    (fits : LevelLaw s → LevelLaw (s.setAlign a level cause)) : CarriesLaws s (s.setAlign a level cause) := by
  refine CarriesLaws.trans (State.mapTime_laws _ s (fun h => ⟨Nat.le_refl _, h⟩) id ?_) (State.setFlag_laws ..)
  exact fits

theorem State.referenceLost_laws (s : State) : CarriesLaws s s.referenceLost := by
  have cleared : CarriesLaws s (s.mapTime fun t => { t with reference := none, lockCount := 0 }) :=
    State.mapTime_laws _ s (fun h => ⟨Nat.le_refl _, h⟩) id id
  unfold State.referenceLost
  split
  · next locked =>
    have level : LevelLaw s → 1 ≤ s.time.level ∧ s.time.level ≤ 6 := by
      intro law
      simpa only [LevelLaw, locked] using law
    have held : CarriesLaws s ((s.mapTime fun t => { t with reference := none, lockCount := 0 }).mapTime fun t =>
        { t with holdover := 10000 }) :=
      cleared.trans (State.mapTime_laws (fun t => { t with holdover := 10000 }) _ (fun h => ⟨Nat.le_refl _, h⟩) id id)
    exact held.trans (State.setAlign_laws _ _ _ _ fun law => level law)
  · exact cleared.trans (State.setAlign_laws _ _ _ _ fun _ => rfl)
  all_goals exact cleared

theorem State.chooseReference_laws (id' : NodeId) (s : State) : CarriesLaws s (s.chooseReference id') := by
  refine CarriesLaws.trans ?_ (State.setAlign_laws _ _ _ _ fun _ => rfl)
  exact State.mapTime_laws _ s (fun h => ⟨Nat.le_refl _, h⟩) id id

theorem State.correctForward_laws (d : Nat) (s : State) : CarriesLaws s (s.correctForward d) :=
  (State.raiseFt_laws d s).trans (State.testPending_laws _)

theorem State.correctBy_laws (e : Int) (s : State) : CarriesLaws s (s.correctBy e) := by
  unfold State.correctBy
  split
  · exact State.correctForward_laws ..
  · split
    · exact State.mapTime_laws _ s (fun h => ⟨Nat.le_refl _, h⟩) id id
    · exact .refl s

theorem State.trimUpdate_laws (e : Int) (s : State) : CarriesLaws s (s.trimUpdate e) := by
  unfold State.trimUpdate
  dsimp only
  split
  · exact State.writeTrim_laws ..
  · exact .refl s

/-- R109: the level of LOCKED is one above that of a candidate, whose recorded level is at most 5. -/
theorem State.followLock_laws (inside : Bool) (ref : NodeId) (s : State) (low : s.recordedLevel ref ≤ 5) :
    CarriesLaws s (s.followLock inside ref) := by
  have locks : CarriesLaws s (s.mapTime fun t => { t with lockCount := s.time.lockCount + 1 }) :=
    State.mapTime_laws _ s (fun h => ⟨Nat.le_refl _, h⟩) id id
  have clears : CarriesLaws s (s.mapTime fun t => { t with lockCount := 0 }) :=
    State.mapTime_laws _ s (fun h => ⟨Nat.le_refl _, h⟩) id id
  unfold State.followLock
  split
  · split
    · dsimp only
      split
      · have fits : 1 ≤ s.recordedLevel ref + 1 ∧ s.recordedLevel ref + 1 ≤ 6 := by omega
        exact (locks.trans (State.setAlign_laws .locked _ .lockReached _ fun _ => fits)).trans (State.resolve_laws _)
      · exact locks
    · exact clears
  · split
    · exact .refl s
    · exact clears.trans (State.setAlign_laws _ _ _ _ fun _ => rfl)
  all_goals exact .refl s

theorem State.raiseFt_peers (d : Nat) (s : State) : (s.raiseFt d).peers = s.peers := by
  have counted (k : Nat) : (s.countField k).peers = s.peers := by
    unfold State.countField
    dsimp only
    split <;> rfl
  have stamped (t : State) : t.restamp.peers = t.peers := by
    unfold State.restamp
    split
    · rfl
    · split <;> rfl
  simp only [State.raiseFt, State.moveFt, stamped, State.mapTime_peers, counted]

theorem State.correctBy_peers (e : Int) (s : State) : (s.correctBy e).peers = s.peers := by
  unfold State.correctBy
  split
  · exact (State.testPending_mark _).peers.trans (State.raiseFt_peers ..)
  · split <;> rfl

theorem State.trimUpdate_peers (e : Int) (s : State) : (s.trimUpdate e).peers = s.peers := by
  have outside := State.writeTrim_outside (s.time.trim + max (-8) (min 8 (e.tdiv 16))) s
  simp only [SameOutsideTime, SameOutsidePort] at outside
  unfold State.trimUpdate
  dsimp only
  split
  · exact outside.2.2.1
  · rfl

theorem State.recordedLevel_congr {s t : State} (id : NodeId) (h : t.peers = s.peers) :
    t.recordedLevel id = s.recordedLevel id := by
  simp only [State.recordedLevel, h]

/-- R106: a sample of a candidate. -/
theorem State.takeSample_laws (ref : NodeId) (sender local_ : Quad) (s : State) (low : s.recordedLevel ref ≤ 5) :
    CarriesLaws s (s.takeSample ref sender local_) := by
  have cleared (x : Sample) : CarriesLaws s (s.mapTime fun t => { t with stall := 0, lastSample := some x }) :=
    State.mapTime_laws _ s (fun h => ⟨Nat.le_refl _, h⟩) id id
  unfold State.takeSample
  dsimp only
  split
  · refine ((cleared _).trans (State.correctBy_laws _ _)).trans (State.followLock_laws _ _ _ ?_)
    rw [State.recordedLevel_congr ref (State.correctBy_peers ..)]
    exact low
  · refine (((cleared _).trans (State.correctBy_laws _ _)).trans (State.trimUpdate_laws _ _)).trans
      (State.followLock_laws _ _ _ ?_)
    rw [State.recordedLevel_congr ref ((State.trimUpdate_peers ..).trans (State.correctBy_peers ..))]
    exact low

theorem State.candidate_level (s : State) (id : NodeId) (h : s.candidate id = true) : s.recordedLevel id ≤ 5 := by
  unfold State.candidate at h
  unfold State.recordedLevel
  split at h
  · next p found =>
    simp only [PeerSlot.candidate, Bool.and_eq_true, decide_eq_true_eq] at h
    simpa [found] using h.2
  · cases h

theorem State.followLevel_laws (ref : NodeId) (s : State) (low : s.recordedLevel ref ≤ 5) :
    CarriesLaws s (s.followLevel ref) := by
  unfold State.followLevel
  split
  · next locked =>
    refine State.mapTime_laws _ s (fun h => ⟨Nat.le_refl _, h⟩) id fun _ => ?_
    have fits : 1 ≤ s.recordedLevel ref + 1 ∧ s.recordedLevel ref + 1 ≤ 6 := by omega
    simpa only [LevelLaw, State.mapTime_time, locked] using fits
  · exact .refl s

theorem State.followLevel_peers (ref : NodeId) (s : State) : (s.followLevel ref).peers = s.peers := by
  unfold State.followLevel
  split <;> rfl

theorem State.timeStage_laws (sender : NodeId) (a b : Quad) (s : State) : CarriesLaws s (s.timeStage sender a b) := by
  unfold State.timeStage
  split
  · exact .refl s
  · split
    · split
      · next candidate =>
        have low := s.candidate_level sender candidate
        refine (State.followLevel_laws sender s low).trans (State.takeSample_laws _ _ _ _ ?_)
        rw [State.recordedLevel_congr sender (State.followLevel_peers ..)]
        exact low
      · exact State.referenceLost_laws s
    · split
      · next chooses =>
        have low := s.candidate_level sender (Bool.and_eq_true .. ▸ chooses).1
        split
        · exact .refl s
        · next id _ _ =>
          dsimp only
          split
          · exact (State.chooseReference_laws id s).trans (State.takeSample_laws _ _ _ _ low)
          · exact State.chooseReference_laws id s
      · exact .refl s

/-! ## The local ms -/

theorem State.readSense_laws (s : State) : CarriesLaws s s.readSense := by
  unfold State.readSense
  split
  · exact State.mapSeats_laws _ s fun n x => by cases x <;> rfl
  · exact .refl s

theorem State.countShared_laws (s : State) : CarriesLaws s s.countShared :=
  (State.mapPeers_laws (fun p => { p with slots := p.slots.map fun x => (x.1, x.2.countSilence) }) s
    fun ⟨rising, referees⟩ => ⟨by simpa [Function.comp_def] using rising, referees⟩).trans (State.mapLink_laws ..)

theorem State.countLocal_laws (s : State) : CarriesLaws s s.countLocal := by
  unfold State.countLocal
  split
  · exact .refl s
  · exact ((State.countShared_laws s).trans (State.mapLink_laws ..)).trans (State.mapPort_laws _ _ id rfl id)
  · exact (State.countShared_laws s).trans (State.mapLink_laws ..)
  · exact State.countShared_laws s

theorem State.closeStamp_laws (s : State) : CarriesLaws s s.closeStamp := State.mapChan_laws_same _ s rfl rfl rfl rfl rfl

theorem FieldTime.ftAfter_bounds (t : FieldTime) (h : t.ft ≤ ftMax) : t.ft ≤ t.ftAfter.1 ∧ t.ftAfter.1 ≤ ftMax := by
  unfold FieldTime.ftAfter
  dsimp only
  split
  · exact ⟨Nat.le_min.mpr ⟨Nat.le_add_right .., h⟩, Nat.min_le_right ..⟩
  · split
    · exact ⟨Nat.le_refl _, h⟩
    · exact ⟨Nat.le_min.mpr ⟨Nat.le_add_right .., h⟩, Nat.min_le_right ..⟩

theorem State.localTick_laws (sense : BitVec 4) (s : State) : CarriesLaws s (s.localTick sense) := by
  have ticked : CarriesLaws s { (s.mapPins fun p => { p with sense := sense }) with localMs := s.localMs + 1 } :=
    ⟨⟨fun h => ⟨Nat.le_refl _, h⟩, id, id, id, id, id, id, id⟩, id⟩
  have counted := (ticked.trans (State.readSense_laws _)).trans (State.countLocal_laws _)
  refine ((counted.trans (State.moveFt_laws _ _ (FieldTime.ftAfter_bounds _))).trans
    (State.mapTime_laws _ _ (fun h => ⟨Nat.le_refl _, h⟩) ?_ id)).trans (State.closeStamp_laws _)
  rintro ⟨ft, -, rest⟩
  exact ⟨ft, Nat.mod_lt _ (by decide), rest⟩

/-! ## Partner views and reports -/

theorem State.viewChanged_laws (v : PartnerView) (s : State) : CarriesLaws s (s.viewChanged v) :=
  ((State.endSeatsWhere_laws ..).trans (State.endSeatsWhere_laws ..)).trans (State.resolve_laws _)

theorem State.updateView_laws (id : NodeId) (f : PartnerView → PartnerView) (s : State) :
    CarriesLaws s (s.updateView id f) := by
  unfold State.updateView
  split
  · exact .refl s
  · dsimp only
    split
    · exact State.mapViews_laws ..
    · exact (State.mapViews_laws ..).trans (State.viewChanged_laws ..)

theorem Seat.withSilentHeld_holder (p : NodeId) (b : Bool) (x : Seat) : (x.withSilentHeld p b).holder? = x.holder? := by
  cases x <;> rfl

theorem State.mapSilentHeld_laws (p : NodeId) (b : Bool) (s : State) :
    CarriesLaws s (s.mapSeat fun u => { u with table := u.table.map (Seat.withSilentHeld p b) }) := by
  have indexed := State.mapSeats_laws (fun _ => Seat.withSilentHeld p b) s fun _ => Seat.withSilentHeld_holder p b
  have plain (l : List Seat) : l.mapIdx (fun _ => Seat.withSilentHeld p b) = l.map (Seat.withSilentHeld p b) := by
    apply List.ext_getElem <;> simp
  simpa only [plain] using indexed

theorem State.seatsOnSilent_laws (id : NodeId) (s : State) : CarriesLaws s (s.seatsOnSilent id) :=
  (State.endSeatsWhere_laws ..).trans (State.mapSilentHeld_laws ..)

theorem State.arbiterOnSilent_laws (id : NodeId) (s : State) : CarriesLaws s (s.arbiterOnSilent id) := by
  unfold State.arbiterOnSilent
  split
  · exact .refl s
  · exact (State.dropEntry_laws ..).trans (State.setRecord_laws _ _ _ (by intro _; rfl) (by intro _; exact Nat.le_refl _))

theorem State.markView_laws (id : NodeId) (silent : Bool) (s : State) : CarriesLaws s (s.markView id silent) := by
  refine State.mapReq_laws _ s fun law => law.of_sublist (.refl _) ?_
  simp only [State.mapReq_req, List.map_map]
  exact List.map_congr_left fun x _ => by simp only [Function.comp]; split <;> rfl

theorem State.requestsOnSilent_laws (id : NodeId) (s : State) : CarriesLaws s (s.requestsOnSilent id) := by
  unfold State.requestsOnSilent
  dsimp only
  split
  · exact (State.markView_laws ..).trans (State.closeRequest_laws ..)
  · exact State.markView_laws ..

/-- A change of each referee slot that keeps its id. -/
theorem State.mapReferees_laws (f : RefSlot → RefSlot) (s : State) (h : ∀ r, (f r).id = r.id) :
    CarriesLaws s (s.mapPeers fun p => { p with referees := p.referees.map f }) :=
  State.mapPeers_laws _ s fun ⟨rising, two, once⟩ =>
    ⟨rising, by simpa using two, by simpa [Function.comp_def, h] using once⟩

theorem State.refereesOnSilent_laws (id : NodeId) (s : State) : CarriesLaws s (s.refereesOnSilent id) :=
  State.mapReferees_laws _ s fun r => by split <;> rfl

theorem State.reportSilent_laws (id : NodeId) (s : State) : CarriesLaws s (s.reportSilent id) := by
  have lost : CarriesLaws s (if s.time.reference = some id then s.referenceLost else s) := by
    split
    · exact State.referenceLost_laws s
    · exact .refl s
  have told := ((((lost.trans (State.seatsOnSilent_laws id _)).trans (State.arbiterOnSilent_laws id _)).trans
    (State.updateView_laws id (fun v => { v with silent := true }) _)).trans (State.requestsOnSilent_laws id _)).trans
    (State.refereesOnSilent_laws id _)
  have freed (b : Bool) (t : State) : CarriesLaws t (if b then t.resolve else t) := by
    split
    · exact State.resolve_laws t
    · exact .refl t
  exact told.trans (freed _ _)

theorem State.arbiterOnHeard_laws (id : NodeId) (s : State) : CarriesLaws s (s.arbiterOnHeard id) := by
  unfold State.arbiterOnHeard
  split
  · split
    · refine CarriesLaws.trans ?_ (State.resolve_laws _)
      exact State.setRecord_laws _ _ _ (by intro _; rfl) (by intro _; exact Nat.le_refl _)
    · exact .refl s
  · exact .refl s

theorem State.reportHeard_laws (id : NodeId) (s : State) : CarriesLaws s (s.reportHeard id) :=
  (((State.mapSilentHeld_laws ..).trans (State.arbiterOnHeard_laws ..)).trans (State.updateView_laws ..)).trans
    (State.markView_laws ..)

/-! ## The peer table -/

theorem insertId_keys_mem {α : Type} (k : NodeId) (a : α) (l : List (NodeId × α)) (j : NodeId) :
    j ∈ (insertId k a l).map (·.1) → j = k ∨ j ∈ l.map (·.1) := by
  induction l with
  | nil => simp [insertId]
  | cons x l ih =>
    obtain ⟨i, b⟩ := x
    unfold insertId
    split
    · simp
    · split
      · simp only [List.map_cons, List.mem_cons]
        rintro (h | h)
        · exact .inl h
        · exact .inr (.inr h)
      · simp only [List.map_cons, List.mem_cons]
        rintro (h | h)
        · exact .inr (.inl h)
        · exact (ih h).imp id .inr

/-- A table stays sorted by rising id. -/
theorem insertId_rising {α : Type} (k : NodeId) (a : α) (l : List (NodeId × α))
    (h : (l.map (·.1)).Pairwise (· < ·)) : ((insertId k a l).map (·.1)).Pairwise (· < ·) := by
  induction l with
  | nil => simp [insertId]
  | cons x l ih =>
    obtain ⟨i, b⟩ := x
    simp only [List.map_cons, List.pairwise_cons] at h
    obtain ⟨above, rising⟩ := h
    unfold insertId
    split
    · next lt =>
      simp only [List.map_cons, List.pairwise_cons]
      refine ⟨fun j hj => ?_, above, rising⟩
      rcases List.mem_cons.mp hj with rfl | hj
      · exact lt
      · exact BitVec.lt_trans lt (above j hj)
    · split
      · next same =>
        simp only [List.map_cons, List.pairwise_cons]
        exact ⟨same ▸ above, rising⟩
      · next notBelow other =>
        simp only [List.map_cons, List.pairwise_cons]
        refine ⟨fun j hj => ?_, ih rising⟩
        rcases insertId_keys_mem k a l j hj with rfl | hj
        · bv_omega
        · exact above j hj

theorem lookupId_isSome {α : Type} (k : NodeId) (l : List (NodeId × α)) :
    (lookupId k l).isSome = true ↔ k ∈ l.map (·.1) := by
  induction l with
  | nil => simp [lookupId]
  | cons x l ih =>
    obtain ⟨i, b⟩ := x
    by_cases same : i = k
    · simp [lookupId, same]
    · simp [lookupId, same, Ne.symm same, ih]

theorem insertId_length {α : Type} (k : NodeId) (a : α) (l : List (NodeId × α)) :
    (insertId k a l).length ≤ l.length + 1 := by
  induction l with
  | nil => simp [insertId]
  | cons x l ih =>
    obtain ⟨i, b⟩ := x
    unfold insertId
    split
    · simp
    · split
      · simp
      · simpa using ih

theorem insertId_length_known {α : Type} (k : NodeId) (a : α) (l : List (NodeId × α))
    (rising : (l.map (·.1)).Pairwise (· < ·)) (known : (lookupId k l).isSome = true) :
    (insertId k a l).length = l.length := by
  induction l with
  | nil => simp [lookupId] at known
  | cons x l ih =>
    obtain ⟨i, b⟩ := x
    rw [lookupId_isSome] at known
    simp only [List.map_cons, List.pairwise_cons, List.mem_cons] at rising known
    obtain ⟨above, rising⟩ := rising
    unfold insertId
    split
    · next lt =>
      rcases known with rfl | later
      · exact absurd lt (BitVec.lt_irrefl _)
      · exact absurd (BitVec.lt_trans lt (above k later)) (BitVec.lt_irrefl _)
    · split
      · rfl
      · next other =>
        have later : (lookupId k l).isSome = true :=
          (lookupId_isSome k l).mpr (known.resolve_left (Ne.symm other))
        simpa using ih rising later

theorem State.setSlot_laws (id : NodeId) (x : PeerSlot) (s : State) : CarriesLaws s (s.setSlot id x) :=
  State.mapPeers_laws _ s fun ⟨rising, referees⟩ => ⟨insertId_rising _ _ _ rising, referees⟩

theorem State.fillReferee_laws (h : Header) (s : State) : CarriesLaws s (s.fillReferee h) := by
  unfold State.fillReferee
  split
  · next free =>
    obtain ⟨-, room, none⟩ := free
    refine State.mapPeers_laws _ s fun ⟨rising, two, once⟩ => ⟨rising, length_append_one _ room, ?_⟩
    simp only [State.mapPeers_peers, List.map_append, List.map_cons, List.map_nil]
    refine List.nodup_append.mpr ⟨once, List.pairwise_singleton _ _, ?_⟩
    rintro a ha b hb rfl
    have same : a = h.sender := List.mem_singleton.mp hb
    obtain ⟨r, hr, rfl⟩ := List.mem_map.mp ha
    simp only [List.any_eq_false, decide_eq_true_eq] at none
    exact none r hr same
  · exact .refl s

theorem State.peerChanged_laws (id : NodeId) (s : State) : CarriesLaws s (s.peerChanged id) :=
  (State.mapPeers_laws (fun p => { p with lastChanged := some id }) s (fun h => h)).trans (State.setFlag_laws ..)

theorem State.takeHeader_laws (h : Header) (s : State) : CarriesLaws s (s.takeHeader h) := by
  unfold State.takeHeader
  split
  · exact (State.setSlot_laws ..).trans (State.reportHeard_laws ..)
  · next p _ =>
    have changed : CarriesLaws s (if p.role = h.role ∧ p.alliance = h.alliance then
        s.setSlot h.sender (slotFrom h s.fieldMs s.peers.silenceTime (inc16 p.frames) p.ad)
        else (s.setSlot h.sender (slotFrom h s.fieldMs s.peers.silenceTime (inc16 p.frames) p.ad)).peerChanged
          h.sender) := by
      split
      · exact State.setSlot_laws ..
      · exact (State.setSlot_laws ..).trans (State.peerChanged_laws ..)
    dsimp only
    split
    · exact changed
    · exact changed.trans (State.reportHeard_laws ..)

theorem State.countReject_laws (s : State) : CarriesLaws s s.countReject := State.mapPeers_laws _ s (fun h => h)

theorem State.idClash_laws (s : State) : CarriesLaws s s.idClash :=
  (State.mapPeers_laws (fun p => { p with clashCount := inc16 p.clashCount }) s (fun h => h)).trans
    (State.setFlag_laws ..)

/-- R164, R165: a frame leaves the receive queue. -/
theorem State.popRx_laws (s : State) (f : RxFrame) (rest : List RxFrame) (h : s.chan.rxQueue = f :: rest) :
    CarriesLaws s (s.mapChan fun c => { c with rxQueue := rest }) := by
  refine State.mapChan_laws _ s ?_ id (fun idle => by simp [h] at idle)
  rintro ⟨notices, rx, tx⟩
  rw [h, List.length_cons] at rx
  exact ⟨notices, Nat.le_of_succ_le rx, tx⟩

/-- R165: what a dispatched frame keeps, whatever its body does within the laws. -/
theorem State.dispatch_laws (kind : BitVec 4) (own body : RxFrame → State → State) (s : State)
    (hown : ∀ f u, CarriesLaws u (own f u)) (hbody : ∀ f u, CarriesLaws u (body f u)) :
    CarriesLaws s (s.dispatch kind own body) := by
  unfold State.dispatch
  split
  · exact .refl s
  · next f rest queue =>
    split
    · have popped := s.popRx_laws f rest queue
      dsimp only
      split
      · split
        · exact popped.trans (hown ..)
        · exact popped.trans (State.idClash_laws _)
      · split
        · exact popped.trans (State.countReject_laws _)
        · exact ((((popped.trans (State.takeHeader_laws ..)).trans (State.fillReferee_laws ..)).trans
            (State.timeStage_laws ..)).trans (State.catchUp_laws ..)).trans (hbody ..)
    · exact .refl s

end Sys2Proof.Machine
end

section
/-! What every command keeps of the laws of the state, and the four statements about every step. -/

namespace Sys2Proof.Machine

/-! ## Configuration and START -/

/-- R184: in CONFIG no record stands, so a new budget base breaks no law. -/
theorem State.storeConfig_laws (f : StoredConfig → StoredConfig) (s : State) : CarriesLaws s (s.storeConfig f).state := by
  unfold State.storeConfig
  split
  · next config =>
    refine ⟨⟨fun h => ⟨Nat.le_refl _, h⟩, id, id, id, id, id, id, id⟩, fun ⟨_, idle⟩ => ⟨fun r hr => ?_, idle⟩⟩
    have none : r ∈ s.arb.ring := hr
    simp [(idle config).1] at none
  · exact .refl s

theorem State.fixTiming_laws (s : State) : CarriesLaws s s.fixTiming := by
  unfold State.fixTiming
  dsimp only
  refine CarriesLaws.trans ?_ (State.mapTime_laws _ _ (fun h => ⟨Nat.le_refl _, h⟩) (fun h => h) (fun h => h))
  refine CarriesLaws.trans ?_ (State.mapLink_laws ..)
  refine CarriesLaws.trans ?_ (State.mapPeers_laws _ _ fun h => h)
  exact State.mapChan_laws_same _ s rfl rfl rfl rfl rfl

/-- R185: a configuration without a fault has a node id of at most 63. -/
theorem StoredConfig.nodeId_of_noFault (c : StoredConfig) (h : c.fault = none) : c.nodeId.toNat ≤ 63 := by
  refine Classical.byContradiction fun high => ?_
  simp [StoredConfig.fault, show 63 < c.nodeId.toNat by omega] at h

/-- R185: an ELEMENT's configuration without a fault has 1 to 4 seats. -/
theorem StoredConfig.seatCount_of_noFault (c : StoredConfig) (h : c.fault = none)
    (element : roleOfCode c.role.toNat = some .element) : c.seatCount.toNat ≤ 4 := by
  have inner : c.elementFault = none := by
    unfold StoredConfig.fault at h
    repeat' split at h
    all_goals first | assumption | contradiction
  refine Classical.byContradiction fun many => ?_
  simp [StoredConfig.elementFault, show 4 < c.seatCount.toNat by omega] at inner

theorem State.formElement_laws (s : State) (few : s.isElement = true → s.port.cfg.seatCount.toNat ≤ 4) :
    CarriesLaws s s.formElement := by
  unfold State.formElement
  split
  · next element =>
    have vacant : (List.replicate s.port.cfg.seatCount.toNat Seat.free).filterMap (fun x =>
        x.claim?.map Claim.player) = [] := by
      simp [Seat.claim?]
    refine CarriesLaws.trans (State.mapSeat_laws _ s ?_) (State.mapViews_laws ..)
    rintro ⟨-, -, records, distinct, entries, single, known⟩
    refine ⟨by simpa using few element, ?_, records, distinct, entries, single, fun e he => ⟨(known e he).1, ?_⟩⟩
    · simp [State.holders, vacant]
    · simp [State.holders, vacant]
  · exact .refl s

theorem State.seed_laws (s : State) (id' : s.port.cfg.nodeId.toNat ≤ 63) : CarriesLaws s s.seed := by
  have nonzero : BitVec.ofNat 16 (s.port.cfg.nodeId.toNat * 257 + 1) ≠ 0 := by
    intro zero
    have value := congrArg BitVec.toNat zero
    simp only [BitVec.toNat_ofNat, BitVec.ofNat_eq_ofNat, Nat.zero_mod] at value
    omega
  unfold State.seed
  refine CarriesLaws.trans ?_ (State.mapLink_laws ..)
  exact State.mapChan_laws _ s (fun h => h) (fun _ => ⟨Nat.le_refl _, Nat.le_of_ble_eq_true rfl, nonzero⟩) (fun h => h)

theorem State.enterSource_laws (s : State) : CarriesLaws s s.enterSource := by
  unfold State.enterSource
  split
  · exact (State.writeTrim_laws ..).trans (State.setAlign_laws _ _ _ _ fun _ => rfl)
  · exact .refl s

theorem State.readStopAtStart_laws (s : State) : CarriesLaws s s.readStopAtStart := by
  unfold State.readStopAtStart
  split
  · exact State.activateStop_laws s
  · exact .refl s

theorem State.listen_laws (s : State) : CarriesLaws s s.listen := State.mapPort_laws _ s id rfl nofun

theorem State.formElement_cfg (s : State) : s.formElement.port = s.port := by
  unfold State.formElement
  split <;> rfl

theorem startAct_laws (s : State) : CarriesLaws s (startAct s).state := by
  unfold startAct
  split
  · exact .refl s
  · split
    · exact .refl s
    · next good =>
      have few : s.fixTiming.isElement = true → s.fixTiming.port.cfg.seatCount.toNat ≤ 4 := fun element =>
        s.port.cfg.seatCount_of_noFault good (of_decide_eq_true element)
      have low : s.fixTiming.formElement.port.cfg.nodeId.toNat ≤ 63 := by
        rw [State.formElement_cfg]
        exact s.port.cfg.nodeId_of_noFault good
      exact ((((s.fixTiming_laws.trans (State.formElement_laws _ few)).trans (State.seed_laws _ low)).trans
        (State.enterSource_laws _)).trans (State.readStopAtStart_laws _)).trans (State.listen_laws _)

/-! ## The player's commands -/

/-- R73: a new request to an element that has none, where the list has room. -/
theorem State.takeAsk_laws (e : NodeId) (offer : Nat) (hold : Half) (s : State) (room : s.req.list.length < 4)
    (none : s.request e = none) : CarriesLaws s (s.takeAsk e offer hold).state := by
  refine CarriesLaws.trans (State.mapReq_laws _ s ?_) (State.sendOfRequest_laws ..)
  rintro ⟨-, distinct, view⟩
  refine ⟨length_append_one _ room, ?_, view⟩
  simp only [State.mapReq_req, List.map_append, List.map_cons, List.map_nil]
  refine List.nodup_append.mpr ⟨distinct, List.pairwise_singleton _ _, ?_⟩
  rintro a ha b hb rfl
  have same : a = e := List.mem_singleton.mp hb
  obtain ⟨r, hr, rfl⟩ := List.mem_map.mp ha
  simp only [State.request, List.find?_eq_none, decide_eq_true_eq] at none
  exact none r hr same

theorem askAct_laws (element offer : Byte) (hold : Half) (s : State) :
    CarriesLaws s (askAct element offer hold s).state := by
  unfold askAct
  dsimp only
  repeat' split
  case h_2.isFalse.isFalse.isFalse room _ _ _ _ _ new => exact State.takeAsk_laws _ _ _ s (by omega) (by simpa using new)
  all_goals exact .refl s

theorem yieldAct_laws (element : Byte) (s : State) : CarriesLaws s (yieldAct element s).state := by
  unfold yieldAct
  repeat' split
  case h_2.isFalse =>
    refine CarriesLaws.trans ?_ (State.sendOfRequest_laws ..)
    exact State.setRequest_laws _ _ _ (by intro _; rfl)
  all_goals exact .refl s

theorem renewAct_laws (element : Byte) (s : State) : CarriesLaws s (renewAct element s).state := by
  unfold renewAct
  repeat' split
  case h_2.isFalse.isTrue =>
    refine CarriesLaws.trans ?_ (State.sendOfRequest_laws ..)
    exact State.setRequest_laws _ _ _ (by intro _; rfl)
  all_goals exact .refl s

/-! ## The referee's, the field-time and the test commands -/

theorem State.takeSendMark_laws (new : Phase) (lead : Half) (s : State) :
    CarriesLaws s (s.takeSendMark new lead).state := by
  unfold State.takeSendMark
  dsimp only [done]
  refine CarriesLaws.trans ?_ (State.mapRef_laws ..)
  exact (State.judgeMark_laws ..).trans (State.send_laws ..)

theorem sendMarkAct_laws (phase : Byte) (lead : Half) (s : State) : CarriesLaws s (sendMarkAct phase lead s).state := by
  unfold sendMarkAct
  repeat' split
  case h_2.isFalse.isFalse => exact State.takeSendMark_laws _ lead s
  all_goals exact .refl s

theorem State.takeOrder_laws (frame : Byte → TxBody) (s : State) : CarriesLaws s (s.takeOrder frame) := by
  unfold State.takeOrder
  dsimp only
  refine CarriesLaws.trans ?_ (State.mapRef_laws ..)
  exact State.send_laws ..

theorem sendSanctionAct_laws (player kind : Byte) (duration : Half) (s : State) :
    CarriesLaws s (sendSanctionAct player kind duration s).state := by
  unfold sendSanctionAct
  repeat' split
  case h_2.isFalse k _ _ =>
    exact State.takeOrder_laws (fun seq => .sanction seq (player.setWidth 6) k (sentDuration k duration)) s
  all_goals exact .refl s

theorem sendTurnAct_laws (element player : Byte) (s : State) : CarriesLaws s (sendTurnAct element player s).state := by
  unfold sendTurnAct
  repeat' split
  case isFalse.isFalse.isFalse.isFalse => exact State.takeOrder_laws (TxBody.turn · _ _) s
  all_goals exact .refl s

theorem State.haltCommand_laws (f : State → State) (s : State) (h : CarriesLaws s (f s)) :
    CarriesLaws s (s.haltCommand f).state := by
  unfold State.haltCommand
  repeat' split
  case isFalse.isFalse => exact h
  all_goals exact .refl s

theorem haltOnAct_laws (s : State) : CarriesLaws s (haltOnAct s).state := by
  refine State.haltCommand_laws _ s ?_
  unfold State.haltSendingOn
  split
  · exact .refl s
  · exact ((State.mapPhase_laws ..).trans (State.setLatch_laws _)).trans (State.beginHaltSchedule_laws _)

theorem haltOffAct_laws (s : State) : CarriesLaws s (haltOffAct s).state := by
  refine State.haltCommand_laws _ s ?_
  unfold State.haltSendingOff
  split
  · exact ((State.mapPhase_laws ..).trans (State.noteHalt_laws _)).trans (State.settleHaltSchedule_laws _)
  · exact .refl s

theorem State.enterFixed_laws (s : State) : CarriesLaws s s.enterFixed := by
  have entered : CarriesLaws s ((s.writeTrim s.time.commanded).mapTime fun x =>
      { x with mode := .fixed, reference := none, lockCount := 0, holdover := 0 }) :=
    (State.writeTrim_laws ..).trans (State.mapTime_laws (fun x =>
      { x with mode := .fixed, reference := none, lockCount := 0, holdover := 0 }) _ (fun h => ⟨Nat.le_refl _, h⟩) id id)
  unfold State.enterFixed
  dsimp only
  split
  · exact entered
  · exact entered.trans (State.setAlign_laws _ _ _ _ fun _ => rfl)

theorem trimModeAct_laws (mode : Byte) (s : State) : CarriesLaws s (trimModeAct mode s).state := by
  unfold trimModeAct
  split
  · exact .refl s
  · split
    · exact .refl s
    · dsimp only [done_state]
      split
      · exact .refl s
      · split
        · exact State.enterFixed_laws s
        · exact State.mapTime_laws _ s (fun h => ⟨Nat.le_refl _, h⟩) id id

theorem trimSetAct_laws (trim : Half) (s : State) : CarriesLaws s (trimSetAct trim s).state := by
  unfold trimSetAct
  split
  · exact .refl s
  · refine CarriesLaws.trans (State.mapTime_laws (fun x => { x with commanded := clampTrim trim.toInt }) s
      (fun h => ⟨Nat.le_refl _, h⟩) ?_ id) (State.writeTrim_laws ..)
    rintro ⟨ft, fraction, low, high, alarm, -, -⟩
    exact ⟨ft, fraction, low, high, alarm, (clampTrim_range _).1, (clampTrim_range _).2⟩

theorem State.enterTest_laws (kind : TestKind) (s : State) : CarriesLaws s (s.enterTest kind) := by
  have entered : CarriesLaws s ((s.mapPort fun p => { p with nodeState := .test }).mapLink
      (Link.enterTest kind s.localMs)) :=
    (State.mapPort_laws (fun p => { p with nodeState := .test }) s id rfl nofun).trans (State.mapLink_laws ..)
  refine (entered.trans (State.mapChan_laws (fun c => c.enterTest.enterLoopback kind) _ ?_ ?_ ?_)).trans
    (State.endAllRequests_laws ..)
  · rintro ⟨notices, rx, tx, presences⟩
    have shorter := List.filter_sublist (l := s.chan.txQueue) (p := fun f => !f.body.barredInTest)
    have queues (c : Channel) : (c.enterTest.enterLoopback kind).rxQueue = c.rxQueue ∧
        (c.enterTest.enterLoopback kind).txQueue = c.txQueue.filter fun f => !f.body.barredInTest := by
      unfold Channel.enterLoopback
      split <;> exact ⟨rfl, rfl⟩
    simp only [QueueLaw, State.mapChan_chan, queues]
    exact ⟨notices, rx, Nat.le_trans shorter.length_le tx, Nat.le_trans (shorter.filter _).length_le presences⟩
  · intro law
    simp only [BackoffLaw, State.mapChan_chan, Channel.enterLoopback]
    split <;> exact law
  · rintro ⟨rx, reception⟩
    simp only [Channel.enterLoopback]
    split
    · exact ⟨rx, rfl⟩
    · exact ⟨rx, reception⟩

theorem testBeginAct_laws (kind : Byte) (s : State) : CarriesLaws s (testBeginAct kind s).state := by
  unfold testBeginAct
  repeat' split
  case h_2 => exact State.enterTest_laws _ s
  all_goals exact .refl s

theorem testEndAct_laws (s : State) : CarriesLaws s (testEndAct s).state := by
  unfold testEndAct
  split
  · exact State.endTest_laws ..
  · exact .refl s

theorem insertErrorAct_laws (s : State) : CarriesLaws s (insertErrorAct s).state := by
  unfold insertErrorAct
  split
  · exact State.mapLink_laws (fun l => { l with insertPending := true }) s
  · exact .refl s

/-! ## The READ commands -/

/-- A completion that changes nothing but what the port shows of it. -/
theorem Completion.laws_of_same {s : State} {c : Completion} (h : c.state = s) : CarriesLaws s c.state := h ▸ .refl s

theorem State.elementRead_state (start : Byte) (n : Nat) (reply : List Byte) (s : State) :
    (s.elementRead start n reply).state = s := by
  unfold State.elementRead
  repeat' split
  all_goals rfl

theorem readRequestsAct_state (start : Byte) (s : State) : (readRequestsAct start s).state = s := by
  unfold readRequestsAct
  repeat' split
  all_goals rfl

theorem readViewAct_state (start : Byte) (s : State) : (readViewAct start s).state = s := by
  unfold readViewAct
  repeat' split
  all_goals rfl

theorem readPeerAct_state (id : Byte) (s : State) : (readPeerAct id s).state = s := by
  unfold readPeerAct
  split <;> rfl

theorem State.readCountdown_laws (s : State) : CarriesLaws s s.readCountdown := by
  obtain ⟨k, i, h⟩ := s.readCountdown_eq
  rw [h]
  exact ⟨⟨fun h => ⟨Nat.le_refl _, h⟩, id, id, id, id, id, id, id⟩, id⟩

theorem readLinkAct_laws (part : Byte) (s : State) : CarriesLaws s (readLinkAct part s).state := by
  unfold readLinkAct
  split
  · exact s.readCountdown_laws
  · split <;> exact .refl s

theorem readNoticesAct_laws (s : State) : CarriesLaws s (readNoticesAct s).state :=
  State.mapPort_laws (fun p => { p with notices := p.notices.drop 4 }) s
    (fun h => by simp only [List.length_drop]; omega) rfl id

/-! ## Commands of the port (R182) -/

theorem State.handOver_laws (code : Byte) (args : List Byte) (s : State) : CarriesLaws s (s.handOver code args) :=
  State.mapPort_laws _ s id rfl id

theorem Completion.finish_laws (c : Completion) : CarriesLaws c.state c.finish :=
  (State.mapPort_laws _ _ id rfl id).trans (State.setFlag_laws ..)

/-- SET_OFFER keeps the laws. -/
theorem setOfferAct_laws (slot kind : Byte) (maxHold : Half) (cost openPhases restriction : Byte) (pulsePeriod : Half)
    (s : State) : CarriesLaws s (setOfferAct slot kind maxHold cost openPhases restriction pulsePeriod s).state := by
  unfold setOfferAct
  split
  · exact .refl s
  · split
    · exact .refl s
    · exact State.storeConfig_laws ..

/-- What taking a block leaves: the reset state, or a completion that carries the laws. -/
def Taken.Lawful (s : State) (x : Taken) : Prop :=
  x = .resets s.afterReset ∨ ∃ c, x = .completes c ∧ CarriesLaws s c.state

theorem Taken.lawful_completes {s : State} {c : Completion} (h : CarriesLaws s c.state) :
    Taken.Lawful s (.completes c) := .inr ⟨c, rfl, h⟩

theorem takeSetup_lawful (code : Nat) (b : List Byte) (s : State) :
    ∀ x ∈ takeSetup code b s, Taken.Lawful s x := by
  unfold takeSetup
  split <;> rintro x ⟨⟩
  · exact Taken.lawful_completes (State.storeConfig_laws ..)
  · exact Taken.lawful_completes (State.storeConfig_laws ..)
  · exact Taken.lawful_completes (State.storeConfig_laws ..)
  · exact Taken.lawful_completes (setOfferAct_laws ..)
  · exact Taken.lawful_completes (State.storeConfig_laws ..)
  · exact Taken.lawful_completes (State.storeConfig_laws ..)
  · exact Taken.lawful_completes (startAct_laws s)
  · exact .inl rfl

theorem takeWork_lawful (code : Nat) (b : List Byte) (s : State) :
    ∀ x ∈ takeWork code b s, Taken.Lawful s x := by
  unfold takeWork
  split <;> rintro x ⟨⟩
  · exact Taken.lawful_completes (askAct_laws ..)
  · exact Taken.lawful_completes (yieldAct_laws ..)
  · exact Taken.lawful_completes (renewAct_laws ..)
  · exact Taken.lawful_completes (sendMarkAct_laws ..)
  · exact Taken.lawful_completes (sendSanctionAct_laws ..)
  · exact Taken.lawful_completes (sendTurnAct_laws ..)
  · exact Taken.lawful_completes (haltOnAct_laws s)
  · exact Taken.lawful_completes (haltOffAct_laws s)
  · exact Taken.lawful_completes (trimModeAct_laws ..)
  · exact Taken.lawful_completes (trimSetAct_laws ..)
  · exact Taken.lawful_completes (testBeginAct_laws ..)
  · exact Taken.lawful_completes (testEndAct_laws s)
  · exact Taken.lawful_completes (insertErrorAct_laws s)

theorem takeRead_lawful (code : Nat) (b : List Byte) (s : State) :
    ∀ x ∈ takeRead code b s, Taken.Lawful s x := by
  unfold takeRead
  split <;> rintro x ⟨⟩
  · exact Taken.lawful_completes (Completion.laws_of_same (State.elementRead_state ..))
  · exact Taken.lawful_completes (Completion.laws_of_same (State.elementRead_state ..))
  · exact Taken.lawful_completes (Completion.laws_of_same (State.elementRead_state ..))
  · exact Taken.lawful_completes (Completion.laws_of_same (readRequestsAct_state ..))
  · exact Taken.lawful_completes (Completion.laws_of_same (readViewAct_state ..))
  · exact Taken.lawful_completes (Completion.laws_of_same (readPeerAct_state ..))
  · exact Taken.lawful_completes (.refl s)
  · exact Taken.lawful_completes (readLinkAct_laws ..)
  · exact Taken.lawful_completes (readNoticesAct_laws s)
  · exact Taken.lawful_completes (.refl s)

theorem takeBlock_lawful (b : List Byte) (s : State) : Taken.Lawful s (takeBlock b s) := by
  have setup := takeSetup_lawful (byteAt b 0).toNat b s
  have work := takeWork_lawful (byteAt b 0).toNat b s
  have read := takeRead_lawful (byteAt b 0).toNat b s
  unfold takeBlock
  dsimp only
  cases h1 : takeSetup (byteAt b 0).toNat b s with
  | some x => exact setup x h1
  | none =>
    cases h2 : takeWork (byteAt b 0).toNat b s with
    | some x => exact work x h2
    | none =>
      cases h3 : takeRead (byteAt b 0).toNat b s with
      | some x => exact read x h3
      | none => exact Taken.lawful_completes (.refl s)

/-- A command carries the laws from one state to the other, or resets. -/
def ResetOrLaws (s t : State) : Prop := t = s.afterReset ∨ CarriesLaws s t

theorem State.takeHanded_laws (s : State) : ResetOrLaws s s.takeHanded := by
  have token := State.mapPort_laws (fun p => { p with token := 1 }) s id rfl id
  unfold State.takeHanded
  rcases takeBlock_lawful s.port.block (s.mapPort fun p => { p with token := 1 }) with resets | ⟨c, completes, laws⟩
  · exact .inl (by rw [resets]; rfl)
  · exact .inr (by rw [completes]; exact (token.trans laws).trans c.finish_laws)

/-- R182: the writes of another command are ignored with COMMAND_OVERRUN, and the held command is taken. -/
theorem State.overrun_laws (s : State) : ResetOrLaws s (s.setFlag .commandOverrun).takeHanded := by
  rcases (s.setFlag .commandOverrun).takeHanded_laws with resets | laws
  · exact .inl resets
  · exact .inr ((State.setFlag_laws ..).trans laws)

theorem State.command_laws (code : Byte) (args : List Byte) (act : State → Completion) (s : State)
    (h : ∀ u, CarriesLaws u (act u).state) : ResetOrLaws s (s.command code args act) := by
  unfold State.command
  split
  · exact .inr (((State.handOver_laws code args s).trans (h _)).trans (Completion.finish_laws _))
  · exact s.overrun_laws

end Sys2Proof.Machine
end

section
/-! What frames and events keep of the laws of the state, and the four statements about every step. -/

namespace Sys2Proof.Machine

/-! ## ASK and YIELD frames -/

theorem State.renewSeat_laws (a : AskFields) (n : Nat) (c : Claim) (s : State) : CarriesLaws s (s.renewSeat a n c) := by
  unfold State.renewSeat
  split
  · exact State.answer_laws ..
  · split
    · exact .refl s
    · next x seat =>
      split
      · exact State.answer_laws ..
      · split
        · exact State.answer_laws ..
        · split
          · exact State.answer_laws ..
          · refine CarriesLaws.trans ?_ (State.answer_laws ..)
            refine CarriesLaws.trans (State.charge_laws a.player (s.offer c.offer).cost.toNat s) ?_
            exact State.setSeat_laws_same n x.renewed x _ seat (by cases x <;> rfl)

theorem State.knownSeat_laws (a : AskFields) (n : Nat) (c : Claim) (s : State) : CarriesLaws s (s.knownSeat a n c) := by
  unfold State.knownSeat
  split
  · exact State.renewSeat_laws ..
  · exact State.answer_laws ..

theorem State.setEntry_laws (p : NodeId) (f : Entry → Entry) (s : State) (h : ∀ e, e.player = p → (f e).player = p) :
    CarriesLaws s (s.setEntry p f) := by
  have players : (s.arb.waiting.map fun e => if e.player = p then f e else e).map (·.player) =
      s.arb.waiting.map (·.player) := by
    rw [List.map_map]
    refine List.map_congr_left fun e _ => ?_
    simp only [Function.comp]
    split
    · next same => rw [h e same, same]
    · rfl
  exact State.mapArb_laws_fewer _ s (.refl _) id (players ▸ .refl _)

theorem State.resolveThenWait_laws (a : AskFields) (s : State) : CarriesLaws s (s.resolveThenWait a) := by
  unfold State.resolveThenWait
  dsimp only
  split
  · exact (State.resolve_laws s).trans (State.answer_laws ..)
  · exact State.resolve_laws s

/-- R39: a new entry of a player that has a record, no seat and no entry, where the list has room. -/
theorem State.appendEntry_laws (a : AskFields) (s : State) (known : (s.record a.player).isSome = true)
    (seatless : a.player ∉ s.holders) (new : (s.entry a.player).isSome = false) (room : s.arb.waiting.length < 16) :
    CarriesLaws s (s.appendEntry a) := by
  unfold State.appendEntry
  refine CarriesLaws.trans ?_ (State.resolveThenWait_laws ..)
  refine CarriesLaws.trans (State.mapArb_laws (fun x => { x with waiting := x.waiting ++ [s.entryFor a] }) s ?_ id id)
    (State.setRecord_laws _ _ _ (fun _ => rfl) (fun _ => Nat.le_refl _))
  rintro ⟨four, once, records, distinct, entries, single, all⟩
  refine ⟨four, once, records, distinct, length_append_one _ room, ?_, fun e he => ?_⟩
  · simp only [State.mapArb_arb, List.map_append, List.map_cons, List.map_nil]
    refine List.nodup_append.mpr ⟨single, List.pairwise_singleton _ _, ?_⟩
    rintro p hp q hq rfl
    have same : p = a.player := List.mem_singleton.mp hq
    rw [same, ← State.entry_isSome, new] at hp
    cases hp
  · rcases List.mem_append.mp he with old | fresh
    · exact all e old
    · rw [List.mem_singleton.mp fresh]
      exact ⟨(State.record_isSome s a.player).mp known, seatless⟩

theorem findSeatOf_none (p : NodeId) (n : Nat) (l : List Seat) (h : findSeatOf p n l = none) :
    p ∉ l.filterMap Seat.holder? := by
  induction l generalizing n with
  | nil => simp
  | cons x l ih =>
    simp only [findSeatOf] at h
    cases claim : x.claim? with
    | none =>
      simp only [claim] at h
      simpa [List.filterMap_cons, Seat.holder?, claim] using ih _ h
    | some c =>
      simp only [claim] at h
      split at h
      · cases h
      · next other =>
        have later : p ∉ l.filterMap Seat.holder? := ih _ h
        have here : x.holder? = some c.player := by simp [Seat.holder?, claim]
        rw [List.filterMap_cons_some here, List.mem_cons, not_or]
        exact ⟨Ne.symm other, later⟩

theorem State.admitAsk_laws (a : AskFields) (s : State) (known : (s.record a.player).isSome = true) :
    CarriesLaws s (s.admitAsk a) := by
  unfold State.admitAsk
  split
  · exact State.answer_laws ..
  · next seatless =>
    split
    · exact (State.setEntry_laws a.player (fun _ => s.entryFor a) s fun _ _ => rfl).trans
        (State.resolveThenWait_laws ..)
    · next new =>
      split
      · exact State.answer_laws ..
      · rw [Bool.not_eq_true, Option.isSome_eq_false_iff, Option.isNone_iff_eq_none] at seatless
        exact State.appendEntry_laws a s known (findSeatOf_none _ _ _ seatless) (by simpa using new) (by omega)

theorem State.askStanding_laws (a : AskFields) (s : State) : CarriesLaws s (s.askStanding a) := by
  unfold State.askStanding
  split
  · exact .refl s
  · next r known =>
    repeat' split
    case isFalse.isFalse.isFalse => exact State.admitAsk_laws a s (by simp [known])
    all_goals exact State.answer_laws ..

theorem State.newClaim_laws (a : AskFields) (s : State) (started : s.port.nodeState ≠ .config) :
    CarriesLaws s (s.newClaim a) := by
  unfold State.newClaim
  repeat' split
  case isFalse.isFalse.isFalse.isFalse.isFalse =>
    exact (State.ensureRecord_laws _ s started).trans (State.askStanding_laws ..)
  all_goals exact State.answer_laws ..

theorem State.pastClaim_laws (a : AskFields) (s : State) (started : s.port.nodeState ≠ .config) :
    CarriesLaws s (s.pastClaim a) := by
  unfold State.pastClaim
  split
  · split
    · exact State.answer_laws ..
    · split
      · exact State.answer_laws ..
      · exact State.newClaim_laws a s started
  · split
    · exact State.answer_laws ..
    · exact State.newClaim_laws a s started

theorem State.checkAsk_laws (a : AskFields) (s : State) (started : s.port.nodeState ≠ .config) :
    CarriesLaws s (s.checkAsk a) := by
  unfold State.checkAsk
  split
  · exact State.knownSeat_laws ..
  · split
    · exact (State.setEntry_laws a.player (fun e => { e with refreshed := s.fieldMs }) s fun _ same => same).trans
        (State.answer_laws ..)
    · exact State.pastClaim_laws a s started

theorem askBody_laws (f : RxFrame) (s : State) : CarriesLaws s (askBody f s) := by
  unfold askBody
  split
  · exact .refl s
  · split
    · exact .refl s
    · split
      · next asks => exact State.checkAsk_laws _ s (by simp [asks.2])
      · exact State.countArbiterIgnore_laws s

theorem State.pastYield_laws (p : NodeId) (claim : Byte) (s : State) : CarriesLaws s (s.pastYield p claim) := by
  unfold State.pastYield
  split
  · split
    · exact State.answer_laws ..
    · exact State.countArbiterIgnore_laws s
  · exact State.countArbiterIgnore_laws s

theorem yieldBody_laws (f : RxFrame) (s : State) : CarriesLaws s (yieldBody f s) := by
  unfold yieldBody State.checkYield
  split
  · exact .refl s
  · split
    · exact .refl s
    · split
      · split
        · exact State.endSeatAndResolve_laws ..
        · split
          · exact State.endEntry_laws ..
          · exact State.pastYield_laws ..
      · exact State.countArbiterIgnore_laws s

/-! ## MARK, HALT, orders and PATTERN -/

theorem markBody_laws (f : RxFrame) (s : State) : CarriesLaws s (markBody f s) := by
  unfold markBody
  split
  · exact .refl s
  · split
    · exact State.countMarkIgnore_laws s
    · split
      · exact State.judgeMark_laws ..
      · exact State.countMarkIgnore_laws s

theorem haltBody_laws (f : RxFrame) (s : State) : CarriesLaws s (haltBody f s) :=
  (State.setLatch_laws s).trans (State.noteHalt_laws _)

theorem State.countOrderIgnore_laws (s : State) : CarriesLaws s s.countOrderIgnore :=
  State.mapPeers_laws _ s (fun h => h)

theorem State.adoptOrder_laws (id : NodeId) (seq : Byte) (s : State) : CarriesLaws s (s.adoptOrder id seq) :=
  State.mapReferees_laws _ s fun r => by split <;> rfl

/-- R55: an order is adopted before its handling; the handling is taken in the node state of the test. -/
theorem State.testOrder_laws (h : Header) (seq : Byte) (take : State → State) (s : State)
    (taken : ∀ u, u.port.nodeState = s.port.nodeState → CarriesLaws u (take u)) :
    CarriesLaws s (s.testOrder h seq take) := by
  have adopted := (State.adoptOrder_laws h.sender seq s).trans (taken _ rfl)
  unfold State.testOrder
  split
  · exact State.countOrderIgnore_laws s
  · split
    · exact State.countOrderIgnore_laws s
    · split
      · exact adopted
      · split
        · exact adopted
        · split
          · exact .refl s
          · exact State.countOrderIgnore_laws s

theorem State.eject_laws (p : NodeId) (s : State) : CarriesLaws s (s.eject p) := by
  have flagged : CarriesLaws s (s.setRecord p fun r => { r with ejected := true }) :=
    State.setRecord_laws _ _ s (fun _ => rfl) fun _ => Nat.le_refl _
  unfold State.eject
  dsimp only
  split
  · exact flagged.trans (State.endSeatAndResolve_laws ..)
  · split
    · exact flagged.trans (State.endEntry_laws ..)
    · exact flagged

theorem State.clearBench_laws (p : NodeId) (s : State) : CarriesLaws s (s.clearBench p) := by
  have cleared : CarriesLaws s (s.setRecord p fun r => { r with bench := 0 }) :=
    State.setRecord_laws _ _ s (fun _ => rfl) fun _ => Nat.le_refl _
  unfold State.clearBench
  dsimp only
  split
  · split
    · exact cleared.trans (State.resolve_laws _)
    · exact cleared
  · exact cleared

theorem State.applySanction_laws (p : NodeId) (kind : SanctionKind) (duration : Half) (s : State) :
    CarriesLaws s (s.applySanction p kind duration) := by
  cases kind with
  | bench =>
    exact State.setRecord_laws p (fun r => { r with bench := benchMs duration }) s (fun _ => rfl) fun _ => Nat.le_refl _
  | eject => exact State.eject_laws p s
  | clear => exact State.clearBench_laws p s

theorem State.sanctionSelf_laws (kind : SanctionKind) (duration : Half) (s : State) :
    CarriesLaws s (s.sanctionSelf kind duration) := by
  cases kind with
  | bench => exact State.mapReq_laws (fun u => { u with bench := benchMs duration }) s id
  | eject =>
    exact (State.mapReq_laws (fun u => { u with ejected := true }) s id).trans (State.endAllRequests_laws ..)
  | clear => exact State.mapReq_laws (fun u => { u with bench := 0 }) s id

theorem State.takeSanction_laws (referee : NodeId) (seq : Byte) (p : NodeId) (kind : SanctionKind) (duration : Half)
    (s : State) (started : s.port.nodeState ≠ .config) :
    CarriesLaws s (s.takeSanction referee seq p kind duration) := by
  unfold State.takeSanction
  split
  · unfold State.sanctionElement
    split
    · exact State.countOrderIgnore_laws s
    · split
      · exact State.countOrderIgnore_laws s
      · exact ((State.ensureRecord_laws p s started).trans (State.applySanction_laws ..)).trans (State.postNotice_laws ..)
  · unfold State.sanctionPlayer
    split
    · exact (State.sanctionSelf_laws ..).trans (State.postNotice_laws ..)
    · exact .refl s
  all_goals exact .refl s

theorem NodeState.started_of_sends {x : NodeState} (h : x.sends = true) : x ≠ .config := by
  rintro rfl
  cases h

theorem sanctionBody_laws (f : RxFrame) (s : State) : CarriesLaws s (sanctionBody f s) := by
  unfold sanctionBody
  split
  · exact .refl s
  · next used =>
    split
    · exact .refl s
    · refine State.testOrder_laws _ _ _ s fun u same => State.takeSanction_laws _ _ _ _ _ u ?_
      rw [same]
      exact NodeState.started_of_sends (by simpa [State.takesOrders] using (not_or.mp used).2)

theorem State.takeTurn_laws (referee : NodeId) (seq : Byte) (element p : NodeId) (s : State) :
    CarriesLaws s (s.takeTurn referee seq element p) := by
  unfold State.takeTurn
  split
  · exact .refl s
  · split
    · refine CarriesLaws.trans (CarriesLaws.trans ?_ (State.postNotice_laws ..)) (State.resolve_laws _)
      exact State.reorder_laws _ s (turnRing_perm ..)
    · exact State.countArbiterIgnore_laws s

theorem turnBody_laws (f : RxFrame) (s : State) : CarriesLaws s (turnBody f s) := by
  unfold turnBody
  split
  · exact .refl s
  · exact State.testOrder_laws _ _ _ s fun u _ => State.takeTurn_laws ..

theorem patternBody_laws (f : RxFrame) (s : State) : CarriesLaws s (patternBody f s) := by
  unfold patternBody
  split
  · exact .refl s
  · exact State.mapLink_laws ..

/-! ## PRESENCE and ANSWER -/

theorem State.checkSeat_laws (id : NodeId) (v : ViewEntry) (s : State) : CarriesLaws s (s.checkSeat id v) := by
  unfold State.checkSeat
  split
  · split
    · exact State.closeRequest_laws ..
    · exact .refl s
  · exact .refl s

/-- R71: an entry of the view written, for an element that the view holds or has room for. -/
theorem State.setView_laws (id : NodeId) (v : ViewEntry) (s : State)
    (h : (lookupId id s.req.view).isSome = true ∨ s.req.view.length < 32) :
    CarriesLaws s (s.mapReq fun u => { u with view := insertId id v u.view }) := by
  refine State.mapReq_laws _ s ?_
  rintro ⟨four, distinct, views, rising⟩
  refine ⟨four, distinct, ?_, insertId_rising _ _ _ rising⟩
  rcases h with known | room
  · exact insertId_length_known id v _ rising known ▸ views
  · exact Nat.le_trans (insertId_length id v _) room

theorem State.takeView_laws (id : NodeId) (seats : List ViewSeat) (waiting : Byte) (offers : List ViewOffer) (s : State) :
    CarriesLaws s (s.takeView id seats waiting offers) := by
  unfold State.takeView
  split
  · next old known => exact (State.setView_laws id _ s (.inl (by simp [known]))).trans (State.checkSeat_laws ..)
  · split
    · next room => exact (State.setView_laws id _ s (.inr room)).trans (State.checkSeat_laws ..)
    · exact State.mapReq_laws _ s (fun h => h)

theorem State.elementSeen_laws (f : RxFrame) (s : State) : CarriesLaws s (s.elementSeen f) := by
  unfold State.elementSeen
  split
  · exact .refl s
  · split
    · exact State.takeView_laws ..
    · split
      · exact State.updateView_laws ..
      · exact .refl s

theorem State.refereeSeen_laws (f : RxFrame) (s : State) : CarriesLaws s (s.refereeSeen f) := by
  unfold State.refereeSeen
  split
  · exact .refl s
  · exact State.mapReferees_laws _ s fun r => by split <;> rfl

theorem State.playerSeen_laws (f : RxFrame) (s : State) : CarriesLaws s (s.playerSeen f) := by
  unfold State.playerSeen
  split
  · exact .refl s
  · split
    · exact State.setSlot_laws ..
    · exact .refl s

theorem presenceBodyTaken_laws (f : RxFrame) (s : State) : CarriesLaws s (presenceBodyTaken f s) := by
  unfold presenceBodyTaken
  split
  · exact .refl s
  · split
    · exact State.elementSeen_laws f s
    · split
      · exact State.refereeSeen_laws f s
      · exact State.playerSeen_laws f s

theorem Request.settleUnlessRenewing_element (r : Request) : r.settleUnlessRenewing.element = r.element := by
  unfold Request.settleUnlessRenewing
  split <;> rfl

theorem State.countStray_laws (s : State) : CarriesLaws s s.countStray := State.mapReq_laws _ s (fun h => h)

theorem State.answerOpen_laws (r : Request) (a : AnswerBody) (s : State) : CarriesLaws s (s.answerOpen r a) := by
  cases a with
  | granted seat hold mark =>
    refine CarriesLaws.trans ?_ (State.postNotice_laws ..)
    exact State.setRequest_laws _ _ _ (by intro _; rfl)
  | waiting position count =>
    have waits : CarriesLaws s (s.setRequest r.element fun q => { q.noWait with
        state := .waiting, position := position, count := count, refreshDue := some (s.localMs + 500) }) :=
      State.setRequest_laws _ _ _ (by intro _; rfl)
    unfold State.answerOpen
    dsimp only
    split
    · exact waits.trans (State.postNotice_laws ..)
    · exact waits
  | refused reason => exact State.closeRequest_laws ..
  | ended reason => exact State.closeRequest_laws ..
  | renewed hold => exact State.countStray_laws s
  | renewDenied reason => exact State.countStray_laws s

theorem State.answerSeated_laws (r : Request) (a : AnswerBody) (s : State) : CarriesLaws s (s.answerSeated r a) := by
  cases a with
  | granted seat hold mark =>
    refine State.setRequest_laws _ _ _ fun q => ?_
    split
    · exact q.settleUnlessRenewing_element
    · exact q.settleUnlessRenewing_element
  | renewed hold =>
    refine CarriesLaws.trans ?_ (State.postNotice_laws ..)
    exact State.setRequest_laws _ _ _ (by intro _; rfl)
  | renewDenied reason =>
    refine CarriesLaws.trans ?_ (State.postNotice_laws ..)
    exact State.setRequest_laws _ _ _ (by intro _; rfl)
  | ended reason => exact State.closeRequest_laws ..
  | waiting position count => exact State.countStray_laws s
  | refused reason => exact State.countStray_laws s

theorem State.answerYielding_laws (r : Request) (a : AnswerBody) (s : State) : CarriesLaws s (s.answerYielding r a) := by
  cases a with
  | ended reason => exact State.closeRequest_laws ..
  | granted seat hold mark => exact .refl s
  | waiting position count => exact State.countStray_laws s
  | refused reason => exact State.countStray_laws s
  | renewed hold => exact State.countStray_laws s
  | renewDenied reason => exact State.countStray_laws s

theorem State.strayAnswer_laws (sender : NodeId) (b : Bool) (claim : Byte) (a : AnswerBody) (s : State) :
    CarriesLaws s (s.strayAnswer sender b claim a) := by
  unfold State.strayAnswer
  split
  · split
    · exact State.send_laws ..
    · exact State.countStray_laws s
  all_goals exact State.countStray_laws s

theorem State.takeAnswer_laws (sender : NodeId) (b : Bool) (claim : Byte) (a : AnswerBody) (s : State) :
    CarriesLaws s (s.takeAnswer sender b claim a) := by
  unfold State.takeAnswer
  split
  · exact State.strayAnswer_laws ..
  · split
    · exact State.strayAnswer_laws ..
    · split
      · exact State.answerOpen_laws ..
      · exact State.answerOpen_laws ..
      · exact State.answerSeated_laws ..
      · exact State.answerYielding_laws ..

theorem answerBodyTaken_laws (f : RxFrame) (s : State) : CarriesLaws s (answerBodyTaken f s) := by
  unfold answerBodyTaken
  split
  · exact .refl s
  · split
    · exact .refl s
    · split
      · split
        · exact State.takeAnswer_laws ..
        · exact .refl s
      · split
        · exact State.updateView_laws ..
        · exact .refl s

/-! ## Events

Each event acts under its condition and otherwise leaves the state. -/

theorem CarriesLaws.ite {s t : State} {p : Prop} [Decidable p] (h : p → CarriesLaws s t) :
    CarriesLaws s (if p then t else s) := by
  split
  · next holds => exact h holds
  · exact .refl s

theorem State.markBoundary_laws (s : State) :
    CarriesLaws s (if s.port.nodeState.isStarted then s.testPending else s) := .ite fun _ => s.testPending_laws

theorem execPeerSilent_laws (node : NodeId) (s t : State) (h : execPeerSilent node s = .next t) : CarriesLaws s t := by
  cases h
  split
  · exact .ite fun _ => (State.setSlot_laws ..).trans (State.reportSilent_laws ..)
  · exact .refl s

theorem execHaltDue_laws (s t : State) (h : execHaltDue s = .next t) : CarriesLaws s t := by
  cases h
  split
  · exact .ite fun _ => (State.mapPhase_laws ..).trans (State.placeHalt_laws _)
  · exact .refl s

theorem execMarkCopyDue_laws (s t : State) (h : execMarkCopyDue s = .next t) : CarriesLaws s t := by
  cases h
  split
  · exact .ite fun _ => (State.mapRef_laws ..).trans (State.send_laws ..)
  · exact .refl s

theorem execOrderCopyDue_laws (s t : State) (h : execOrderCopyDue s = .next t) : CarriesLaws s t := by
  cases h
  split
  · exact .ite fun _ => (State.mapRef_laws ..).trans (State.send_laws ..)
  · exact .refl s

theorem execListenEnd_laws (s t : State) (h : execListenEnd s = .next t) : CarriesLaws s t := by
  cases h
  exact .ite fun _ => ((State.mapPort_laws (fun p => { p with nodeState := .running }) s id rfl nofun).trans
    (State.startPresence_laws _)).trans (State.setFlag_laws ..)

theorem execPresenceDue_laws (s t : State) (h : execPresenceDue s = .next t) : CarriesLaws s t := by
  cases h
  split
  · exact .ite fun _ => State.presenceAt_laws ..
  · exact .refl s

theorem State.placePattern_laws (s : State) : CarriesLaws s s.placePattern :=
  (State.mapLink_laws ..).trans (State.send_laws ..)

theorem execPatternDue_laws (s t : State) (h : execPatternDue s = .next t) : CarriesLaws s t := by
  cases h
  split
  · refine .ite fun _ => ?_
    dsimp only
    split
    · exact State.mapLink_laws ..
    · exact (State.mapLink_laws ..).trans (State.placePattern_laws _)
  · exact .refl s

theorem execAnswerWaitMiss_laws (e : NodeId) (s t : State) (h : execAnswerWaitMiss e s = .next t) :
    CarriesLaws s t := by
  cases h
  split
  · split
    · exact .ite fun _ => State.miss_laws ..
    · exact .refl s
  · exact .refl s

theorem execRefreshDue_laws (e : NodeId) (s t : State) (h : execRefreshDue e s = .next t) : CarriesLaws s t := by
  cases h
  split
  · split
    · refine .ite fun _ => CarriesLaws.trans ?_ (State.sendOfRequest_laws ..)
      exact State.setRequest_laws _ _ _ (by intro _; rfl)
    · exact .refl s
  · exact .refl s

theorem execHoldCountdownExpiry_laws (e : NodeId) (s t : State) (h : execHoldCountdownExpiry e s = .next t) :
    CarriesLaws s t := by
  cases h
  split
  · refine .ite fun _ => ?_
    exact State.setRequest_laws _ _ _ (by intro _; rfl)
  · exact .refl s

theorem execMarginExpiry_laws (e : NodeId) (s t : State) (h : execMarginExpiry e s = .next t) : CarriesLaws s t := by
  cases h
  split
  · exact .ite fun _ => State.closeRequest_laws ..
  · exact .refl s

theorem execStopActive_laws (s t : State) (h : execStopActive s = .next t) : CarriesLaws s t := by
  cases h
  exact (State.mapPins_laws ..).trans (.ite fun _ => State.activateStop_laws _)

theorem execStopInactive_laws (s t : State) (h : execStopInactive s = .next t) : CarriesLaws s t := by
  cases h
  exact (State.mapPins_laws ..).trans (.ite fun _ => State.deactivateStop_laws _)

theorem execSilentHolderSenseLost_laws (n : Nat) (s t : State) (h : execSilentHolderSenseLost n s = .next t) :
    CarriesLaws s t := by
  cases h
  split
  · exact .ite fun _ => State.endSeatAndResolve_laws ..
  · exact .refl s

/-- A rise of CD changes the contention and raises its exponent at most. -/
theorem Channel.carrierRise_eq (n : Nat) (c : Channel) :
    ∃ k, c.carrierRise n = { c with contention := k } ∨ c.carrierRise n = { c with contention := k }.raiseExponent := by
  unfold Channel.carrierRise
  split
  · exact ⟨c.contention, .inl rfl⟩
  · split
    · exact ⟨_, .inr rfl⟩
    · exact ⟨_, .inl rfl⟩

theorem State.carrierRise_laws (n : Nat) (s : State) : CarriesLaws s (s.mapChan (Channel.carrierRise n)) := by
  obtain ⟨k, same | raised⟩ := s.chan.carrierRise_eq n
  · refine State.mapChan_laws_same _ s ?_ ?_ ?_ ?_ ?_ <;> rw [same]
  · refine State.mapChan_laws _ s ?_ ?_ ?_
    · simp only [QueueLaw, State.mapChan_chan, raised]
      exact id
    · rintro ⟨low, high, ne⟩
      simp only [BackoffLaw, State.mapChan_chan, raised, Channel.raiseExponent]
      exact ⟨by omega, by omega, ne⟩
    · rw [raised]
      exact id

theorem execCarrierDetectRise_laws (n : Nat) (s t : State) (h : execCarrierDetectRise n s = .next t) :
    CarriesLaws s t := by
  cases h
  split
  · exact .refl s
  · dsimp only
    split
    · exact State.mapPins_laws ..
    · exact (State.mapPins_laws ..).trans (State.carrierRise_laws ..)

theorem execCarrierDetectFall_laws (s t : State) (h : execCarrierDetectFall s = .next t) : CarriesLaws s t := by
  cases h
  refine .ite fun _ => ?_
  dsimp only
  split
  · exact State.mapPins_laws ..
  · refine CarriesLaws.trans (State.mapPins_laws (fun p => { p with cd := false }) s) ?_
    exact State.mapChan_laws_same _ _ rfl rfl rfl rfl rfl

theorem State.drawSlots_laws (s : State) : CarriesLaws s s.drawSlots.1 := by
  unfold State.drawSlots
  split
  · exact .refl s
  · exact State.draw_laws ..

theorem State.setContention_laws (k : Option Contention) (s : State) : CarriesLaws s (s.setContention k) :=
  State.mapChan_laws_same _ s rfl rfl rfl rfl rfl

theorem execIdleGapComplete_laws (s t : State) (h : execIdleGapComplete s = .next t) : CarriesLaws s t := by
  cases h
  split
  · split
    · exact .refl s
    · split
      · exact State.setContention_laws ..
      · exact (State.drawSlots_laws s).trans (State.setContention_laws ..)
  · exact .refl s

theorem State.composeBody_laws (b : TxBody) (s : State) : CarriesLaws s (s.composeBody b).1 := by
  unfold State.composeBody
  split
  case h_2 =>
    split
    · dsimp only
      exact State.mapLink_laws ..
    · exact .refl s
  all_goals exact .refl s

theorem State.beginTransmission_laws (f : QueuedFrame) (s : State) : CarriesLaws s (s.beginTransmission f) := by
  unfold State.beginTransmission
  dsimp only
  refine (State.composeBody_laws f.body s).trans (State.mapChan_laws _ _ ?_ (fun h => h) ?_)
  · rintro ⟨notices, rx, tx, presences⟩
    have fewer : (withoutHead (s.composeBody f.body).1.chan.txQueue).Sublist (s.composeBody f.body).1.chan.txQueue :=
      List.eraseP_sublist
    exact ⟨notices, rx, Nat.le_trans fewer.length_le tx, Nat.le_trans (fewer.filter _).length_le presences⟩
  · rintro ⟨rx, reception⟩
    refine ⟨rx, ?_⟩
    dsimp only
    split
    · exact reception
    · rfl

theorem execContentionComplete_laws (s t : State) (h : execContentionComplete s = .next t) : CarriesLaws s t := by
  cases h
  split
  · exact .ite fun _ => State.beginTransmission_laws ..
  · exact .refl s

theorem State.judgePower_laws (seen : Bool) (s : State) : CarriesLaws s (s.judgePower seen) := by
  unfold State.judgePower
  dsimp only
  split
  · exact State.mapLink_laws ..
  · split
    · exact ((State.mapLink_laws ..).trans (State.setFlag_laws ..)).trans (State.resolve_laws _)
    · exact (State.mapLink_laws ..).trans (State.setFlag_laws ..)

theorem State.openWait_laws (f : QueuedFrame) (s : State) : CarriesLaws s (s.openWait f) := by
  unfold State.openWait
  split
  · exact State.setRequest_laws _ _ _ (by intro _; rfl)
  · exact .refl s

theorem execTransmissionEnd_laws (seen : Bool) (s t : State) (h : execTransmissionEnd seen s = .next t) :
    CarriesLaws s t := by
  cases h
  split
  · next f _ =>
    have judged (u : State) : CarriesLaws u (if f.looped then u else u.judgePower seen) := by
      split
      · exact .refl u
      · exact State.judgePower_laws ..
    have ended : CarriesLaws s (s.mapChan fun c => { c with txFrame := none, exponent := 3 }) :=
      State.mapChan_laws _ s (fun h => h) (fun ⟨_, _, ne⟩ => ⟨Nat.le_refl _, Nat.le_of_ble_eq_true rfl, ne⟩) (fun h => h)
    exact (((ended.trans (State.mapLink_laws ..)).trans (judged _)).trans (State.openWait_laws ..)).trans
      (State.beginContention_laws _)
  · exact .refl s

/-- In a started node a reception may begin. -/
theorem State.setReception_laws (r : Option Reception) (s : State) (h : s.port.nodeState ≠ .config ∨ r = none) :
    CarriesLaws s (s.setReception r) := by
  refine ⟨⟨fun h => ⟨Nat.le_refl _, h⟩, id, id, id, id, id, id, id⟩, fun ⟨within, idle⟩ => ⟨within, fun config => ?_⟩⟩
  obtain ⟨ring, rx, -⟩ := idle config
  exact ⟨ring, rx, h.resolve_left (not_not_intro config)⟩

theorem NodeState.started_iff (x : NodeState) : x.isStarted = true ↔ x ≠ .config := by
  cases x <;> simp [NodeState.isStarted]

theorem execSyncWordFound_laws (s t : State) (h : execSyncWordFound s = .next t) : CarriesLaws s t := by
  cases h
  split
  · exact .refl s
  · next hunting =>
    have started : s.port.nodeState ≠ .config := by
      rw [Bool.or_eq_true, not_or, Bool.not_eq_true', Bool.not_eq_false, NodeState.started_iff] at hunting
      exact hunting.1
    split
    · split
      · exact .ite fun _ => (State.mapChan_laws_same _ s rfl rfl rfl rfl rfl).trans
          (State.setReception_laws _ _ (.inl started))
      · exact .refl s
    · split
      · exact .refl s
      · exact State.setReception_laws _ s (.inl started)

theorem State.linkHeard_laws (s : State) : CarriesLaws s s.linkHeard := by
  unfold State.linkHeard
  dsimp only
  split
  · exact ((State.mapLink_laws ..).trans (State.setFlag_laws ..)).trans (State.resolve_laws _)
  · exact State.mapLink_laws ..

/-- R164: a frame queued keeps every law, that of the budgets in a started node. -/
theorem State.enterRx_laws (f : RxFrame) (s : State) :
    CarriesTables s (s.enterRx f) ∧ (s.port.nodeState ≠ .config → BudgetLaw s → BudgetLaw (s.enterRx f)) := by
  unfold State.enterRx
  split
  · next room =>
    refine ⟨⟨fun h => ⟨Nat.le_refl _, h⟩, id, id, ?_, id, id, id, id⟩,
      fun started ⟨within, _⟩ => ⟨within, fun config => absurd config started⟩⟩
    rintro ⟨notices, -, tx⟩
    exact ⟨notices, length_append_one _ room, tx⟩
  · exact ⟨(State.mapLink_laws ..).toCarriesTables, fun _ => (State.mapLink_laws ..).budget⟩

theorem State.linkHeard_nodeState (s : State) : s.linkHeard.port.nodeState = s.port.nodeState := by
  have frame (u : State) := State.resolve_element u
  unfold State.linkHeard
  dsimp only
  split
  · obtain ⟨-, -, -, -, -, -, -, -, -, -, same, -, -⟩ := frame ((s.mapLink fun l =>
      { l with remaining := 2000, lost := false }).setFlag .linkBack)
    exact same
  · rfl

theorem State.takeGood_laws (f : RxFrame) (s : State) :
    CarriesTables s (s.takeGood f) ∧ (s.port.nodeState ≠ .config → BudgetLaw s → BudgetLaw (s.takeGood f)) := by
  have heard (u : State) : CarriesLaws u (if f.header.sender = s.ownId then u else u.linkHeard) ∧
      (if f.header.sender = s.ownId then u else u.linkHeard).port.nodeState = u.port.nodeState := by
    split
    · exact ⟨.refl u, rfl⟩
    · exact ⟨u.linkHeard_laws, u.linkHeard_nodeState⟩
  obtain ⟨before, node⟩ := heard (s.mapLink fun l => { l with window := { l.window with good := inc16 l.window.good } })
  have counted := (State.mapLink_laws (fun l => { l with window := { l.window with good := inc16 l.window.good } }) s).trans
    before
  obtain ⟨tables, budget⟩ := State.enterRx_laws f _
  exact ⟨counted.toCarriesTables.trans tables, fun started law => budget (node ▸ started) (counted.budget law)⟩

/-- R163: a reception, which a state of the budget law has in a started node alone. -/
theorem State.receive_laws (bs : List Byte) (stamp : Quad) (r : Reception) (s : State) (h : s.chan.reception = some r) :
    CarriesLaws s (s.receive bs stamp) := by
  have ended : CarriesLaws s (s.setReception none) := State.setReception_laws none s (.inr rfl)
  have counted (f : Link → Link) : CarriesLaws s ((s.setReception none).mapLink f) := ended.trans (State.mapLink_laws ..)
  unfold State.receive
  dsimp only
  split
  · exact .refl s
  · split
    · exact counted _
    · split
      · exact .refl s
      · split
        · exact counted _
        · split
          · exact counted _
          · refine ⟨ended.toCarriesTables.trans (State.takeGood_laws _ _).1, fun law =>
              (State.takeGood_laws _ _).2 (fun config => ?_) (ended.budget law)⟩
            have none := (law.2 config).2.2
            rw [h] at none
            cases none

theorem execFrameReceived_laws (bytes : List Byte) (s t : State) (h : execFrameReceived bytes s = .next t) :
    CarriesLaws s t := by
  cases h
  split
  · next r reception => exact State.receive_laws _ _ r s reception
  · exact .refl s

/-! ## Expiries of the seats, the list and the benches -/

theorem execGuardExpiry_laws (n : Nat) (s t : State) (h : execGuardExpiry n s = .next t) : CarriesLaws s t := by
  cases h
  split
  · next seat => exact .ite fun _ => State.setSeat_laws_same n _ _ s seat rfl
  all_goals exact .refl s

theorem execHoldExpiry_laws (n : Nat) (s t : State) (h : execHoldExpiry n s = .next t) : CarriesLaws s t := by
  cases h
  split
  · exact .ite fun _ => State.endSeatAndResolve_laws ..
  all_goals exact .refl s

theorem execPulseCountdownExpiry_laws (n : Nat) (s t : State) (h : execPulseCountdownExpiry n s = .next t) :
    CarriesLaws s t := by
  cases h
  split
  · next seat =>
    refine .ite fun _ => ?_
    split
    · exact State.endSeatAndResolve_laws ..
    · unfold State.pulseDue
      split
      · exact (State.charge_laws ..).trans (State.setSeat_laws_same n _ _ _ seat rfl)
      · exact State.endSeatAndResolve_laws ..
  all_goals exact .refl s

theorem execPulseEnd_laws (n : Nat) (s t : State) (h : execPulseEnd n s = .next t) : CarriesLaws s t := by
  cases h
  split
  · next seat => exact .ite fun _ => State.setSeat_laws_same n _ _ s seat rfl
  all_goals exact .refl s

theorem execSenseReleaseExpiry_laws (n : Nat) (s t : State) (h : execSenseReleaseExpiry n s = .next t) :
    CarriesLaws s t := by
  cases h
  split
  · exact .ite fun _ => State.endSeatAndResolve_laws ..
  all_goals exact .refl s

theorem execClearingExpiry_laws (n : Nat) (s t : State) (h : execClearingExpiry n s = .next t) : CarriesLaws s t := by
  cases h
  split
  · exact .ite fun _ => (State.setSeat_laws_vacant n .free s rfl).trans (State.resolve_laws _)
  all_goals exact .refl s

theorem execEntryStale_laws (p : NodeId) (s t : State) (h : execEntryStale p s = .next t) : CarriesLaws s t := by
  cases h
  split
  · exact .ite fun _ => State.endEntry_laws ..
  · exact .refl s

theorem execBenchExpiry_laws (p : NodeId) (s t : State) (h : execBenchExpiry p s = .next t) : CarriesLaws s t := by
  cases h
  split
  · refine .ite fun _ => CarriesLaws.trans ?_ (State.resolve_laws _)
    exact State.setRecord_laws p (fun q => { q with benchEnding := false }) s (fun _ => rfl) fun _ => Nat.le_refl _
  · exact .refl s

theorem execHoldoverExpiry_laws (s t : State) (h : execHoldoverExpiry s = .next t) : CarriesLaws s t := by
  cases h
  exact .ite fun _ => State.setAlign_laws _ _ _ s fun _ => rfl

theorem execLinkLost_laws (s t : State) (h : execLinkLost s = .next t) : CarriesLaws s t := by
  cases h
  exact .ite fun _ => (State.mapLink_laws ..).trans (State.setFlag_laws ..)

theorem execWindowEnd_laws (s t : State) (h : execWindowEnd s = .next t) : CarriesLaws s t := by
  cases h
  exact .ite fun _ => (State.mapLink_laws ..).trans (State.setFlag_laws ..)

theorem State.writeMask_laws (place : PairByte) (value : Byte) (s : State) : CarriesLaws s (s.writeMask place value) :=
  State.mapPort_laws _ s id rfl id

theorem State.clearFlags_laws (place : PairByte) (value : Byte) (s : State) : CarriesLaws s (s.clearFlags place value) :=
  State.mapPort_laws _ s id rfl id

theorem State.portWrite_laws (offset : BitVec 7) (value : Byte) (s : State) : CarriesLaws s (s.portWrite offset value) := by
  unfold State.portWrite State.writeCommand
  dsimp only
  repeat' split
  case isTrue.isTrue => exact State.setFlag_laws ..
  case isTrue.isFalse.isTrue => exact State.mapPort_laws _ s id rfl id
  case isTrue.isFalse.isFalse => exact State.mapPort_laws _ s id rfl id
  case isFalse.isTrue => exact State.clearFlags_laws ..
  case isFalse.isFalse.isTrue => exact State.clearFlags_laws ..
  case isFalse.isFalse.isFalse.isTrue => exact State.writeMask_laws ..
  case isFalse.isFalse.isFalse.isFalse.isTrue => exact State.writeMask_laws ..
  case isFalse.isFalse.isFalse.isFalse.isFalse => exact .refl s

theorem execUnknownCommand_laws (code : Byte) (s t : State) (h : execUnknownCommand code s = .next t) :
    ResetOrLaws s t := by
  cases h
  split
  · rcases (s.handOver code []).takeHanded_laws with resets | laws
    · exact .inl resets
    · exact .inr ((State.handOver_laws code [] s).trans laws)
  · exact s.overrun_laws

theorem execReset_laws (s t : State) (h : execReset s = .next t) : ResetOrLaws s t := by
  cases h
  split
  · exact .inl rfl
  · exact s.overrun_laws

/-! ## Every command -/

theorem next_injective {s t : State} {P : State → Prop} (h : Host.Outcome.next (φ := Fault) (ρ := Refusal) s = .next t)
    (hp : P s) : P t := by
  cases h
  exact hp

/-- Every command carries the laws of the state, or is a reset. -/
theorem exec_laws (c : Instr) (s t : State) (h : exec c s = .next t) : ResetOrLaws s t := by
  cases c
  case setNode => exact next_injective h (State.command_laws _ _ _ s fun u => State.storeConfig_laws ..)
  case setTiming => exact next_injective h (State.command_laws _ _ _ s fun u => State.storeConfig_laws ..)
  case setElement => exact next_injective h (State.command_laws _ _ _ s fun u => State.storeConfig_laws ..)
  case setOffer => exact next_injective h (State.command_laws _ _ _ s fun u => setOfferAct_laws ..)
  case setPartner => exact next_injective h (State.command_laws _ _ _ s fun u => State.storeConfig_laws ..)
  case setReferee => exact next_injective h (State.command_laws _ _ _ s fun u => State.storeConfig_laws ..)
  case start => exact next_injective h (State.command_laws _ _ _ s startAct_laws)
  case reset => exact execReset_laws s t h
  case ask => exact next_injective h (State.command_laws _ _ _ s fun u => askAct_laws ..)
  case yield => exact next_injective h (State.command_laws _ _ _ s fun u => yieldAct_laws ..)
  case renew => exact next_injective h (State.command_laws _ _ _ s fun u => renewAct_laws ..)
  case sendMark => exact next_injective h (State.command_laws _ _ _ s fun u => sendMarkAct_laws ..)
  case sendSanction => exact next_injective h (State.command_laws _ _ _ s fun u => sendSanctionAct_laws ..)
  case sendTurn => exact next_injective h (State.command_laws _ _ _ s fun u => sendTurnAct_laws ..)
  case haltOn => exact next_injective h (State.command_laws _ _ _ s haltOnAct_laws)
  case haltOff => exact next_injective h (State.command_laws _ _ _ s haltOffAct_laws)
  case trimMode => exact next_injective h (State.command_laws _ _ _ s fun u => trimModeAct_laws ..)
  case trimSet => exact next_injective h (State.command_laws _ _ _ s fun u => trimSetAct_laws ..)
  case testBegin => exact next_injective h (State.command_laws _ _ _ s fun u => testBeginAct_laws ..)
  case testEnd => exact next_injective h (State.command_laws _ _ _ s testEndAct_laws)
  case insertError => exact next_injective h (State.command_laws _ _ _ s insertErrorAct_laws)
  case readSeats =>
    exact next_injective h (State.command_laws _ _ _ s fun u => Completion.laws_of_same (u.elementRead_state ..))
  case readWaiting =>
    exact next_injective h (State.command_laws _ _ _ s fun u => Completion.laws_of_same (u.elementRead_state ..))
  case readRing =>
    exact next_injective h (State.command_laws _ _ _ s fun u => Completion.laws_of_same (u.elementRead_state ..))
  case readRequests =>
    exact next_injective h (State.command_laws _ _ _ s fun _ => Completion.laws_of_same (readRequestsAct_state ..))
  case readView =>
    exact next_injective h (State.command_laws _ _ _ s fun _ => Completion.laws_of_same (readViewAct_state ..))
  case readPeer =>
    exact next_injective h (State.command_laws _ _ _ s fun _ => Completion.laws_of_same (readPeerAct_state ..))
  case readTime => exact next_injective h (State.command_laws _ _ _ s CarriesLaws.refl)
  case readLink => exact next_injective h (State.command_laws _ _ _ s fun u => readLinkAct_laws ..)
  case readNotices => exact next_injective h (State.command_laws _ _ _ s readNoticesAct_laws)
  case readConfig => exact next_injective h (State.command_laws _ _ _ s CarriesLaws.refl)
  case unknownCommand code => exact execUnknownCommand_laws code s t h
  case pinReset => exact next_injective h (.inl rfl)
  all_goals refine .inr ?_
  case eventFlagsWrite => exact next_injective h (State.clearFlags_laws ..)
  case eventMaskWrite => exact next_injective h (State.writeMask_laws ..)
  case portWrite => exact next_injective h (State.portWrite_laws ..)
  case stopActive => exact execStopActive_laws s t h
  case stopInactive => exact execStopInactive_laws s t h
  case silentHolderSenseLost n => exact execSilentHolderSenseLost_laws n s t h
  case carrierDetectRise n => exact execCarrierDetectRise_laws n s t h
  case carrierDetectFall => exact execCarrierDetectFall_laws s t h
  case ftAdvance => exact next_injective h (State.localTick_laws ..)
  case guardExpiry n => exact execGuardExpiry_laws n s t h
  case holdExpiry n => exact execHoldExpiry_laws n s t h
  case pulseCountdownExpiry n => exact execPulseCountdownExpiry_laws n s t h
  case pulseEnd n => exact execPulseEnd_laws n s t h
  case senseReleaseExpiry n => exact execSenseReleaseExpiry_laws n s t h
  case clearingExpiry n => exact execClearingExpiry_laws n s t h
  case entryStale p => exact execEntryStale_laws p s t h
  case benchExpiry p => exact execBenchExpiry_laws p s t h
  case playerBenchExpiry => exact next_injective h (State.mapReq_laws (fun u => { u with benchEnding := false }) s id)
  case holdoverExpiry => exact execHoldoverExpiry_laws s t h
  case markBoundaryReached => exact next_injective h s.markBoundary_laws
  case haltDue => exact execHaltDue_laws s t h
  case markCopyDue => exact execMarkCopyDue_laws s t h
  case orderCopyDue => exact execOrderCopyDue_laws s t h
  case answerWaitMiss e => exact execAnswerWaitMiss_laws e s t h
  case refreshDue e => exact execRefreshDue_laws e s t h
  case holdCountdownExpiry e => exact execHoldCountdownExpiry_laws e s t h
  case marginExpiry e => exact execMarginExpiry_laws e s t h
  case peerSilent node => exact execPeerSilent_laws node s t h
  case linkLost => exact execLinkLost_laws s t h
  case windowEnd => exact execWindowEnd_laws s t h
  case listenEnd => exact execListenEnd_laws s t h
  case presenceDue => exact execPresenceDue_laws s t h
  case patternDue => exact execPatternDue_laws s t h
  case idleGapComplete => exact execIdleGapComplete_laws s t h
  case contentionComplete => exact execContentionComplete_laws s t h
  case transmissionEnd seen => exact execTransmissionEnd_laws seen s t h
  case frameReceived bytes => exact execFrameReceived_laws bytes s t h
  case syncWordFound => exact execSyncWordFound_laws s t h
  case presenceFrame => exact next_injective h (State.dispatch_laws _ _ _ s (fun _ u => .refl u) presenceBodyTaken_laws)
  case askFrame => exact next_injective h (State.dispatch_laws _ _ _ s (fun _ u => .refl u) askBody_laws)
  case yieldFrame => exact next_injective h (State.dispatch_laws _ _ _ s (fun _ u => .refl u) yieldBody_laws)
  case answerFrame => exact next_injective h (State.dispatch_laws _ _ _ s (fun _ u => .refl u) answerBodyTaken_laws)
  case markFrame => exact next_injective h (State.dispatch_laws _ _ _ s (fun _ u => .refl u) markBody_laws)
  case sanctionFrame => exact next_injective h (State.dispatch_laws _ _ _ s (fun _ u => .refl u) sanctionBody_laws)
  case turnFrame => exact next_injective h (State.dispatch_laws _ _ _ s (fun _ u => .refl u) turnBody_laws)
  case haltFrame => exact next_injective h (State.dispatch_laws _ _ _ s (fun _ u => .refl u) haltBody_laws)
  case patternFrame => exact next_injective h (State.dispatch_laws _ _ _ s patternBody_laws patternBody_laws)

/-! ## The laws after a reset and after a step -/

theorem timeLaw_reset : TimeLaw State.reset := by unfold TimeLaw; decide

theorem queueLaw_reset : QueueLaw State.reset := by unfold QueueLaw; decide

theorem backoffLaw_reset : BackoffLaw State.reset := by unfold BackoffLaw; decide

theorem requestLaw_reset : RequestLaw State.reset := by unfold RequestLaw; decide

theorem peerLaw_reset : PeerLaw State.reset := by unfold PeerLaw; decide

theorem elementLaw_reset : ElementLaw State.reset := by unfold ElementLaw; decide

theorem budgetLaw_reset : BudgetLaw State.reset := by unfold BudgetLaw; decide

/-- A step is a command on the queue's rest, or idles. -/
theorem step_laws (s t : State) (h : step s = .next t) : t = (s.withPending t.pending).afterReset ∨ CarriesLaws s t := by
  unfold step at h
  split at h
  · cases h
    exact .inr (.refl s)
  · rcases exec_laws _ _ t h with resets | laws
    · exact .inl (by rw [resets]; rfl)
    · exact .inr ((State.withPending_laws ..).trans laws)

/-- Settles O57: the ranges of field time and the levels of the align states are among the laws that every command carries,
and hold at reset. -/
theorem stepKeepsFieldTimeLaws : Obligations.StepKeepsFieldTimeLaws := by
  rintro s t h ⟨time, level⟩
  rcases step_laws s t h with resets | laws
  · rw [resets]
    exact ⟨timeLaw_reset, rfl⟩
  · exact ⟨laws.time time, laws.level level⟩

/-- Settles O58: field time is moved by a local ms and a forward correction alone, and both raise it. -/
theorem fieldTimeNeverDecreases : Obligations.FieldTimeNeverDecreases := by
  intro c s t h bound
  rcases exec_laws c s t h with resets | laws
  · exact .inr resets
  · exact .inl (laws.ft bound).1

/-- Settles O59: the laws of the queues, the contention, the request unit and the peer table are carried by every command,
and hold at reset. -/
theorem stepKeepsQueueAndTableLaws : Obligations.StepKeepsQueueAndTableLaws := by
  refine ⟨fun s t h ⟨queue, backoff⟩ => ?_, fun s t h ⟨request, peer⟩ => ?_⟩
  · rcases step_laws s t h with resets | laws
    · rw [resets]
      exact ⟨queueLaw_reset, backoffLaw_reset⟩
    · exact ⟨laws.queue queue, laws.backoff backoff⟩
  · rcases step_laws s t h with resets | laws
    · rw [resets]
      exact ⟨requestLaw_reset, peerLaw_reset⟩
    · exact ⟨laws.request request, laws.peer peer⟩

/-- Settles O60: the laws of seats, waiting list, ring and budgets are carried by every command, and hold at reset. -/
theorem stepKeepsElementLaws : Obligations.StepKeepsElementLaws := by
  rintro s t h ⟨element, budget⟩
  rcases step_laws s t h with resets | laws
  · rw [resets]
    exact ⟨elementLaw_reset, budgetLaw_reset⟩
  · exact ⟨laws.element element, laws.budget budget⟩

end Sys2Proof.Machine
end

section
/-! The step, reset and the configuration commands (R184 to R186, R189): how a command of the port is shown refused, stored,
read or taken, and the table of START as the first failing check of a list. -/

namespace Sys2Proof.Machine

/-! ## Commands of the port with the token 0 (R182) -/

section
variable {s : State} {c : Instr} {code : Byte} {args : List Byte} {act : State → Completion}

/-- The row of a command with the token 0 acts on the command handed over. -/
theorem exec_handed (run : exec c s = .next (s.command code args act)) (token : s.port.token = 0) :
    exec c s = .next (act (s.handOver code args)).finish := by
  rw [run, State.command_handed code args act s token]

theorem isRefused_of (run : exec c s = .next (s.command code args act)) (token : s.port.token = 0) {r : ResultCode}
    (h : act (s.handOver code args) = refuse r (s.handOver code args)) : IsRefused s c r := by
  refine ⟨_, exec_handed run token, ?_⟩
  rw [h]
  exact refuse_finish ..

theorem stores_of (run : exec c s = .next (s.command code args act)) (token : s.port.token = 0) {cfg : StoredConfig}
    (h : act (s.handOver code args) = done ((s.handOver code args).mapPort fun p => { p with cfg := cfg }) []) :
    Stores s c cfg := by
  refine ⟨_, exec_handed run token, ?_⟩
  rw [h]
  refine ⟨done_shows .., ?_, rfl, rfl, rfl, rfl, rfl, rfl, rfl⟩
  simp [SameOutsidePort, Completion.finish, State.handOver]

/-- A completed command shows its reply and leaves the acted state but for its completion. -/
theorem done_leaves (w : State) (reply : List Byte) :
    Shows (done w reply).finish .done reply ∧ SameOutsidePort w (done w reply).finish ∧
      SamePort w (done w reply).finish ∧ OnlyDone w (done w reply).finish := by
  refine ⟨done_shows .., ?_, ⟨rfl, rfl, rfl, rfl, rfl, rfl⟩, rfl⟩
  simp [SameOutsidePort, Completion.finish]

theorem leaves_of (run : exec c s = .next (s.command code args act)) (token : s.port.token = 0) {w : State}
    {reply : List Byte} (h : act (s.handOver code args) = done w reply) : Leaves s c w reply := by
  refine ⟨_, exec_handed run token, ?_⟩
  rw [h]
  exact done_leaves ..

theorem onlyReads_of (run : exec c s = .next (s.command code args act)) (token : s.port.token = 0) {reply : List Byte}
    (h : act (s.handOver code args) = done (s.handOver code args) reply) : OnlyReads s c reply := by
  refine ⟨_, exec_handed run token, ?_⟩
  rw [h]
  exact done_finish reply code args s _ rfl

end

@[simp] theorem State.handOver_cfg (code : Byte) (args : List Byte) (s : State) :
    (s.handOver code args).port.cfg = s.port.cfg := rfl

@[simp] theorem State.handOver_nodeState (code : Byte) (args : List Byte) (s : State) :
    (s.handOver code args).port.nodeState = s.port.nodeState := rfl

/-! ## The step and reset -/

/-- Settles O1, by the cases of the queue. -/
theorem stepTakesTheFrontCommand : Obligations.StepTakesTheFrontCommand := by
  refine ⟨fun c rest s => rfl, fun s empty => ?_⟩
  simp only [step, empty]

theorem resetCommandsReturnEveryBlock : ResetCommandsReturnEveryBlock := by
  intro s
  refine ⟨⟨_, rfl, rfl⟩, fun token => ⟨s.afterReset, ?_, rfl⟩⟩
  have run : exec .reset s = execReset s := rfl
  rw [run, execReset, if_pos (Or.inl token)]

theorem resetLeavesTheSpecsValues : ResetLeavesTheSpecsValues := by
  have ready : ∀ f : EventFlag, State.reset.hasFlag f = decide (f = .ready) := by
    intro f
    cases f <;> decide
  unfold ResetLeavesTheSpecsValues
  exact ⟨rfl, rfl, rfl, rfl, rfl, rfl, ready, rfl, by decide, by decide⟩

/-- Settles O2: the reset commands are `State.afterReset`, and the laws are checked of the reset state. -/
theorem resetReturnsEveryBlock : Obligations.ResetReturnsEveryBlock :=
  ⟨resetCommandsReturnEveryBlock, resetLeavesTheSpecsValues, timeLaw_reset, rfl, queueLaw_reset, backoffLaw_reset,
    requestLaw_reset, elementLaw_reset, budgetLaw_reset, peerLaw_reset⟩

/-! ## The first check that fails -/

/-- What the first failing check of a list reports. -/
def firstOf {α : Type} (checks : List (Bool × α)) : Option α := (checks.find? fun x => x.1).map fun x => x.2

@[simp] theorem firstOf_nil {α : Type} : firstOf ([] : List (Bool × α)) = none := rfl

@[simp] theorem firstOf_cons {α : Type} (b : Bool) (a : α) (rest : List (Bool × α)) :
    firstOf ((b, a) :: rest) = if b then some a else firstOf rest := by
  cases b <;> rfl

theorem firstOf_append {α : Type} (l r : List (Bool × α)) : firstOf (l ++ r) = (firstOf l).or (firstOf r) := by
  simp only [firstOf, List.find?_append, Option.map_or]

/-- A check that fails is reported whatever follows the list. -/
theorem check_or {α : Type} (p : Prop) [Decidable p] (a : α) (rest later : Option α) :
    (if p then some a else rest).or later = if p then some a else rest.or later := by
  split <;> rfl

theorem firstOf_none {α : Type} (checks : List (Bool × α)) : firstOf checks = none ↔ ∀ x ∈ checks, x.1 = false := by
  simp [firstOf]

/-! ## The codes that the table of START accepts (R191) -/

theorem roleOfCode_none (c : Byte) : roleOfCode c.toNat = none ↔ 2 < c.toNat := by revert c; decide

theorem offerKindOfCode_none (c : Byte) : offerKindOfCode c.toNat = none ↔ 2 < c.toNat := by revert c; decide

theorem restrictionOfCode_none (c : Byte) : restrictionOfCode c.toNat = none ↔ 2 < c.toNat := by revert c; decide

theorem ringModeOfCode_none (c : Byte) : ringModeOfCode c.toNat = none ↔ 3 < c.toNat := by revert c; decide

theorem partnerRuleOfCode_none (c : Byte) : partnerRuleOfCode c.toNat = none ↔ c ≠ 1 ∧ c ≠ 2 := by revert c; decide

theorem byte_toNat_eq_two (c : Byte) : c.toNat = 2 ↔ c = 2 := by revert c; decide

/-! ## The checks of START (R185) -/

theorem OfferSlot.fault_eq (o : OfferSlot) : o.fault = firstOf (offerChecks o) := by
  simp only [OfferSlot.fault, OfferSlot.offerKind, offerChecks, firstOf_cons, firstOf_nil, decide_eq_true_eq,
    offerKindOfCode_none, restrictionOfCode_none, offerKindOfCode_metered]

/-- The checks of an offer slot, left out of the table from the offer count on. -/
def slotChecks (c : StoredConfig) (i : Nat) : List (Bool × Byte × Byte) :=
  (offerChecks (c.offer i)).map fun x => (decide (i < c.offerCount.toNat) && x.1, BitVec.ofNat 8 (12 + i), x.2)

theorem firstOf_slotChecks (c : StoredConfig) (i : Nat) :
    firstOf (slotChecks c i) =
      if i < c.offerCount.toNat then (c.offer i).fault.map fun field => (BitVec.ofNat 8 (12 + i), field) else none := by
  by_cases used : i < c.offerCount.toNat
  · rw [if_pos used, OfferSlot.fault_eq]
    simp only [firstOf, slotChecks, used, decide_true, Bool.true_and, List.find?_map, Option.map_map]
    rfl
  · rw [if_neg used, firstOf_none]
    simp [slotChecks, used]

theorem StoredConfig.offerFault_eq (c : StoredConfig) (slots : List Nat) :
    c.offerFault slots = firstOf (slots.flatMap (slotChecks c)) := by
  induction slots with
  | nil => rfl
  | cons i rest ih =>
    rw [List.flatMap_cons, firstOf_append, firstOf_slotChecks, StoredConfig.offerFault, ← ih]
    split
    · cases (c.offer i).fault <;> rfl
    · rfl

theorem StoredConfig.badPartner_eq (c : StoredConfig) (e : PartnerEntry) :
    c.badPartner e = decide (63 < e.id.toNat ∨ e.id = c.nodeId ∨ (e.rule ≠ 1 ∧ e.rule ≠ 2)) := by
  simp only [StoredConfig.badPartner, partnerRuleOfCode_none]

/-- The items of an ELEMENT, in the parts before, of and after the offer slots. -/
theorem StoredConfig.elementFault_eq (c : StoredConfig) :
    c.elementFault = firstOf (
      [(decide (c.seatCount.toNat < 1 ∨ 4 < c.seatCount.toNat), 8, 0),
        (decide (c.offerCount.toNat < 1 ∨ 4 < c.offerCount.toNat), 9, 0), (decide (3 < c.ringMode.toNat), 10, 0),
        (decide (2000 < c.clearing.toNat), 11, 0)]
      ++ ((List.range 4).flatMap (slotChecks c))
      ++ [(decide (2 < c.partnerCount.toNat), 16, 0),
        ((partnersWithin c).any fun e => decide (63 < e.id.toNat ∨ e.id = c.nodeId ∨ (e.rule ≠ 1 ∧ e.rule ≠ 2)), 17, 0),
        (decide (c.partnerCount = 2 ∧ c.partner0.id = c.partner1.id), 18, 0)]) := by
  have partners : c.partners.any c.badPartner =
      (partnersWithin c).any fun e => decide (63 < e.id.toNat ∨ e.id = c.nodeId ∨ (e.rule ≠ 1 ∧ e.rule ≠ 2)) :=
    congrArg _ (funext c.badPartner_eq)
  have slots : c.offerFault [0, 1, 2, 3] = firstOf ((List.range 4).flatMap (slotChecks c)) := c.offerFault_eq _
  rw [StoredConfig.elementFault, partners, slots]
  simp only [firstOf_append, firstOf_cons, firstOf_nil, decide_eq_true_eq, ringModeOfCode_none, byte_toNat_eq_two,
    check_or, Option.none_or]
  cases firstOf ((List.range 4).flatMap (slotChecks c)) <;> rfl

theorem startReportsTheFirstFault : StartReportsTheFirstFault := by
  intro c
  have items : firstFault c = firstOf (configChecks c) := rfl
  have alliance : (if c.role = 0 then decide (c.alliance ≠ 1 ∧ c.alliance ≠ 2) else decide (c.alliance ≠ 0)) =
      decide ((c.role = 0 ∧ c.alliance ≠ 1 ∧ c.alliance ≠ 2) ∨ (c.role ≠ 0 ∧ c.alliance ≠ 0)) := by
    by_cases player : c.role = 0
    · rw [if_pos player]
      exact decide_eq_decide.mpr (by grind)
    · rw [if_neg player]
      exact decide_eq_decide.mpr (by grind)
  rw [items, configChecks, alliance, firstOf_append, StoredConfig.fault]
  simp only [firstOf_cons, firstOf_nil, decide_eq_true_eq, roleOfCode_none, roleOfCode_element]
  by_cases element : c.role = 1
  · rw [if_pos element, if_pos element, StoredConfig.elementFault_eq]
    repeat' split
    all_goals rfl
  · rw [if_neg element, if_neg element]
    repeat' split
    all_goals rfl

/-- An offer slot passes its checks exactly when its values are accepted. -/
theorem offerChecks_pass (o : OfferSlot) : (∀ x ∈ offerChecks o, x.1 = false) ↔ OfferAccepted o := by
  simp only [offerChecks, OfferAccepted, List.forall_mem_cons, decide_eq_false_iff_not, List.not_mem_nil, false_implies,
    implies_true, and_true]
  constructor
  · rintro ⟨kind, hold, cost, phases, restriction, pulse⟩
    refine ⟨by omega, by omega, by omega, by omega, by omega, phases, by omega, fun metered => ?_⟩
    have := not_and.mp pulse metered
    omega
  · rintro ⟨kind, low, high, tenth, cost, phases, restriction, pulse⟩
    refine ⟨by omega, by omega, by omega, phases, by omega, fun ⟨metered, h⟩ => ?_⟩
    have := pulse metered
    omega

theorem slotChecks_pass (c : StoredConfig) (few : c.offerCount.toNat ≤ 4) :
    (∀ x ∈ (List.range 4).flatMap (slotChecks c), x.1 = false) ↔
      ∀ i, i < c.offerCount.toNat → OfferAccepted (c.offer i) := by
  simp only [← offerChecks_pass, List.mem_flatMap, List.mem_range, slotChecks, List.mem_map]
  constructor
  · intro pass i used x hx
    have := pass _ ⟨i, by omega, x, hx, rfl⟩
    simpa [used] using this
  · rintro pass _ ⟨i, _, x, hx, rfl⟩
    by_cases used : i < c.offerCount.toNat
    · simpa [used] using pass i used x hx
    · simp [used]

theorem partners_pass (c : StoredConfig) :
    ((partnersWithin c).any fun e => decide (63 < e.id.toNat ∨ e.id = c.nodeId ∨ (e.rule ≠ 1 ∧ e.rule ≠ 2))) = false ↔
      ∀ e ∈ partnersWithin c, e.id.toNat ≤ 63 ∧ e.id ≠ c.nodeId ∧ (e.rule = 1 ∨ e.rule = 2) := by
  rw [List.any_eq_false]
  refine forall₂_congr fun e _ => ?_
  rw [decide_eq_true_eq, not_or, not_or, Classical.not_and_iff_not_or_not, Classical.not_not, Classical.not_not, Nat.not_lt]

theorem startFindsNoFault : StartFindsNoFault := by
  intro c
  have items : firstFault c = none ↔ ∀ x ∈ configChecks c, x.1 = false := firstOf_none _
  have alliance : (if c.role = 0 then decide (c.alliance ≠ 1 ∧ c.alliance ≠ 2) else decide (c.alliance ≠ 0)) = false ↔
      if c.role = 0 then c.alliance = 1 ∨ c.alliance = 2 else c.alliance = 0 := by
    by_cases player : c.role = 0
    · rw [if_pos player, if_pos player, decide_eq_false_iff_not,
        Classical.not_and_iff_not_or_not, Classical.not_not, Classical.not_not]
    · rw [if_neg player, if_neg player, decide_eq_false_iff_not, Classical.not_not]
  rw [items, configChecks]
  simp only [List.forall_mem_append, List.forall_mem_cons, List.not_mem_nil, false_implies, implies_true, and_true,
    alliance, decide_eq_false_iff_not]
  by_cases element : c.role = 1
  · simp only [if_pos element, List.forall_mem_append, List.forall_mem_cons, List.not_mem_nil, false_implies, implies_true,
      and_true, partners_pass, decide_eq_false_iff_not]
    have slots := slotChecks_pass c
    unfold slotChecks at slots
    constructor
    · rintro ⟨⟨node, role, fits, period, silence, twice, window⟩, ⟨⟨seats, offers, ring, clearing⟩, slotsPass⟩, partners,
        entries, distinct⟩
      have accepted := (slots (by omega)).mp slotsPass
      refine ⟨by omega, by omega, fits, by omega, by omega, by omega, by omega, by omega, by omega, by omega,
        fun _ => ⟨by omega, by omega, by omega, by omega, by omega, by omega, accepted, by omega, entries, ?_⟩⟩
      exact fun two same => distinct ⟨two, same⟩
    · rintro ⟨node, role, fits, period, period', silence, silence', twice, window, window', rest⟩
      obtain ⟨seats, seats', offers, offers', ring, clearing, accepted, partners, entries, distinct⟩ := rest element
      have slotsPass := (slots offers').mpr accepted
      exact ⟨⟨by omega, by omega, fits, by omega, by omega, by omega, by omega⟩,
        ⟨⟨by omega, by omega, by omega, by omega⟩, slotsPass⟩, by omega, entries, fun ⟨two, same⟩ => distinct two same⟩
  · simp only [if_neg element, List.not_mem_nil, false_implies, implies_true, and_true]
    constructor
    · rintro ⟨node, role, fits, period, silence, twice, window⟩
      exact ⟨by omega, by omega, fits, by omega, by omega, by omega, by omega, by omega, by omega, by omega,
        fun h => absurd h element⟩
    · rintro ⟨node, role, fits, period, period', silence, silence', twice, window, window', -⟩
      exact ⟨by omega, by omega, fits, by omega, by omega, by omega, by omega⟩

/-- Settles O4: START's nest of checks is the first failing check of the table, and none fails exactly on the values
accepted. -/
theorem startAcceptsExactlyTheTable : Obligations.StartAcceptsExactlyTheTable :=
  ⟨startReportsTheFirstFault, startFindsNoFault⟩

/-! ## The SET commands (R184) -/

theorem State.storeConfig_config (f : StoredConfig → StoredConfig) (s : State) (h : s.port.nodeState = .config) :
    s.storeConfig f = done (s.mapPort fun p => { p with cfg := f s.port.cfg }) [] := if_pos h

theorem State.storeConfig_locked (f : StoredConfig → StoredConfig) (s : State) (h : s.port.nodeState ≠ .config) :
    s.storeConfig f = refuse .locked s := if_neg h

theorem setCommandsStoreInConfig : SetCommandsStoreInConfig := by
  intro s token config
  refine ⟨?_, ?_, ?_, ?_, ?_⟩ <;> intros <;> exact stores_of rfl token (State.storeConfig_config _ (s.handOver ..) config)

theorem StoredConfig.offer_setOffer (c : StoredConfig) (o : OfferSlot) (n j : Nat) (hn : n < 4) (hj : j < 4) :
    (c.setOffer (BitVec.ofNat 8 n) o).offer j = if j = n then o else c.offer j := by
  have slot : n = 0 ∨ n = 1 ∨ n = 2 ∨ n = 3 := by omega
  have asked : j = 0 ∨ j = 1 ∨ j = 2 ∨ j = 3 := by omega
  rcases slot with rfl | rfl | rfl | rfl <;> rcases asked with rfl | rfl | rfl | rfl <;> rfl

theorem StoredConfig.setOffer_rest (c : StoredConfig) (o : OfferSlot) (n : Nat) (hn : n < 4) :
    { c.setOffer (BitVec.ofNat 8 n) o with
      offer0 := c.offer0, offer1 := c.offer1, offer2 := c.offer2, offer3 := c.offer3 } = c := by
  have slot : n = 0 ∨ n = 1 ∨ n = 2 ∨ n = 3 := by omega
  rcases slot with rfl | rfl | rfl | rfl <;> rfl

theorem setOfferAct_stores (slot : Byte) (o : OfferSlot) (s : State) (config : s.port.nodeState = .config)
    (h : slot.toNat ≤ 3) :
    setOfferAct slot o.kind o.maxHold o.cost o.openPhases o.restriction o.pulsePeriod s =
      done (s.mapPort fun p => { p with cfg := s.port.cfg.setOffer slot o }) [] := by
  rw [setOfferAct, if_neg (not_not_intro config), if_neg (by omega), State.storeConfig_config _ s config]

theorem setOfferAct_noSlot (slot : Byte) (o : OfferSlot) (s : State) (config : s.port.nodeState = .config)
    (h : 3 < slot.toNat) :
    setOfferAct slot o.kind o.maxHold o.cost o.openPhases o.restriction o.pulsePeriod s = refuse .badArgument s := by
  rw [setOfferAct, if_neg (not_not_intro config), if_pos h]

theorem setOfferWritesTheSlotItNames : SetOfferWritesTheSlotItNames := by
  intro s n o token config byte
  have value : (BitVec.ofNat 8 n).toNat = n := by rw [BitVec.toNat_ofNat, Nat.mod_eq_of_lt byte]
  refine ⟨fun slot => ⟨s.port.cfg.setOffer (BitVec.ofNat 8 n) o, ?_, ?_, ?_⟩, fun above => ?_⟩
  · exact stores_of rfl token (setOfferAct_stores _ o (s.handOver ..) config (by omega))
  · exact fun j hj => StoredConfig.offer_setOffer _ o n j slot hj
  · exact StoredConfig.setOffer_rest _ o n slot
  · exact isRefused_of rfl token (setOfferAct_noSlot _ o (s.handOver ..) config (by omega))

theorem setCommandsAreLockedAfterStart : SetCommandsAreLockedAfterStart := by
  intro s token started
  refine ⟨?_, ?_, ?_, ?_, ?_, ?_⟩ <;> intros <;> refine isRefused_of rfl token ?_
  case refine_4 => exact if_pos started
  all_goals exact State.storeConfig_locked _ (s.handOver ..) started

theorem startAct_fault (s : State) (config : s.port.nodeState = .config) {item field : Byte}
    (fault : s.port.cfg.fault = some (item, field)) :
    startAct s = { state := s, result := .badConfig, reply := [item, field] } := by
  rw [startAct, if_neg (not_not_intro config), fault]

theorem startAct_good (s : State) (config : s.port.nodeState = .config) (good : s.port.cfg.fault = none) :
    startAct s = done ((((s.fixTiming.formElement).seed).enterSource).readStopAtStart).listen [] := by
  rw [startAct, if_neg (not_not_intro config), good]

theorem startIsRefused : StartIsRefused := by
  intro s token
  refine ⟨fun started => isRefused_of rfl token (if_pos started), fun item field config fault => ?_⟩
  refine ⟨_, exec_handed rfl token, ?_⟩
  rw [startAct_fault (s.handOver 30 []) config ((startReportsTheFirstFault _).trans fault)]
  refine ⟨⟨rfl, rfl, rfl, rfl, by simp⟩, ?_, ⟨rfl, rfl, rfl, rfl, rfl, rfl⟩, rfl⟩
  simp [SameOutsidePort, Completion.finish, State.handOver]

/-- Settles O3: a SET command is `State.storeConfig`, and START reports what O4 finds. -/
theorem configurationCommands : Obligations.ConfigurationCommands :=
  ⟨setCommandsStoreInConfig, setOfferWritesTheSlotItNames, setCommandsAreLockedAfterStart, startIsRefused⟩

end Sys2Proof.Machine
end

section
/-! START over a good configuration (R186) and the player's commands ASK, YIELD and RENEW (R74, R75, R86, R87). -/

namespace Sys2Proof.Machine

/-! ## START (R186) -/

/-- R184: the role is read from its code. -/
theorem State.isElement_eq (s : State) : s.isElement = decide (s.port.cfg.role = 1) := by
  simp only [State.isElement, State.role, roleOfCode_element]

theorem State.isReferee_eq (s : State) : s.isReferee = decide (s.port.cfg.role = 2) := by
  simp only [State.isReferee, State.role, roleOfCode_referee]

theorem State.isPlayer_eq (s : State) : s.isPlayer = decide (s.port.cfg.role = 0) := by
  simp only [State.isPlayer, State.role, roleOfCode_player]

/-- R129: the phase unit with the STOP state active, the latch set and the HALT schedule running. -/
def PhaseUnit.stopped (now : Nat) (u : PhaseUnit) : PhaseUnit :=
  { u with stop := true, latch := true, haltDue := if u.haltDue.isSome then u.haltDue else some (now + 20) }

/-- R129: while the node does not send, the STOP state becomes active with no frame placed: the phase unit changes, and
HALT_CHANGED is set where the latch was clear. -/
theorem State.activateStop_silent (s : State) (silent : s.port.nodeState.sends = false) :
    s.activateStop = (if s.phase.latch then s else s.setFlag .haltChanged).mapPhase (PhaseUnit.stopped s.localMs) := by
  have quiet (t : State) (h : t.port.nodeState = s.port.nodeState) : t.placeHalt = t := by
    simp [State.placeHalt, h, silent]
  rcases latched : s.phase.latch with _ | _ <;> rcases due : s.phase.haltDue with _ | _ <;>
    simp [State.activateStop, State.setLatch, State.beginHaltSchedule, State.mapPhase, State.setFlag, State.mapPort,
      PhaseUnit.stopped, latched, due, quiet]

/-- R129: at START the phase unit and the flags alone can change. -/
theorem State.readStopAtStart_eq (s : State) (silent : s.port.nodeState.sends = false) :
    ∃ u f, s.readStopAtStart = { s with phase := u, port := { s.port with flags := f } } ∧
      (∀ g, s.hasFlag g = true → f.getLsbD g.bit = true) ∧
      (s.pins.stopLow = true → u.stop = true ∧ u.latch = true) ∧ (s.pins.stopLow = false → u = s.phase) := by
  unfold State.readStopAtStart
  by_cases low : s.pins.stopLow = true
  · rw [if_pos low, State.activateStop_silent s silent]
    refine ⟨s.phase.stopped s.localMs, (if s.phase.latch then s else s.setFlag .haltChanged).port.flags, ?_,
      fun g set => ?_, fun _ => ⟨rfl, rfl⟩,
      fun high => by simp [low] at high⟩
    · cases s.phase.latch <;> rfl
    · change (State.hasFlag (if s.phase.latch then s else s.setFlag .haltChanged) g) = true
      split
      · exact set
      · simp [set]
  · rw [if_neg low]
    exact ⟨s.phase, s.port.flags, rfl, fun _ set => set, fun high => absurd high low, fun _ => rfl⟩

/-- R105: where the source flag of a REFEREE is off, START leaves field time. -/
theorem State.enterSource_off (s : State) (h : s.port.cfg.role ≠ 2 ∨ s.port.cfg.source = 0) : s.enterSource = s := by
  have off : (s.isReferee && s.sourceFlag) = false := by
    rw [State.isReferee_eq, State.sourceFlag, ← Bool.decide_and]
    exact decide_eq_false (by grind)
  rw [State.enterSource, off]
  rfl

theorem State.enterSource_on (s : State) (h : s.port.cfg.role = 2 ∧ s.port.cfg.source ≠ 0) :
    s.enterSource = (s.writeTrim s.time.commanded).setAlign .source 0 .sourceStart := by
  have on : (s.isReferee && s.sourceFlag) = true := by
    rw [State.isReferee_eq, State.sourceFlag, ← Bool.decide_and]
    exact decide_eq_true h
  rw [State.enterSource, on]
  rfl

/-- R105: START reaches field time and the flags alone when it makes the node the source. -/
theorem State.enterSource_eq (s : State) :
    ∃ x f, s.enterSource = { s with time := x, port := { s.port with flags := f } } ∧ x.ft = s.time.ft ∧
      x.stepLimit = s.time.stepLimit ∧
      (s.port.cfg.role = 2 ∧ s.port.cfg.source ≠ 0 → x.align = .source ∧ x.level = 0 ∧
        x.trim = clampTrim s.time.commanded ∧ f.getLsbD EventFlag.alignChanged.bit = true) ∧
      (s.port.cfg.role ≠ 2 ∨ s.port.cfg.source = 0 → x = s.time) := by
  by_cases on : s.port.cfg.role = 2 ∧ s.port.cfg.source ≠ 0
  · rw [State.enterSource_on s on]
    have set : ((s.writeTrim s.time.commanded).setAlign .source 0 .sourceStart).hasFlag .alignChanged = true := by
      simp [State.setAlign]
    refine ⟨((s.writeTrim s.time.commanded).setAlign .source 0 .sourceStart).time,
      ((s.writeTrim s.time.commanded).setAlign .source 0 .sourceStart).port.flags, ?_, ?_, ?_,
      fun _ => ⟨rfl, rfl, ?_, set⟩, fun off => absurd on (by grind)⟩
    · by_cases same : trimAlarm (clampTrim s.time.commanded) = s.time.alarm
      · rw [State.writeTrim_sameAlarm _ s same]; rfl
      · rw [State.writeTrim_newAlarm _ s same]; rfl
    all_goals simp [State.setAlign, FieldTime.withTrim]
  · rw [State.enterSource_off s (by grind)]
    exact ⟨s.time, s.port.flags, rfl, rfl, rfl, fun h => absurd h on, fun _ => rfl⟩

/-- R186 step 2: START forms the seats and the views of an ELEMENT. -/
theorem State.formElement_eq (s : State) :
    ∃ u v, s.formElement = { s with seat := u, views := v } ∧
      (s.port.cfg.role = 1 → u.table = List.replicate s.port.cfg.seatCount.toNat .free ∧
        u.guardTime = s.port.cfg.guardTime ∧ v = s.port.cfg.partners.map PartnerEntry.view) ∧
      (s.port.cfg.role ≠ 1 → u = s.seat ∧ v = s.views) := by
  have element := s.isElement_eq
  unfold State.formElement
  by_cases role : s.port.cfg.role = 1
  · rw [element, if_pos (decide_eq_true role)]
    exact ⟨_, _, rfl, fun _ => ⟨rfl, rfl, rfl⟩, fun h => absurd role h⟩
  · rw [element, if_neg (mt of_decide_eq_true role)]
    exact ⟨s.seat, s.views, rfl, fun h => absurd h role, fun _ => ⟨rfl, rfl⟩⟩

/-- R61: the view of a partner whose rule START has accepted. -/
theorem PartnerEntry.view_eq (e : PartnerEntry) (h : e.rule = 1 ∨ e.rule = 2) :
    e.view = { id := e.id.setWidth 6, rule := if e.rule = 1 then .exclusive else .companion, seats := [], lastHeard := 0,
               silent := true } := by
  rcases h with h | h <;> rw [PartnerEntry.view, h] <;> rfl

theorem State.seed_backoff (s : State) (h : s.port.cfg.nodeId.toNat ≤ 63) :
    s.seed.chan.backoff.toNat = s.port.cfg.nodeId.toNat * 257 + 1 := by
  have value : s.seed.chan.backoff = BitVec.ofNat 16 (s.port.cfg.nodeId.toNat * 257 + 1) := rfl
  rw [value, BitVec.toNat_ofNat, Nat.mod_eq_of_lt (by omega)]

/-- Settles O5, by what each step of START leaves: timing, the element's tables, the seeds, the source, the STOP state. -/
theorem startEntersListening : Obligations.StartEntersListening := by
  intro s token config good
  have fault : (s.handOver 30 []).port.cfg.fault = none := (startReportsTheFirstFault _).trans good
  obtain ⟨node, -, -, -, -, -, -, -, -, -, element⟩ := (startFindsNoFault _).mp good
  obtain ⟨seats, views, formed, isElement, noElement⟩ := (s.handOver 30 []).fixTiming.formElement_eq
  obtain ⟨x, f, sourced, ft, limit, source, noSource⟩ := (s.handOver 30 []).fixTiming.formElement.seed.enterSource_eq
  have silent : (s.handOver 30 []).fixTiming.formElement.seed.enterSource.port.nodeState.sends = false := by
    rw [sourced, formed]
    exact congrArg NodeState.sends config
  obtain ⟨u, g, stopped, kept, low, high⟩ := State.readStopAtStart_eq _ silent
  have backoff := (s.handOver 30 []).fixTiming.formElement.seed_backoff (by rw [formed]; exact node)
  refine ⟨_, exec_handed rfl token, ?_⟩
  rw [startAct_good (s.handOver 30 []) config fault]
  refine ⟨done_shows .., ?_⟩
  rw [stopped, sourced] at *
  rw [formed] at *
  refine ⟨rfl, rfl, rfl, rfl, rfl, rfl, limit, backoff, rfl, rfl, rfl, rfl, fun role => ?_, fun role => ?_, fun on => ?_,
    fun off => ?_, low, high, ft, rfl, rfl, rfl, rfl⟩
  · obtain ⟨tableIs, guardIs, viewsAre⟩ := isElement role
    obtain ⟨-, -, -, -, -, -, -, -, entries, -⟩ := element role
    refine ⟨tableIs, guardIs, viewsAre.trans ?_⟩
    exact List.map_congr_left fun e he => e.view_eq (entries e he).2.2
  · exact noElement role
  · obtain ⟨align, level, trim, set⟩ := source on
    refine ⟨align, level, trim, ?_⟩
    rw [Completion.finish_hasFlag]
    exact Bool.or_eq_true_iff.mpr (Or.inl (kept _ set))
  · exact noSource off

end Sys2Proof.Machine
end

section
/-! The player's commands ASK, YIELD and RENEW (R74, R75, R86, R87): each is its check, refused or taken, and a taken one
changes the request unit and places one frame. -/

namespace Sys2Proof.Machine

/-- A checked command: refused by its first failing check, or taken. -/
def checkedAct (check : Option ResultCode) (taken : State → Completion) (s : State) : Completion :=
  match check with
  | some r => refuse r s
  | none => taken s

theorem checkedAct_some {check : Option ResultCode} {r : ResultCode} (taken : State → Completion) (s : State)
    (h : check = some r) : checkedAct check taken s = refuse r s := by rw [h]; rfl

theorem checkedAct_none {check : Option ResultCode} (taken : State → Completion) (s : State) (h : check = none) :
    checkedAct check taken s = taken s := by rw [h]; rfl

/-! ## What a placed frame changes with room in the queue (R157) -/

/-- R157: a frame other than a PRESENCE, placed by a node outside TEST with room in the queue, changes the channel alone and
waits at the end of the queue. -/
theorem State.place_queued (f : QueuedFrame) (s : State) (room : s.chan.txQueue.length < 8)
    (outside : s.port.nodeState = .test → f.body.barredInTest = false) (other : f.body ≠ .presence) :
    (s.place f).chan.txQueue = s.chan.txQueue ++ [f] ∧ s.place f = { s with chan := (s.place f).chan } := by
  rw [State.place_room f s room outside other]
  obtain ⟨k, e, entered⟩ := State.enterQueue_eq f s
  rw [entered]
  exact ⟨rfl, rfl⟩

/-! ## ASK (R74, R75) -/

theorem askAct_eq (element offer : Byte) (hold : Half) (s : State) :
    askAct element offer hold s =
      checkedAct (askCheck s element offer hold) (State.takeAsk (element.setWidth 6) offer.toNat hold) s := by
  have player : ((!s.isPlayer) = true) = (s.port.cfg.role ≠ 0) := by simp [State.isPlayer_eq]
  have sanctioned : ((s.req.benched || s.req.ejected) = true) = (0 < s.req.bench ∨ s.req.ejected = true) := by simp
  rcases known : lookupId (element.setWidth 6) s.req.view with _ | v <;>
    simp only [askAct, askCheck, player, sanctioned, known] <;> repeat' split
  all_goals rfl

theorem askCheck_running {s : State} {element offer : Byte} {hold : Half} (h : askCheck s element offer hold = none) :
    s.port.nodeState = .running := by
  refine Classical.byContradiction fun other => ?_
  simp only [askCheck, if_pos other] at h
  split at h <;> contradiction

/-- Settles O6: the ASK command is its check; a taken one adds the request and places its ASK. -/
theorem askCommand : Obligations.AskCommand := by
  refine ⟨fun s element offer hold r token check => ?_, fun s element offer hold token check => ⟨?_, fun room => ?_⟩⟩
  · exact isRefused_of rfl token ((askAct_eq ..).trans (checkedAct_some _ _ check))
  · exact leaves_of rfl token ((askAct_eq ..).trans (checkedAct_none _ _ check))
  · have outside : s.port.nodeState ≠ .test := by rw [askCheck_running check]; decide
    exact State.place_queued _ _ room (fun test => absurd test outside) (by simp)

/-! ## YIELD (R86) -/

/-- A command of the request to an element, which is taken only where there is one. -/
def onRequest (e : NodeId) (taken : Request → State → Completion) (s : State) : Completion :=
  match s.request e with
  | some q => taken q s
  | none => refuse .notKnown s

theorem onRequest_found {s : State} {e : NodeId} {q : Request} (taken : Request → State → Completion)
    (h : s.request e = some q) : onRequest e taken s = taken q s := by rw [onRequest, h]

theorem State.request_element {s : State} {e : NodeId} {q : Request} (h : s.request e = some q) : q.element = e := by
  simpa using List.find?_some h

theorem yieldAct_eq (element : Byte) (s : State) :
    yieldAct element s = checkedAct (yieldCheck s element) (onRequest (element.setWidth 6) State.takeYield) s := by
  have player : ((!s.isPlayer) = true) = (s.port.cfg.role ≠ 0) := by simp [State.isPlayer_eq]
  rcases found : s.request (element.setWidth 6) with _ | q <;> simp only [yieldAct, yieldCheck, player, found] <;>
    repeat' split
  all_goals first | rfl | exact (onRequest_found _ found).symm

theorem yieldCheck_running {s : State} {element : Byte} (h : yieldCheck s element = none) : s.port.nodeState = .running := by
  refine Classical.byContradiction fun other => ?_
  simp only [yieldCheck, if_pos other] at h
  split at h <;> contradiction

theorem yieldCommand : YieldCommand := by
  refine fun s element token => ⟨fun r check => ?_, fun check q found => ?_⟩
  · exact isRefused_of rfl token ((yieldAct_eq ..).trans (checkedAct_some _ _ check))
  · have taken : yieldAct element (s.handOver 33 [element]) = (s.handOver 33 [element]).takeYield q :=
      (yieldAct_eq ..).trans ((checkedAct_none _ _ check).trans (onRequest_found _ found))
    refine ⟨leaves_of rfl token ?_, fun room => ?_⟩
    · rw [taken, State.takeYield, State.request_element found]
      rfl
    · have outside : s.port.nodeState ≠ .test := by rw [yieldCheck_running check]; decide
      exact State.place_queued _ _ room (fun test => absurd test outside) (by simp)

/-! ## RENEW (R87) -/

theorem renewAct_eq (element : Byte) (s : State) :
    renewAct element s = checkedAct (renewCheck s element) (onRequest (element.setWidth 6) State.takeRenew) s := by
  have player : ((!s.isPlayer) = true) = (s.port.cfg.role ≠ 0) := by simp [State.isPlayer_eq]
  rcases found : s.request (element.setWidth 6) with _ | q
  · simp only [renewAct, renewCheck, player, found]
    repeat' split
    all_goals rfl
  · have taken : onRequest (element.setWidth 6) State.takeRenew s = s.takeRenew q := onRequest_found _ found
    simp only [renewAct, renewCheck, player, found, State.viewRenewable, State.request_element found]
    rcases lookupId (element.setWidth 6) s.req.view with _ | v
    · repeat' split
      all_goals first | rfl | contradiction
    · rcases offer : v.offers[q.offer]? with _ | o
      · simp only [offer]
        repeat' split
        all_goals first | rfl | contradiction
      · by_cases renewable : o.kind = 1 <;> simp only [offer, renewable, decide_true, decide_false, if_true, if_false] <;>
          repeat' split
        all_goals first | rfl | contradiction | exact taken.symm

theorem renewCheck_running {s : State} {element : Byte} (h : renewCheck s element = none) : s.port.nodeState = .running := by
  refine Classical.byContradiction fun other => ?_
  simp only [renewCheck, if_pos other] at h
  split at h <;> contradiction

theorem renewCommand : RenewCommand := by
  refine fun s element token => ⟨fun r check => ?_, fun check q found => ?_⟩
  · exact isRefused_of rfl token ((renewAct_eq ..).trans (checkedAct_some _ _ check))
  · have taken : renewAct element (s.handOver 34 [element]) = (s.handOver 34 [element]).takeRenew q :=
      (renewAct_eq ..).trans ((checkedAct_none _ _ check).trans (onRequest_found _ found))
    refine ⟨leaves_of rfl token ?_, fun room => ?_⟩
    · rw [taken, State.takeRenew, Request.askFrame, State.request_element found]
      rfl
    · have outside : s.port.nodeState ≠ .test := by rw [renewCheck_running check]; decide
      exact State.place_queued _ _ room (fun test => absurd test outside) (by simp)

/-- Settles O7: YIELD and RENEW are their checks; a taken one changes its request and places one frame. -/
theorem yieldAndRenewCommands : Obligations.YieldAndRenewCommands := ⟨yieldCommand, renewCommand⟩

end Sys2Proof.Machine
end

section
/-! What the statements speak of (posted notices, closed requests, ended seats, an applied mark) is what the model's
operations do: one equation for each. -/

namespace Sys2Proof.Machine

/-! ## Flags, notices and requests -/

theorem withFlag_eq (f : EventFlag) (s : State) : withFlag f s = s.setFlag f := rfl

theorem withFlagIf_eq (b : Bool) (f : EventFlag) (s : State) : withFlagIf b f s = if b then s.setFlag f else s := rfl

theorem posted_eq (kind : NoticeKind) (id claim : Byte) (detail : Half) (s : State) :
    posted kind id claim detail s = s.postNotice kind id claim detail := rfl

theorem withRequest_eq (s : State) (e : NodeId) (f : Request → Request) : withRequest s e f = s.setRequest e f := rfl

theorem closed_eq (r : Request) (kind : NoticeKind) (detail : Half) (s : State) :
    closed r kind detail s = s.closeRequest r kind detail := by
  simp only [closed, State.closeRequest, posted_eq, State.mapReq, State.postNotice_req, idByte, decide_not]

/-- Requests closed one after another: the notices in list order, and the requests to their elements gone. -/
theorem State.endRequests_eq (kind : NoticeKind) (detail : Half) (l : List Request) (s : State) :
    s.endRequests kind detail l =
      { l.foldl (fun t r => posted kind (r.element.setWidth 8) r.claim detail t) s with
        req := { s.req with list := s.req.list.filter fun q => l.all fun r => decide (q.element ≠ r.element) } } := by
  induction l generalizing s with
  | nil =>
    have all : s.req.list.filter (fun _ => true) = s.req.list := List.filter_eq_self.mpr fun _ _ => rfl
    simp [State.endRequests, all]
  | cons r rest ih =>
    have reqOf (u : RequestUnit) (l : List Request) (t : State) :
        l.foldl (fun t r => posted kind (r.element.setWidth 8) r.claim detail t) { t with req := u } =
          { l.foldl (fun t r => posted kind (r.element.setWidth 8) r.claim detail t) t with req := u } := by
      induction l generalizing t with
      | nil => rfl
      | cons q l ih =>
        have one : posted kind (q.element.setWidth 8) q.claim detail { t with req := u } =
            { posted kind (q.element.setWidth 8) q.claim detail t with req := u } := by
          simp only [posted]
          split <;> rfl
        rw [List.foldl_cons, List.foldl_cons, one, ih]
    rw [State.endRequests, ih, ← closed_eq, closed, reqOf]
    simp only [List.foldl_cons, List.filter_filter, List.all_cons, Bool.and_comm]

theorem allClosed_eq (kind : NoticeKind) (detail : Half) (s : State) :
    allClosed kind detail s = s.endAllRequests kind detail := by
  have none : (s.req.list.filter fun q => s.req.list.all fun r => decide (q.element ≠ r.element)) = [] := by
    rw [List.filter_eq_nil_iff]
    intro q member
    simp only [List.all_eq_true, decide_eq_true_eq, Classical.not_forall]
    exact ⟨q, member, by simp⟩
  rw [State.endAllRequests, State.endRequests_eq, none, allClosed]

/-! ## The end of a seat (R12) -/

theorem claimAt_eq (s : State) (n : Nat) : claimAt s n = (s.seatAt n).bind Seat.claim? := by
  rw [claimAt, State.seatAt]
  rcases s.seat.table[n]? with _ | x
  · rfl
  · cases x <;> rfl

theorem State.postNotice_mapArb (k : NoticeKind) (i c : Byte) (d : Half) (f : Arbiter → Arbiter) (s : State) :
    (s.mapArb f).postNotice k i c d = (s.postNotice k i c d).mapArb f := by
  by_cases room : s.port.notices.length < 16
  · rw [State.postNotice_room k i c d s room, State.postNotice_room k i c d (s.mapArb f) room]
    rfl
  · rw [State.postNotice_full k i c d s (Nat.not_lt.mp room),
      State.postNotice_full k i c d (s.mapArb f) (Nat.not_lt.mp room)]
    rfl

/-- The ring after the end of a seat, as a change of the arbiter once the holder's record is written. -/
theorem ringAfterEnd_eq (s : State) (c : Claim) (reason : Reason) :
    ringAfterEnd s c reason =
      let written := s.arb.ring.map fun x =>
        if x.player = c.player then { x with engagement := .none, lastEnded := some (c.number, reason) } else x
      if s.ringMode = .rotateOnRelease ∧ reason ≠ .matchEnd then moveToTail c.player written else written := by
  simp only [ringAfterEnd, moveToTail, State.ringMode_rotateOnRelease, decide_not]

/-- R12 steps 1 to 3: the holder's record is written and, unless the match has ended, the holder is told. -/
def State.tellEnd (c : Claim) (reason : Reason) (s : State) : State :=
  let written := s.setRecord c.player fun r => { r with engagement := .none, lastEnded := some (c.number, reason) }
  if reason = .matchEnd then written else written.answer c.player c.number (.ended reason.code)

theorem State.tellEnd_arb (c : Claim) (reason : Reason) (s : State) :
    (s.tellEnd c reason).arb = { s.arb with ring := s.arb.ring.map fun x =>
      if x.player = c.player then { x with engagement := .none, lastEnded := some (c.number, reason) } else x } := by
  unfold State.tellEnd
  split
  · rfl
  · exact State.send_arb ..

theorem State.tellEnd_seat (c : Claim) (reason : Reason) (s : State) : (s.tellEnd c reason).seat = s.seat := by
  unfold State.tellEnd
  split
  · rfl
  · exact State.send_seat ..

/-- R12 step 4: the ring once a seat has ended. -/
def State.ringTurned (c : Claim) (reason : Reason) (s : State) (a : Arbiter) : Arbiter :=
  if s.ringMode = .rotateOnRelease ∧ reason ≠ .matchEnd then { a with ring := moveToTail c.player a.ring } else a

theorem State.endSeat_eq (n : Nat) (c : Claim) (reason : Reason) (s : State) (h : claimAt s n = some c) :
    s.endSeat n reason = (((s.tellEnd c reason).postNotice .seatEnded (idByte c.player) c.number
      (reasonDetail reason)).mapArb (s.ringTurned c reason)).setSeat n s.endedSeat := by
  rw [claimAt_eq] at h
  simp only [State.endSeat, h]
  by_cases turns : s.ringMode = .rotateOnRelease ∧ reason ≠ .matchEnd
  · have same : s.ringTurned c reason = fun a => { a with ring := moveToTail c.player a.ring } :=
      funext fun a => if_pos turns
    rw [if_pos turns.symm, State.postNotice_mapArb, same]
    rfl
  · have same : s.ringTurned c reason = fun a => a := funext fun a => if_neg turns
    rw [if_neg fun h => turns h.symm, same]
    rfl

theorem State.with_arb_seat (p : State) (f : Arbiter → Arbiter) (g : SeatUnit → SeatUnit) {a : Arbiter} {u : SeatUnit}
    (ha : f p.arb = a) (hu : g p.seat = u) : { p with arb := a, seat := u } = (p.mapArb f).mapSeat g := by
  subst ha hu
  rfl

theorem seatEnded_eq (n : Nat) (c : Claim) (reason : Reason) (s : State) (h : claimAt s n = some c) :
    seatEnded n c reason s = s.endSeat n reason := by
  have zero : s.port.cfg.clearing = 0 ↔ s.clearingTime = 0 :=
    ⟨fun h => congrArg BitVec.toNat h, fun h => BitVec.eq_of_toNat_eq h⟩
  have turned : (if s.port.cfg.clearing = 0 then Seat.free else .clearing s.port.cfg.clearing.toNat) = s.endedSeat :=
    ite_of_iff zero rfl rfl
  rw [State.endSeat_eq n c reason s h, seatEnded, ringAfterEnd_eq, turned]
  refine State.with_arb_seat _ (s.ringTurned c reason) _ ?_ ?_
  · have arb : ((s.tellEnd c reason).postNotice .seatEnded (idByte c.player) c.number (reasonDetail reason)).arb =
        (s.tellEnd c reason).arb := State.postNotice_arb ..
    refine (congrArg (s.ringTurned c reason) (arb.trans (s.tellEnd_arb c reason))).trans ?_
    unfold State.ringTurned
    split <;> rfl
  · have seat : ((s.tellEnd c reason).postNotice .seatEnded (idByte c.player) c.number (reasonDetail reason)).seat =
        (s.tellEnd c reason).seat := State.postNotice_seat ..
    exact congrArg (fun u : SeatUnit => { u with table := u.table.set n s.endedSeat })
      (seat.trans (s.tellEnd_seat c reason))

theorem seatEnds_eq (n : Nat) (c : Claim) (reason : Reason) (s : State) (h : claimAt s n = some c) :
    seatEnds n c reason s = s.endSeatAndResolve n reason := by
  have zero : s.port.cfg.clearing = 0 ↔ s.clearingTime = 0 ∧ ((s.seatAt n).bind Seat.claim?).isSome = true := by
    rw [← claimAt_eq, h]
    exact ⟨fun h => ⟨congrArg BitVec.toNat h, rfl⟩, fun h => BitVec.eq_of_toNat_eq h.1⟩
  rw [seatEnds, State.endSeatAndResolve, seatEnded_eq n c reason s h]
  exact ite_of_iff zero rfl rfl

/-- Seats that end one after another, under a test that no end of a seat moves. -/
theorem State.endSeatsWhere_eq (test' : State → Nat → Claim → Bool) (test : Nat → Claim → Bool) (reason : Reason)
    (l : List Nat) (s : State) (same : ∀ t, SameOutsideElement s t → ∀ n c, test' t n c = test n c) :
    s.endSeatsWhere test' reason l = seatsEnded test reason l s := by
  induction l generalizing s with
  | nil => rfl
  | cons n rest ih =>
    have kept : SameOutsideElement s (match claimAt s n with
        | some c => if test n c then s.endSeat n reason else s
        | none => s) := by
      split
      · split
        · exact State.endSeat_element ..
        · exact .refl s
      · exact .refl s
    rw [State.endSeatsWhere, seatsEnded, ← claimAt_eq]
    rcases h : claimAt s n with _ | c
    · exact ih s same
    · dsimp only
      simp only [h] at kept
      rw [same s (.refl s), seatEnded_eq n c reason s h]
      exact ih _ fun t ht => same t (kept.trans ht)

theorem endingSeats_eq (test : Nat → Claim → Bool) (reason : Reason) (s : State) :
    endingSeats test reason s = s.endSeatsWhere (fun _ => test) reason s.seatNumbers :=
  (State.endSeatsWhere_eq _ test reason _ s fun _ _ _ _ => rfl).symm

end Sys2Proof.Machine
end

section
/-! What a placed frame keeps of the channel and of link supervision, the end of a test, and the applied mark of the
statements as the model's `State.applyMark`. -/

namespace Sys2Proof.Machine

/-! ## What a placed frame keeps (R157) -/

/-- Of the channel only the transmit queue, the contention and its exponent can change, and of link supervision only the
count of drops. -/
structure SameOutsideQueue (s t : State) : Prop where
  chan : t.chan = { s.chan with
    txQueue := t.chan.txQueue
    contention := t.chan.contention
    exponent := t.chan.exponent }
  link : t.link = { s.link with window := { s.link.window with drop := t.link.window.drop } }

theorem SameOutsideQueue.refl (s : State) : SameOutsideQueue s s := ⟨rfl, rfl⟩

theorem SameOutsideQueue.trans {s t u : State} (h : SameOutsideQueue s t) (k : SameOutsideQueue t u) :
    SameOutsideQueue s u :=
  ⟨by rw [k.chan, h.chan], by rw [k.link, h.link]⟩

theorem SameOutsideQueue.of_eq {s t : State} (chan : t.chan = s.chan) (link : t.link = s.link) : SameOutsideQueue s t :=
  ⟨by rw [chan], by rw [link]⟩

theorem State.enterQueue_outside (f : QueuedFrame) (s : State) : SameOutsideQueue s (s.enterQueue f) := by
  obtain ⟨k, e, h⟩ := State.enterQueue_eq f s
  rw [h]
  exact ⟨rfl, rfl⟩

theorem State.postNotice_queue (k : NoticeKind) (i c : Byte) (d : Half) (s : State) :
    SameOutsideQueue s (s.postNotice k i c d) :=
  .of_eq (State.postNotice_chan ..) (State.postNotice_link ..)

theorem State.setRequest_queue (e : NodeId) (f : Request → Request) (s : State) :
    SameOutsideQueue s (s.setRequest e f) := .of_eq rfl rfl

theorem State.closeRequest_queue (r : Request) (k : NoticeKind) (d : Half) (s : State) :
    SameOutsideQueue s (s.closeRequest r k d) :=
  ⟨(State.postNotice_queue k (idByte r.element) r.claim d s).chan,
    (State.postNotice_queue k (idByte r.element) r.claim d s).link⟩

theorem State.countDrop_queue (s : State) : SameOutsideQueue s s.countDrop := ⟨rfl, rfl⟩

theorem State.setQueue_queue (q : List QueuedFrame) (s : State) :
    SameOutsideQueue s (s.mapChan fun c => { c with txQueue := q }) := ⟨rfl, rfl⟩

theorem State.finalMiss_queue (r : Request) (s : State) : SameOutsideQueue s (s.finalMiss r) := by
  unfold State.finalMiss
  split
  · exact State.closeRequest_queue ..
  · exact State.closeRequest_queue ..
  · exact (State.setRequest_queue ..).trans (State.postNotice_queue ..)
  · exact State.closeRequest_queue ..

theorem State.missWith_queue (place : QueuedFrame → State → State) (h : ∀ f s, SameOutsideQueue s (place f s))
    (r : Request) (b : TxBody) (s : State) : SameOutsideQueue s (s.missWith place r b) := by
  unfold State.missWith
  split
  · exact State.setRequest_queue ..
  · split
    · exact (State.setRequest_queue ..).trans (h _ _)
    · exact State.finalMiss_queue ..

theorem State.placeBy_queue (retry : Request → TxBody → State → State) (h : ∀ r b s, SameOutsideQueue s (retry r b s))
    (f : QueuedFrame) (s : State) : SameOutsideQueue s (s.placeBy retry f) := by
  have discards (g : QueuedFrame) (t : State) : SameOutsideQueue t (t.discard retry g) := by
    unfold State.discard
    split
    · exact h ..
    · exact .refl t
  unfold State.placeBy State.placeFull
  split
  · exact .refl s
  · split
    · exact .refl s
    · split
      · exact State.enterQueue_outside ..
      · split
        · split
          · exact (((State.setQueue_queue ..).trans (State.countDrop_queue _)).trans
              (State.enterQueue_outside ..)).trans (discards ..)
          · exact .refl s
        · exact (State.countDrop_queue s).trans (discards ..)

theorem State.placeWith_queue (n : Nat) (f : QueuedFrame) (s : State) : SameOutsideQueue s (s.placeWith n f) := by
  induction n generalizing f s with
  | zero => exact State.placeBy_queue _ (fun _ _ s => .refl s) ..
  | succ n ih => exact State.placeBy_queue _ (fun r b s => State.missWith_queue _ ih r b s) ..

theorem State.place_queue (f : QueuedFrame) (s : State) : SameOutsideQueue s (s.place f) := State.placeWith_queue 5 f s

theorem State.send_queue (b : TxBody) (s : State) : SameOutsideQueue s (s.send b) := State.place_queue _ s

/-! ## The end of a test (R174) -/

theorem presenceStarted_eq (s : State) : presenceStarted s = s.startPresence := by
  have chan := (State.send_queue .presence s).chan
  have backoff : (s.send .presence).chan.backoff = s.chan.backoff := by rw [chan]
  have period : (s.send .presence).chan.presencePeriod = s.chan.presencePeriod := by rw [chan]
  simp only [presenceStarted, State.startPresence, State.draw, State.mapChan, backoff, period, State.send_localMs] <;> rfl

theorem testEnded_eq (cause : EndCause) (s : State) : testEnded cause s = s.endTest cause := presenceStarted_eq _

/-! ## Marks (R121 to R125, R131) -/

theorem markKind_same (old left : Phase) : markKind old left old = .confirming := if_pos rfl

/-- R122: a mark to a running phase that is new resumes it or enters it. -/
theorem markKind_running (old left new : Phase) (running : new.isRunningPhase = true) (changes : new ≠ old) :
    markKind old left new = if old = .paused ∧ left = new then .resume else .entry := by
  unfold markKind
  rw [if_neg changes]
  cases new <;> first | rfl | contradiction

theorem pausedAfter_markKind (old left new : Phase) :
    pausedAfter (markKind old left new) old left =
      if new = old then left else if new = .paused then old else if new = .prematch then .prematch else left := by
  by_cases same : new = old
  · simp [markKind, same, pausedAfter]
  · by_cases running : new.isRunningPhase = true
    · rw [markKind_running old left new running same, if_neg same]
      cases new <;> first | contradiction | (split <;> rfl)
    · cases new <;> first | contradiction | simp [markKind, same, pausedAfter]

/-- R121 steps 2 to 5, R131: the writes of the mark and of the latch in one. -/
theorem adopted_writes (seq : Byte) (new : Phase) (carried : Option Quad) (s : State) :
    adopted seq new carried s =
      let written : State := s.mapPhase fun u =>
        { u.adopt seq new carried with
          pausedPhase := if new = u.phase then u.pausedPhase else if new = .paused then u.phase
            else if new = .prematch then .prematch else u.pausedPhase
          latch := u.latch && !s.haltQuiet }
      let told := if s.phase.latch && s.haltQuiet then written.setFlag .haltChanged else written
      if new ≠ s.phase.phase then told.setFlag .phaseChanged else told := by
  unfold adopted withFlagIf
  simp only [decide_eq_true_eq]
  rfl

theorem adopted_eq (seq : Byte) (new : Phase) (carried : Option Quad) (s : State) :
    adopted seq new carried s =
      if new ≠ s.phase.phase then ((s.mapPhase fun u => u.adopt seq new carried).clearLatch).setFlag .phaseChanged
      else (s.mapPhase fun u => u.adopt seq new carried).clearLatch := by
  have quiet : (s.mapPhase fun u => u.adopt seq new carried).haltQuiet = s.haltQuiet := rfl
  have latch : (s.mapPhase fun u => u.adopt seq new carried).phase.latch = s.phase.latch := rfl
  simp only [adopted_writes, ← pausedAfter_markKind, State.clearLatch, quiet, latch]
  rcases latched : s.phase.latch with _ | _ <;> rcases s.haltQuiet with _ | _ <;>
    simp [PhaseUnit.adopt, State.mapPhase, State.setFlag, State.mapPort, latched]

theorem matchEnded_eq (s : State) : matchEnded s = s.matchEnd := by
  simp only [matchEnded, endingSeats_eq, allClosed_eq]
  rfl

theorem matchReset_eq (s : State) : matchReset s = s.matchReset := by
  simp only [matchReset, allClosed_eq]
  rfl

/-- R16: the seats that a new phase closes. -/
theorem State.closeSeats_eq (s : State) :
    s.closeSeats =
      endingSeats (fun _ c => !inPhaseSet (s.port.cfg.offer c.offer).openPhases s.phase.phase) .phaseClosed s := by
  refine State.endSeatsWhere_eq _ _ _ _ s fun t same n c => ?_
  obtain ⟨-, -, phase, -, -, -, -, -, -, cfg, -⟩ := same
  simp only [State.offer, phase, cfg]
  cases s.phase.phase <;> rfl

theorem phaseSetHas_eq (set : Byte) (p : Phase) : phaseSetHas set p = inPhaseSet set p := by cases p <;> rfl

/-- R51: the reload of an entry. -/
theorem State.reload_eq (s : State) :
    s.reload = if inPhaseSet s.port.cfg.reloadPhases s.phase.phase then reloaded s else s := by
  simp only [State.reload, phaseSetHas_eq]
  rfl

theorem State.endTestByPhase_eq (s : State) :
    s.endTestByPhase = if s.port.nodeState = .test then testEnded .phase s else s := by
  rw [testEnded_eq, State.endTestByPhase]

/-- R174: the end of a test leaves the phase unit and the configuration. -/
theorem testEnded_keeps (cause : EndCause) (s : State) :
    (testEnded cause s).phase = s.phase ∧ (testEnded cause s).port.cfg = s.port.cfg := by
  obtain ⟨-, -, phase, -, -, -, -, -, -, -, -, cfg, -⟩ := State.startPresence_player ((s.mapPort fun p =>
    { p with nodeState := .running }).mapLink fun l =>
      { l with testKind := none, patternDue := none, insertPending := false, remaining := 2000,
               record := { l.record with endCause := some cause } })
  rw [testEnded_eq]
  exact ⟨phase, cfg⟩

theorem adopted_keeps (seq : Byte) (new : Phase) (carried : Option Quad) (s : State) :
    (adopted seq new carried s).phase.phase = new ∧ (adopted seq new carried s).port.cfg = s.port.cfg ∧
      (adopted seq new carried s).port.nodeState = s.port.nodeState := by
  rw [adopted_writes]
  dsimp only
  split <;> split <;> exact ⟨rfl, rfl, rfl⟩

/-- R121: the mark's writes, the deliveries of its kind, and the resolution of an entry, a resume or a cleared latch. -/
theorem State.applyMark_eq (seq : Byte) (new : Phase) (carried : Option Quad) (s : State) :
    s.applyMark seq new carried =
      let kind := markKind s.phase.phase s.phase.pausedPhase new
      let m := adopted seq new carried s
      if kind = .entry ∨ kind = .resume ∨ (s.phase.latch && !m.phase.latch && new.isRunningPhase) = true
      then (m.deliver kind).resolve else m.deliver kind := by
  have latch : (adopted seq new carried s).phase.latch =
      (s.mapPhase fun u => u.adopt seq new carried).clearLatch.phase.latch := by
    rw [adopted_eq]
    split <;> rfl
  simp only [State.applyMark, ← adopted_eq, latch]

/-- R121: a mark that is applied does what the statements say of its kind. -/
theorem State.applyMark_applied (seq : Byte) (new : Phase) (carried : Option Quad) (s : State) :
    MarkApplied s seq new carried (s.applyMark seq new carried) := by
  obtain ⟨phase, cfg, node⟩ := adopted_keeps seq new carried s
  simp only [MarkApplied, State.applyMark_eq]
  refine ⟨?confirmingCleared, ?confirmingKept, ?pause, ?finish, ?reset, ?running⟩
  case confirmingCleared =>
    rintro rfl latched cleared running
    simp [markKind_same, latched, cleared, running, State.deliver]
  case confirmingKept =>
    rintro rfl kept
    have held : (s.phase.latch && !(adopted seq s.phase.phase carried s).phase.latch &&
        s.phase.phase.isRunningPhase) = false := by
      rcases kept with h | h | h <;> simp [h]
    simp [markKind_same, held, State.deliver]
  case pause =>
    rintro changes rfl
    simp [markKind, changes, State.deliver, Phase.isRunningPhase]
  case finish =>
    rintro changes rfl
    simp [markKind, changes, State.deliver, Phase.isRunningPhase, matchEnded_eq]
  case reset =>
    rintro changes rfl
    simp [markKind, changes, State.deliver, Phase.isRunningPhase, matchReset_eq]
  case running =>
    intro changes running
    have ended : (adopted seq new carried s).endTestByPhase =
        if s.port.nodeState = .test then testEnded .phase (adopted seq new carried s) else adopted seq new carried s := by
      rw [State.endTestByPhase_eq, node]
    have endedKeeps : (adopted seq new carried s).endTestByPhase.phase.phase = new ∧
        (adopted seq new carried s).endTestByPhase.port.cfg = s.port.cfg := by
      rw [State.endTestByPhase_eq]
      split
      · obtain ⟨phase', cfg'⟩ := testEnded_keeps .phase (adopted seq new carried s)
        exact ⟨phase' ▸ phase, cfg'.trans cfg⟩
      · exact ⟨phase, cfg⟩
    have closed := State.closeSeats_eq (adopted seq new carried s).endTestByPhase
    rw [endedKeeps.1, endedKeeps.2] at closed
    rw [← ended, ← closed, markKind_running _ _ _ running changes]
    obtain ⟨-, -, phase', -, -, -, -, -, -, cfg', -⟩ := State.endSeatsWhere_element
      (fun t _ c => !(t.offer c.offer).openIn t.phase.phase) .phaseClosed
      (adopted seq new carried s).endTestByPhase.seatNumbers (adopted seq new carried s).endTestByPhase
    have reload : (adopted seq new carried s).endTestByPhase.closeSeats.reload =
        if inPhaseSet s.port.cfg.reloadPhases new then reloaded (adopted seq new carried s).endTestByPhase.closeSeats
        else (adopted seq new carried s).endTestByPhase.closeSeats := by
      rw [State.reload_eq, State.closeSeats, cfg', phase', endedKeeps.1, endedKeeps.2]
    by_cases resumes : s.phase.phase = .paused ∧ s.phase.pausedPhase = new
    · simp [resumes, State.deliver]
    · rcases set : inPhaseSet s.port.cfg.reloadPhases new with _ | _ <;> simp [resumes, State.deliver, reload, set]

end Sys2Proof.Machine
end

section
/-! The expiries of the clock (R104, R120, R130, R136, R138, R159, R168, R172, R175, R186) and of the request unit (R77, R78,
R83): each acts at its time, and before it changes nothing. -/

namespace Sys2Proof.Machine

/-- A row that acts under a condition acts where it holds. -/
theorem next_pos {c : Prop} [Decidable c] (h : c) (a s : State) :
    (Host.Outcome.next (if c then a else s) : Host.Outcome State Fault Refusal) = .next a := by rw [if_pos h]

/-- A row that acts under a condition changes nothing where it fails. -/
theorem next_neg {c : Prop} [Decidable c] (h : ¬ c) (a s : State) :
    (Host.Outcome.next (if c then a else s) : Host.Outcome State Fault Refusal) = .next s := by rw [if_neg h]

/-! ## Holdover, link and window (R104, R168, R172) -/

/-- Settles O28: each of the three rows is its cause and its writes. -/
theorem holdoverLinkAndWindowExpiries : Obligations.HoldoverLinkAndWindowExpiries := by
  intro s
  have started := NodeState.started_iff s.port.nodeState
  refine ⟨fun align spent => next_pos ⟨align, spent⟩ _ s, fun h => next_neg (by grind) _ s, fun node run lost => ?_,
    fun h => ?_, fun node full => ?_, fun h => ?_⟩
  · exact next_pos (by simp [started.mpr node, run, lost]) _ s
  · refine next_neg ?_ _ s
    simp only [Bool.and_eq_true, started, decide_eq_true_eq, Bool.not_eq_true']
    rintro ⟨⟨node, run⟩, lost⟩
    simp [node, run, lost] at h
  · exact next_pos (by simp [started.mpr node, full]) _ s
  · refine next_neg ?_ _ s
    simp only [Bool.and_eq_true, started, decide_eq_true_eq]
    rintro ⟨node, full⟩
    rcases h with h | h
    · exact node h
    · omega

/-! ## The schedules of PRESENCE and PATTERN frames (R159, R175, R186) -/

/-- R157: a PRESENCE is absorbed by one that waits. -/
theorem State.send_presence_absorbed (s : State) (h : ∃ f ∈ s.chan.txQueue, f.body = .presence) :
    s.send .presence = s := by
  have waits : s.chan.txQueue.any (fun g => decide (g.body = .presence)) = true := by simpa using h
  simp only [State.send, State.place, State.placeWith, State.placeBy, waits, and_self, if_true, ite_self]

/-- R157: outside TEST a PRESENCE with none waiting and room in the queue waits at its end. -/
theorem State.send_presence_room (s : State) (node : s.port.nodeState ≠ .test)
    (none : ∀ f ∈ s.chan.txQueue, f.body ≠ .presence) (room : s.chan.txQueue.length < 8) :
    (s.send .presence).chan.txQueue = s.chan.txQueue ++ [{ body := .presence, ofRequest := false }] := by
  have noWait : s.chan.txQueue.any (fun g => decide (g.body = .presence)) = false := by simpa using none
  have entered : s.send .presence = s.enterQueue { body := .presence, ofRequest := false } := by
    simp [State.send, State.place, State.placeWith, State.placeBy, node, noWait, room]
  obtain ⟨k, e, queued⟩ := State.enterQueue_eq { body := .presence, ofRequest := false } s
  rw [entered, queued]

theorem State.presenceAt_eq (due : Nat) (s : State) :
    s.presenceAt due = { s.send .presence with chan := { (s.send .presence).chan with
      backoff := backoffStep s.chan.backoff,
      presenceDue := some (due + s.chan.presencePeriod + (backoffStep s.chan.backoff).toNat % 16) } } := by
  have chan := (State.send_queue .presence s).chan
  have backoff : (s.send .presence).chan.backoff = s.chan.backoff := by rw [chan]
  have period : (s.send .presence).chan.presencePeriod = s.chan.presencePeriod := by rw [chan]
  simp only [State.presenceAt, State.draw, State.mapChan, backoff, period] <;> rfl

theorem presenceSchedule : PresenceSchedule := by
  intro s
  refine ⟨fun node ended => ?_, fun h => next_neg (by grind) _ s, fun d due node reached => ?_, fun h => ?_,
    State.send_presence_room s, State.send_presence_absorbed s⟩
  · rw [presenceStarted_eq, withFlag_eq]
    exact next_pos ⟨node, ended⟩ _ s
  · rw [← State.presenceAt_eq]
    change execPresenceDue s = _
    simp only [execPresenceDue, due, node, reached, true_and, if_true]
  · change execPresenceDue s = _
    rw [execPresenceDue]
    split
    · next d due =>
      refine next_neg ?_ _ s
      rintro ⟨node, reached⟩
      rcases h with h | h
      · exact h node
      · have := h d due
        omega
    · rfl

theorem State.patternWaits_eq (s : State) : s.patternWaits = s.chan.txQueue.any isPattern := by
  refine congrArg s.chan.txQueue.any (funext fun f => ?_)
  rcases f with ⟨body, _⟩
  cases body <;> rfl

theorem patternSchedule : PatternSchedule := by
  have row (s : State) : exec .patternDue s = execPatternDue s := rfl
  refine ⟨fun s h => ?_, fun s d node due => ⟨fun early => ?_, fun reached waits => ?_, fun reached free room => ?_⟩⟩
  · rw [row, execPatternDue]
    split
    · next d due => exact next_neg (by rintro ⟨node, _⟩; simp [node, due] at h) _ s
    · rfl
  · simp only [row, execPatternDue, due]
    exact next_neg (by omega) _ s
  · have waits' : (s.mapLink fun l => { l with patternDue := some (d + 10) }).patternWaits = true :=
      (State.patternWaits_eq _).trans waits
    simp only [row, execPatternDue, due, node, reached, and_self, waits', if_true]
    rfl
  · have free' : (s.mapLink fun l => { l with patternDue := some (d + 10) }).patternWaits = false :=
      (State.patternWaits_eq _).trans free
    obtain ⟨k, e, sent⟩ := State.send_room (.pattern (patternBytes 32 s.link.sendGen) s.link.sendSeq)
      ((s.mapLink fun l => { l with patternDue := some (d + 10) }).mapLink fun l =>
        { l with sendGen := patternSteps 256 l.sendGen, sendSeq := l.sendSeq + 1,
                 record := { l.record with patternsSent := inc16 l.record.patternsSent } }) room (fun _ => rfl) (by simp)
    refine ⟨(s.mapLink fun l => { l with patternDue := some (d + 10) }).placePattern, ?_, ?_⟩
    · simp only [row, execPatternDue, due, node, reached, and_self, free', if_true]
      rfl
    · rw [State.placePattern]
      simp only [State.mapLink_link] at sent ⊢
      rw [sent]
      exact ⟨rfl, rfl, rfl, rfl, by simp [SameOutsidePlayer]⟩

/-- Settles O29. -/
theorem presenceAndPatternSchedules : Obligations.PresenceAndPatternSchedules := ⟨presenceSchedule, patternSchedule⟩

end Sys2Proof.Machine
end

section
/-! The schedules of the phase unit and the referee unit (R130, R136, R138), the pending mark (R120, R121), and the timers
and misses of the request unit (R77, R78, R83). -/

namespace Sys2Proof.Machine

/-! ## Copies at their due times -/

/-- R130: whether a due HALT is placed. -/
theorem State.placeHalt_placed (s : State) (sends : s.port.nodeState = .running ∨ s.port.nodeState = .test)
    (none : ∀ f ∈ s.chan.txQueue, f.body ≠ .halt) : s.placeHalt = s.send .halt := by
  have noHalt : s.chan.txQueue.any (fun f => decide (f.body = .halt)) = false := by simpa using none
  have sending : s.port.nodeState.sends = true := by rcases sends with h | h <;> rw [h] <;> rfl
  simp [State.placeHalt, noHalt, sending]

theorem State.placeHalt_kept (s : State) (h : s.port.nodeState = .config ∨ s.port.nodeState = .listening ∨
    ∃ f ∈ s.chan.txQueue, f.body = .halt) : s.placeHalt = s := by
  rw [State.placeHalt, if_neg]
  rcases h with h | h | ⟨f, member, halt⟩
  · simp [h, NodeState.sends]
  · simp [h, NodeState.sends]
  · simp only [Bool.and_eq_true, Bool.not_eq_true', List.any_eq_false, decide_eq_true_eq]
    exact fun ⟨_, clear⟩ => clear f member halt

theorem State.placeHalt_player (s : State) : SameOutsidePlayer s s.placeHalt := by
  unfold State.placeHalt
  split
  · exact State.send_player ..
  · exact .refl s

/-- A frame that the node may send in TEST, other than a PRESENCE, sent with room in the queue: it waits at the end, and the
port and the requests are kept. -/
theorem State.send_copy (b : TxBody) (s : State) (room : s.chan.txQueue.length < 8) (allowed : b.barredInTest = false)
    (other : b ≠ .presence) : (s.send b).chan.txQueue = s.chan.txQueue ++ [{ body := b, ofRequest := false }] ∧
      (s.send b).req = s.req ∧ (s.send b).port = s.port := by
  obtain ⟨k, e, sent⟩ := State.send_room b s room (fun _ => allowed) other
  rw [sent]
  exact ⟨rfl, rfl, rfl⟩

theorem MarkSchedule.next_eq (m : MarkSchedule) (h : 1 ≤ m.copies) :
    m.next = if m.copies = 1 then none else some { m with copies := m.copies - 1, due := m.due + 20 } :=
  ite_of_iff (by omega) rfl rfl

theorem OrderSchedule.next_eq (o : OrderSchedule) (h : 1 ≤ o.copies) :
    o.next = if o.copies = 1 then none else some { o with copies := o.copies - 1, due := o.due + 20 } :=
  ite_of_iff (by omega) rfl rfl

/-- Settles O30: a due copy moves its schedule on and sends one frame. -/
theorem copiesAreSentAtTheirDueTimes : Obligations.CopiesAreSentAtTheirDueTimes := by
  intro s
  refine ⟨fun d due => ?halt, fun m marks copies => ?mark, fun o orders copies urgency allowed => ?order⟩
  case halt =>
    have row : exec .haltDue s = .next (if d ≤ s.localMs then
        (s.mapPhase fun u => { u with haltDue := some (d + 20) }).placeHalt else s) := by
      change execHaltDue s = _
      simp only [execHaltDue, due]
    rw [row]
    refine ⟨fun early => next_neg (by omega) _ s, fun reached kept => ?_, fun reached => ?_⟩
    · rw [if_pos reached]
      exact congrArg Host.Outcome.next
        (State.placeHalt_kept (s.mapPhase fun u => { u with haltDue := some (d + 20) }) kept)
    · refine ⟨_, next_pos reached _ s, State.placeHalt_player _, fun sends none room => ?_⟩
      rw [State.placeHalt_placed (s.mapPhase fun u => { u with haltDue := some (d + 20) }) sends none]
      exact State.send_copy .halt (s.mapPhase fun u => { u with haltDue := some (d + 20) }) room rfl (by simp)
  case mark =>
    have row : exec .markCopyDue s = .next (if 1 ≤ m.copies ∧ m.due ≤ s.localMs then
        (s.mapRef fun u => { u with marks := m.next }).send (.mark m.seq m.phase m.carried) else s) := by
      change execMarkCopyDue s = _
      simp only [execMarkCopyDue, marks]
    rw [row, ← MarkSchedule.next_eq m copies]
    exact ⟨fun early => next_neg (by omega) _ s, fun reached => ⟨_, next_pos ⟨copies, reached⟩ _ s, State.send_player ..,
      fun room => State.send_copy _ (s.mapRef fun u => { u with marks := m.next }) room rfl (by simp)⟩⟩
  case order =>
    have row : exec .orderCopyDue s = .next (if 1 ≤ o.copies ∧ o.due ≤ s.localMs then
        (s.mapRef fun u => { u with orders := o.next }).send o.frame else s) := by
      change execOrderCopyDue s = _
      simp only [execOrderCopyDue, orders]
    have other : o.frame ≠ .presence := by
      intro presence
      simp [presence, TxBody.urgency] at urgency
    rw [row, ← OrderSchedule.next_eq o copies]
    exact ⟨fun early => next_neg (by omega) _ s, fun reached => ⟨_, next_pos ⟨copies, reached⟩ _ s, State.send_player ..,
      fun room => State.send_copy _ (s.mapRef fun u => { u with orders := o.next }) room allowed other⟩⟩

/-! ## The pending mark (R120, R121) -/

theorem State.testPending_none (s : State) (h : s.phase.pending = none) : s.testPending = s := by
  rw [State.testPending, h]

theorem State.testPending_early (s : State) {m : PendingMark} (h : s.phase.pending = some m)
    (early : s.time.ft < m.boundary) : s.testPending = s := by
  simp only [State.testPending, h, if_pos early]

theorem State.testPending_refused (s : State) {m : PendingMark} (h : s.phase.pending = some m)
    (reached : m.boundary ≤ s.time.ft) (ended : s.phase.phase = .ended) (other : m.phase ≠ .prematch) :
    s.testPending = (s.mapPhase fun u => { u with pending := none }).countMarkIgnore := by
  simp [State.testPending, h, Nat.not_lt.mpr reached, allowedIn, ended, other]

theorem State.testPending_applied (s : State) {m : PendingMark} (h : s.phase.pending = some m)
    (reached : m.boundary ≤ s.time.ft) (allowed : s.phase.phase ≠ .ended ∨ m.phase = .prematch) :
    s.testPending = s.applyMark m.seq m.phase (some m.carried) := by
  simp [State.testPending, h, Nat.not_lt.mpr reached, allowedIn, allowed]

/-- Settles O31: the row is `State.testPending` in a started node. -/
theorem pendingMarkIsApplied : Obligations.PendingMarkIsApplied := by
  intro s
  have started := NodeState.started_iff s.port.nodeState
  have row : exec .markBoundaryReached s = .next (if s.port.nodeState.isStarted then s.testPending else s) := rfl
  rw [row]
  refine ⟨fun none => ?_, fun m pending => ⟨fun h => ?_, fun node reached => ?_⟩⟩
  · rw [s.testPending_none none, ite_self]
  · rcases h with config | early
    · exact next_neg (fun h => started.mp h config) _ s
    · rw [s.testPending_early pending early, ite_self]
  · rw [if_pos (started.mpr node)]
    refine ⟨fun ended other => ?_, fun allowed => ⟨_, rfl, ?_⟩⟩
    · rw [s.testPending_refused pending reached ended other]
      rfl
    · rw [s.testPending_applied pending reached allowed]
      exact State.applyMark_applied ..

/-! ## The timers of the request unit -/

theorem lastMiss_eq (r : Request) (s : State) : lastMiss r s = s.finalMiss r := by
  unfold lastMiss State.finalMiss
  rcases r.state with _ | _ | _ | _ <;> simp only [closed_eq] <;> rfl

theorem answerWaitMisses : AnswerWaitMisses := by
  intro s e r d frame found deadline waits
  have row : exec (.answerWaitMiss e) s = .next (if d ≤ s.localMs then s.miss r frame else s) := by
    change execAnswerWaitMiss e s = _
    simp only [execAnswerWaitMiss, found, deadline, waits]
  have is := State.request_element found
  rw [row]
  refine ⟨fun early => next_neg (by omega) _ s, fun reached => ?_⟩
  rw [if_pos reached, State.miss, State.missWith, is, lastMiss_eq]
  refine ⟨fun seated settled => ?_, fun open_ => ⟨fun tries => ?_, fun none => ?_⟩⟩
  · rw [if_pos ⟨seated, settled⟩]
    rfl
  · have notSettled : ¬ (r.state = .seated ∧ r.renewPending = false) := by
      rintro ⟨seated, settled⟩
      simp [seated, settled] at open_
    rw [if_neg notSettled, if_pos tries]
    rfl
  · have notSettled : ¬ (r.state = .seated ∧ r.renewPending = false) := by
      rintro ⟨seated, settled⟩
      simp [seated, settled] at open_
    rw [if_neg notSettled, if_neg (by omega)]

theorem requestTimers : RequestTimers := by
  intro s e
  have miss : exec (.answerWaitMiss e) s = execAnswerWaitMiss e s := rfl
  have refresh : exec (.refreshDue e) s = execRefreshDue e s := rfl
  have hold : exec (.holdCountdownExpiry e) s = execHoldCountdownExpiry e s := rfl
  have margin : exec (.marginExpiry e) s = execMarginExpiry e s := rfl
  simp only [miss, refresh, hold, margin, execAnswerWaitMiss, execRefreshDue, execHoldCountdownExpiry, execMarginExpiry]
  refine ⟨fun none => by simp only [none, and_self], fun r found => ?_⟩
  simp only [found, closed_eq]
  refine ⟨fun h => ?_, fun d due waiting reached => ?_, fun h => ?_, fun seated spent first => ?_, fun h => ?_,
    fun seated spent => ?_, fun h => ?_⟩
  · rcases h with h | h
    · simp only [h]
    · rw [h]
      cases r.deadline <;> rfl
  · simp only [due, waiting, reached, and_self, if_true]
    rfl
  · split
    · next d due =>
      refine next_neg ?_ _ s
      rintro ⟨waiting, reached⟩
      rcases h with h | h
      · exact h waiting
      · have := h d due
        omega
    · rfl
  · exact next_pos ⟨seated, spent, first⟩ _ s
  · exact next_neg (by grind) _ s
  · exact next_pos ⟨seated, spent⟩ _ s
  · exact next_neg (by grind) _ s

/-- Settles O26, by the rows of the request unit. -/
theorem requestTimersAndMisses : Obligations.RequestTimersAndMisses := ⟨answerWaitMisses, requestTimers⟩

end Sys2Proof.Machine
end

section
/-! Marks as the phase unit judges them (R117 to R121), and SEND_MARK (R134, R135). -/

namespace Sys2Proof.Machine

/-! ## The rebuilt boundary (R119) -/

/-- The nearer of two field times, of two equally near the second. -/
def nearer (ft best c : Nat) : Nat := if distance c ft ≤ distance best ft then c else best

/-- Of rising candidates the fold keeps the nearest, of those equally near the latest. -/
theorem foldl_nearer (ft : Nat) (l : List Nat) (first : Nat) (rising : (first :: l).Pairwise (· ≤ ·)) :
    l.foldl (nearer ft) first ∈ first :: l ∧ ∀ c ∈ first :: l,
      distance (l.foldl (nearer ft) first) ft ≤ distance c ft ∧
        (distance (l.foldl (nearer ft) first) ft = distance c ft → c ≤ l.foldl (nearer ft) first) := by
  induction l generalizing first with
  | nil => simp
  | cons d rest ih =>
    simp only [List.pairwise_cons, List.mem_cons, forall_eq_or_imp] at rising
    obtain ⟨⟨firstLe, firstAll⟩, dAll, restRising⟩ := rising
    rw [List.foldl_cons]
    by_cases closer : distance d ft ≤ distance first ft
    · have keeps : nearer ft first d = d := if_pos closer
      obtain ⟨member, least⟩ := ih d (List.pairwise_cons.mpr ⟨dAll, restRising⟩)
      rw [keeps]
      refine ⟨List.mem_cons_of_mem _ member, fun c hc => ?_⟩
      rcases List.mem_cons.mp hc with rfl | hc
      · have := least d (by simp)
        omega
      · exact least c hc
    · have keeps : nearer ft first d = first := if_neg closer
      obtain ⟨member, least⟩ := ih first (List.pairwise_cons.mpr ⟨firstAll, restRising⟩)
      rw [keeps]
      refine ⟨by simp only [List.mem_cons] at member ⊢; grind, fun c hc => ?_⟩
      rcases List.mem_cons.mp hc with rfl | hc
      · exact least c (by simp)
      · rcases List.mem_cons.mp hc with rfl | hc
        · have := least first (by simp)
          omega
        · exact least c (List.mem_cons_of_mem _ hc)

/-- The candidates of R119: the value of FT's own 2^32 and those of its neighbours that lie within 40 bits. -/
def Candidate (same c : Nat) : Prop :=
  c = same ∨ (2 ^ 32 ≤ same ∧ c = same - 2 ^ 32) ∨ (same + 2 ^ 32 ≤ ftMax ∧ c = same + 2 ^ 32)

theorem rebuildBoundary_nearest (ft : Nat) (carried : Quad) :
    Candidate (ft / 2 ^ 32 * 2 ^ 32 + carried.toNat) (rebuildBoundary ft carried) ∧
      ∀ c, Candidate (ft / 2 ^ 32 * 2 ^ 32 + carried.toNat) c →
        distance (rebuildBoundary ft carried) ft ≤ distance c ft ∧
          (distance (rebuildBoundary ft carried) ft = distance c ft → c ≤ rebuildBoundary ft carried) := by
  have folds : rebuildBoundary ft carried =
      let same := ft / 2 ^ 32 * 2 ^ 32 + carried.toNat
      ((if 2 ^ 32 ≤ same then [same - 2 ^ 32] else []) ++ [same] ++
        (if same + 2 ^ 32 ≤ ftMax then [same + 2 ^ 32] else [])).foldl (nearer ft)
        (if 2 ^ 32 ≤ same then same - 2 ^ 32 else same) := rfl
  rw [folds]
  generalize ft / 2 ^ 32 * 2 ^ 32 + carried.toNat = same
  have width : ∃ w, w = 2 ^ 32 := ⟨_, rfl⟩
  obtain ⟨w, hw⟩ := width
  unfold Candidate
  rw [← hw]
  have candidates (c : Nat) : c ∈ (if w ≤ same then same - w else same) ::
      ((if w ≤ same then [same - w] else []) ++ [same] ++ (if same + w ≤ ftMax then [same + w] else [])) ↔
        c = same ∨ (w ≤ same ∧ c = same - w) ∨ (same + w ≤ ftMax ∧ c = same + w) := by
    by_cases below : w ≤ same <;> by_cases above : same + w ≤ ftMax <;> simp [below, above] <;> omega
  have spec := foldl_nearer ft
    ((if w ≤ same then [same - w] else []) ++ [same] ++ (if same + w ≤ ftMax then [same + w] else []))
    (if w ≤ same then same - w else same) (by split <;> split <;> simp <;> omega)
  exact ⟨(candidates _).mp spec.1, fun c hc => spec.2 c ((candidates c).mpr hc)⟩

theorem boundaryIsTheNearest : BoundaryIsTheNearest := by
  intro ft carried bound
  have low := carried.isLt
  have top : ftMax = 1099511627775 := rfl
  obtain ⟨is, least⟩ := rebuildBoundary_nearest ft carried
  dsimp only
  generalize rebuildBoundary ft carried = b at is least ⊢
  generalize carried.toNat = k at is least low ⊢
  obtain own := least _ (.inl rfl)
  have others (c : Nat) (near : _ ∨ _) := least c (.inr near)
  rw [Candidate, top] at is
  rw [top] at others
  refine ⟨by omega, by omega, fun c hc same => ?_⟩
  have place : c = ft / 4294967296 * 4294967296 + k - 4294967296 ∧ 4294967296 ≤ ft / 4294967296 * 4294967296 + k ∨
      c = ft / 4294967296 * 4294967296 + k ∨ c = ft / 4294967296 * 4294967296 + k + 4294967296 ∨
      c + 4294967296 < ft / 4294967296 * 4294967296 + k ∨ ft / 4294967296 * 4294967296 + k + 4294967296 < c := by omega
  rcases place with ⟨h, h'⟩ | h | h | h | h
  · exact others c (by omega)
  · rw [h]
    exact own
  · exact others c (by omega)
  all_goals
    unfold distance at own ⊢
    omega

/-! ## The judgment of a mark (R118) -/

theorem MarkIsNewer_iff (s : State) (seq : Byte) :
    MarkIsNewer s seq ↔ (s.seqNewer seq && s.newerThanPending seq) = true := by
  have fresh : (if s.phase.fresh then seq ≠ 0 else newer seq s.phase.seq = true) ↔ s.seqNewer seq = true := by
    unfold State.seqNewer
    split <;> simp
  have pending : (∀ m, s.phase.pending = some m → newer seq m.seq = true) ↔ s.newerThanPending seq = true := by
    unfold State.newerThanPending
    rcases s.phase.pending with _ | m <;> simp
  rw [MarkIsNewer, fresh, pending, Bool.and_eq_true]

theorem State.judgeMark_newer {seq : Byte} (new : Phase) (carried : Quad) {s : State} (h : MarkIsNewer s seq) :
    s.judgeMark seq new carried = s.takeMark seq new carried := if_pos ((MarkIsNewer_iff s seq).mp h)

theorem State.judgeMark_ofPending {seq : Byte} (new : Phase) (carried : Quad) {s : State} (h : ¬ MarkIsNewer s seq)
    {m : PendingMark} (pending : s.phase.pending = some m) (same : seq = m.seq) :
    s.judgeMark seq new carried = if new = m.phase ∧ carried = m.carried then s else s.markConflict := by
  rw [State.judgeMark, if_neg fun k => h ((MarkIsNewer_iff s seq).mpr k), pending]
  exact if_pos same

theorem State.judgeMark_ofCurrent {seq : Byte} (new : Phase) (carried : Quad) {s : State} (h : ¬ MarkIsNewer s seq)
    (other : ∀ m, s.phase.pending = some m → seq ≠ m.seq) :
    s.judgeMark seq new carried = s.judgeCurrent seq new carried := by
  rw [State.judgeMark, if_neg fun k => h ((MarkIsNewer_iff s seq).mpr k)]
  split
  · next m pending => exact if_neg (other m pending)
  · rfl

theorem State.takeMark_waits (seq : Byte) (new : Phase) (carried : Quad) (s : State)
    (early : s.time.ft < rebuildBoundary s.time.ft carried) :
    s.takeMark seq new carried = s.mapPhase fun u => { u with pending := some {
      seq := seq, phase := new, boundary := rebuildBoundary s.time.ft carried, carried := carried } } :=
  State.testPending_early _ rfl early

/-- R121: a mark applied empties the slot of the pending mark, so that what stood there does not matter. -/
theorem State.applyMark_pending (seq : Byte) (new : Phase) (carried : Option Quad) (p : Option PendingMark) (s : State) :
    (s.mapPhase fun u => { u with pending := p }).applyMark seq new carried = s.applyMark seq new carried := rfl

theorem State.takeMark_applied (seq : Byte) (new : Phase) (carried : Quad) (s : State)
    (reached : rebuildBoundary s.time.ft carried ≤ s.time.ft) (allowed : s.phase.phase ≠ .ended ∨ new = .prematch) :
    s.takeMark seq new carried = s.applyMark seq new (some carried) :=
  State.testPending_applied (s.mapPhase fun u => { u with pending := some {
    seq := seq, phase := new, boundary := rebuildBoundary s.time.ft carried, carried := carried } }) rfl reached allowed

theorem State.takeMark_refused (seq : Byte) (new : Phase) (carried : Quad) (s : State)
    (reached : rebuildBoundary s.time.ft carried ≤ s.time.ft) (ended : s.phase.phase = .ended) (other : new ≠ .prematch) :
    s.takeMark seq new carried = (s.mapPhase fun u => { u with pending := none }).countMarkIgnore :=
  State.testPending_refused (s.mapPhase fun u => { u with pending := some {
    seq := seq, phase := new, boundary := rebuildBoundary s.time.ft carried, carried := carried } }) rfl reached ended other

/-! ## The judgment against the current mark (R118) -/

theorem State.judgeCurrent_ignored {seq : Byte} (new : Phase) (carried : Quad) {s : State} (other : seq ≠ s.phase.seq) :
    s.judgeCurrent seq new carried = s.countMarkIgnore := if_neg other

theorem State.judgeCurrent_repeated {seq : Byte} {new : Phase} {carried : Quad} {s : State} (same : seq = s.phase.seq)
    (repeats : new = s.phase.currentPhase ∧ (s.phase.currentCarried = none ∨ s.phase.currentCarried = some carried)) :
    s.judgeCurrent seq new carried = s := (if_pos same).trans (if_pos repeats)

theorem State.judgeCurrent_conflict {seq : Byte} {new : Phase} {carried : Quad} {s : State} (same : seq = s.phase.seq)
    (changed : ¬ (new = s.phase.currentPhase ∧
      (s.phase.currentCarried = none ∨ s.phase.currentCarried = some carried))) :
    s.judgeCurrent seq new carried = s.markConflict := (if_pos same).trans (if_neg changed)

end Sys2Proof.Machine
end

section
/-! The referee's commands (R134, R135, R137, R139) and the line test commands (R173, R174, R178). -/

namespace Sys2Proof.Machine

/-! ## Commands that a referee's node takes -/

/-- A command that leaves a state which differs from the named one in the command block alone. -/
theorem leaves_of_same {s : State} {c : Instr} {code : Byte} {args : List Byte} {act : State → Completion}
    (run : exec c s = .next (s.command code args act)) (token : s.port.token = 0) {w t : State} {reply : List Byte}
    (h : act (s.handOver code args) = done t reply) (outside : SameOutsidePort w t) (port : SamePort w t)
    (flags : t.port.flags = w.port.flags) : Leaves s c w reply := by
  obtain ⟨u, ran, shows, uOutside, uPort, uDone⟩ := leaves_of run token h
  refine ⟨u, ran, shows, ?_, ?_, ?_⟩
  · simp only [SameOutsidePort] at *
    simp_all
  · simp only [SamePort] at *
    simp_all
  · rw [OnlyDone, uDone, flags]

theorem State.refereeSends_eq (s : State) :
    ((!s.refereeSends) = true) = (s.port.nodeState = .config ∨ s.port.nodeState = .listening) := by
  rw [State.refereeSends]
  cases s.port.nodeState <;> simp [NodeState.sends]

theorem State.noReferee_eq (s : State) : ((!s.isReferee) = true) = (s.port.cfg.role ≠ 2) := by
  simp [State.isReferee_eq]

/-! ## SEND_MARK (R134, R135) -/

theorem phaseOfCode_code (p : Phase) : phaseOfCode p.code.toNat = some p := by cases p <;> rfl

theorem phaseOfCode_none (c : Nat) : phaseOfCode c = none ↔ 5 < c := by
  match c with
  | 0 | 1 | 2 | 3 | 4 | 5 => simp [phaseOfCode]
  | _ + 6 => simp [phaseOfCode]

theorem Phase.code_zero (p : Phase) : p.code = 0 ↔ p = .prematch := by cases p <;> decide

/-- A code that names a phase is that phase's code. -/
theorem phaseOfCode_some {c : Byte} {p : Phase} : phaseOfCode c.toNat = some p ↔ p.code = c := by
  cases p <;> revert c <;> decide

/-- SEND_MARK with a phase code, as the check and the mark taken. -/
theorem sendMarkAct_refused (phase : Byte) (lead : Half) (s : State) {r : ResultCode} (check : markCheck s phase = some r) :
    sendMarkAct phase lead s = refuse r s := by
  rw [sendMarkAct]
  simp only [State.noReferee_eq, State.refereeSends_eq]
  rw [markCheck] at check
  rcases named : phaseOfCode phase.toNat with _ | new
  · have above := (phaseOfCode_none _).mp named
    rw [if_pos above] at check
    repeat' split at check
    all_goals simp_all
  · have within : ¬ 5 < phase.toNat := fun h => by simp [(phaseOfCode_none _).mpr h] at named
    have zero : new ≠ .prematch ↔ phase ≠ 0 := by
      rw [← phaseOfCode_some.mp named]
      exact (not_congr (Phase.code_zero new)).symm
    rw [if_neg within] at check
    simp only [zero]
    repeat' split at check
    all_goals simp_all

theorem sendMarkAct_taken (phase : Byte) (lead : Half) (s : State) {new : Phase} (check : markCheck s phase = none)
    (named : new.code = phase) : sendMarkAct phase lead s = s.takeSendMark new lead := by
  have zero : new ≠ .prematch ↔ phase ≠ 0 := by
    rw [← named]
    exact (not_congr (Phase.code_zero new)).symm
  rw [markCheck] at check
  rw [sendMarkAct]
  simp only [State.noReferee_eq, State.refereeSends_eq, phaseOfCode_some.mpr named, zero]
  repeat' split at check
  all_goals simp_all

theorem State.judgeMark_mark (seq : Byte) (new : Phase) (carried : Quad) (s : State) :
    SameOutsideMark s (s.judgeMark seq new carried) := by
  have conflict : SameOutsideMark s s.markConflict := (State.mapPhase_mark _ s).trans (State.setFlag_mark ..)
  have current : SameOutsideMark s (s.judgeCurrent seq new carried) := by
    unfold State.judgeCurrent
    split
    · split
      · exact .refl s
      · exact conflict
    · exact State.mapPhase_mark ..
  unfold State.judgeMark
  split
  · exact (State.mapPhase_mark _ s).trans (State.testPending_mark _)
  · split
    · split
      · split
        · exact .refl s
        · exact conflict
      · exact current
    · exact current

/-- A boundary that lies at most 5 s ahead is rebuilt from its low 32 bits. -/
theorem rebuildBoundary_ahead (ft b : Nat) (from_ : ft ≤ b) (near : b ≤ ft + 5000000) (top : b ≤ 2 ^ 40 - 1) :
    rebuildBoundary ft (BitVec.ofNat 32 b) = b := by
  obtain ⟨low, -, least⟩ := boundaryIsTheNearest ft (BitVec.ofNat 32 b) (by omega)
  obtain ⟨nearest, -⟩ := least b top (BitVec.toNat_ofNat ..).symm
  rw [BitVec.toNat_ofNat] at low
  unfold distance at nearest
  omega

theorem ne_succ (x : Byte) : x + 1 ≠ x := by
  intro h
  bv_omega

/-- R135 step 1: the seq of a new mark is neither the pending mark's, nor, without one pending, the node's. -/
theorem State.nextMarkSeq_pending (s : State) {m : PendingMark} (h : s.phase.pending = some m) : s.nextMarkSeq ≠ m.seq := by
  rw [State.nextMarkSeq, h]
  exact ne_succ _

/-- R134 check 5: a mark that is taken is allowed in the present phase. -/
theorem markCheck_allowed {s : State} {phase : Byte} {new : Phase} (check : markCheck s phase = none)
    (named : new.code = phase) : s.phase.phase ≠ .ended ∨ new = .prematch := by
  refine Classical.byContradiction fun h => ?_
  obtain ⟨ended, other⟩ := not_or.mp h
  have nonzero : phase ≠ 0 := named ▸ (not_congr (Phase.code_zero new)).mpr other
  simp only [markCheck, Classical.not_not.mp ended, nonzero, ne_eq, not_false_eq_true, and_self, if_true] at check
  repeat' split at check
  all_goals cases check

/-- Settles O8: SEND_MARK is its check; a taken one is judged by the own phase unit and sent. -/
theorem sendMarkBuildsTheMark : Obligations.SendMarkBuildsTheMark := by
  intro s phase lead new token
  refine ⟨fun r check => isRefused_of rfl token (sendMarkAct_refused phase lead (s.handOver ..) check),
    fun check named bound => ?_⟩
  intro seq boundary carried h
  have boundaryIs : rebuildBoundary h.time.ft carried = boundary :=
    rebuildBoundary_ahead s.time.ft boundary (by omega) (by omega) (by omega)
  have taken : sendMarkAct phase lead h = h.takeSendMark new lead := sendMarkAct_taken phase lead h check named
  have judged (old : ¬ MarkIsNewer s seq) : h.judgeMark seq new carried = h.judgeCurrent seq new carried :=
    State.judgeMark_ofCurrent new carried (s := h) old fun m pending => h.nextMarkSeq_pending pending
  refine ⟨h.judgeMark seq new carried, leaves_of rfl token (taken.trans ?_), fun room => ?_, fun newer early => ?_,
    fun newer reached => ?_, fun old other => ?_, fun old same => ⟨fun repeated => ?_, fun changed => ?_⟩⟩
  · have ref : ((h.judgeMark seq new carried).send (.mark seq new carried)).ref = s.ref :=
      (State.send_ref ..).trans (State.judgeMark_mark seq new carried h).ref
    dsimp only
    rw [← ref]
    rfl
  · exact (State.send_copy _ _ room rfl (by simp)).1
  · rw [State.judgeMark_newer new carried (s := h) newer,
      State.takeMark_waits seq new carried h (boundaryIs.symm ▸ early), boundaryIs]
    rfl
  · rw [State.judgeMark_newer new carried (s := h) newer,
      State.takeMark_applied seq new carried h (boundaryIs.symm ▸ reached) (markCheck_allowed check named)]
    exact State.applyMark_applied ..
  · exact (judged old).trans (State.judgeCurrent_ignored new carried (s := h) other)
  · exact (judged old).trans (State.judgeCurrent_repeated (s := h) same repeated)
  · exact (judged old).trans (State.judgeCurrent_conflict (s := h) same changed)

/-! ## SEND_SANCTION and SEND_TURN (R137) -/

theorem sanctionKindOfCode_none (c : Nat) : sanctionKindOfCode c = none ↔ c < 1 ∨ 3 < c := by
  match c with
  | 0 | 1 | 2 | 3 => simp [sanctionKindOfCode]
  | _ + 4 => simp [sanctionKindOfCode]

theorem sanctionKindOfCode_code (k : SanctionKind) : sanctionKindOfCode k.code.toNat = some k := by cases k <;> rfl

theorem orderCheck_eq (s : State) (bad : Bool) :
    orderCheck s bad = if s.port.cfg.role ≠ 2 then some .wrongRole
      else if s.port.nodeState = .config ∨ s.port.nodeState = .listening then some .wrongState
      else if bad = true then some .badArgument else if s.orderBusy = true then some .wrongState else none := by
  rw [orderCheck, State.orderBusy]
  rcases s.ref.orders with _ | o
  · simp
  · simp only [decide_eq_true_eq]

theorem sendSanctionAct_refused (player kind : Byte) (d : Half) (s : State) {r : ResultCode}
    (check : orderCheck s (decide (63 < player.toNat ∨ kind.toNat < 1 ∨ 3 < kind.toNat)) = some r) :
    sendSanctionAct player kind d s = refuse r s := by
  rw [orderCheck_eq] at check
  rw [sendSanctionAct]
  simp only [State.noReferee_eq, State.refereeSends_eq, decide_eq_true_eq, ← sanctionKindOfCode_none] at check ⊢
  rcases named : sanctionKindOfCode kind.toNat with _ | k <;> simp only [named] at check <;> repeat' split at check
  all_goals simp_all <;> exact fun above => absurd above (by omega)

theorem sendSanctionAct_taken (player : Byte) (kind : SanctionKind) (d : Half) (s : State)
    (check : orderCheck s (decide (63 < player.toNat)) = none) :
    sendSanctionAct player kind.code d s =
      done (s.takeOrder fun seq => .sanction seq (player.setWidth 6) kind (sentDuration kind d))
        ((s.ref.orderSeq + 1) :: bytesOf 2 (sentDuration kind d).toNat) := by
  rw [orderCheck_eq] at check
  rw [sendSanctionAct]
  simp only [State.noReferee_eq, State.refereeSends_eq, decide_eq_true_eq, sanctionKindOfCode_code] at check ⊢
  repeat' split at check
  all_goals simp_all <;> exact fun above => absurd above (by omega)

theorem sendTurnAct_refused (element player : Byte) (s : State) {r : ResultCode}
    (check : orderCheck s (decide (63 < element.toNat ∨ 63 < player.toNat)) = some r) :
    sendTurnAct element player s = refuse r s := by
  rw [orderCheck_eq] at check
  rw [sendTurnAct]
  simp only [State.noReferee_eq, State.refereeSends_eq, decide_eq_true_eq] at check ⊢
  repeat' split at check
  all_goals simp_all <;> exact fun above => absurd above (by omega)

theorem sendTurnAct_taken (element player : Byte) (s : State)
    (check : orderCheck s (decide (63 < element.toNat ∨ 63 < player.toNat)) = none) :
    sendTurnAct element player s =
      done (s.takeOrder fun seq => .turn seq (element.setWidth 6) (player.setWidth 6)) [s.ref.orderSeq + 1] := by
  rw [orderCheck_eq] at check
  rw [sendTurnAct]
  simp only [State.noReferee_eq, State.refereeSends_eq, decide_eq_true_eq] at check ⊢
  repeat' split at check
  all_goals simp_all <;> exact fun above => absurd above (by omega)

/-- R137: an order taken, as the state it leaves. -/
theorem State.takeOrder_eq (frame : Byte → TxBody) (s : State) :
    s.takeOrder frame = { s.send (frame (s.ref.orderSeq + 1)) with ref := { s.ref with
      orderSeq := s.ref.orderSeq + 1
      orders := some { frame := frame (s.ref.orderSeq + 1), copies := 2, due := s.localMs + 20 } } } := by
  simp only [State.takeOrder, State.mapRef, State.send_ref]

theorem sentDuration_eq (kind : SanctionKind) (d : Half) :
    sentDuration kind d = if kind = .bench then BitVec.ofNat 16 (max 10 (min 600 d.toNat)) else 0 := by
  cases kind <;> rfl

/-- Settles O9: both commands are one check, and what is taken is `State.takeOrder`. -/
theorem sendOrdersRaiseTheOrderSeq : Obligations.SendOrdersRaiseTheOrderSeq := by
  intro s token
  dsimp only
  refine ⟨fun player kind d r check => ?_, fun player kind d check => ?_, fun element player r check => ?_,
    fun element player check => ?_, fun h frame room kind => ?_⟩
  · exact isRefused_of rfl token (sendSanctionAct_refused player kind d (s.handOver ..) check)
  · refine leaves_of rfl token ((sendSanctionAct_taken player kind d (s.handOver ..) check).trans ?_)
    rw [State.takeOrder_eq, sentDuration_eq]
    rfl
  · exact isRefused_of rfl token (sendTurnAct_refused element player (s.handOver ..) check)
  · refine leaves_of rfl token ((sendTurnAct_taken element player (s.handOver ..) check).trans ?_)
    rw [State.takeOrder_eq]
    rfl
  · have order : frame.barredInTest = false ∧ frame ≠ .presence := by
      cases frame <;> simp [TxBody.kindCode, TxBody.barredInTest] at kind ⊢
    exact (State.send_copy frame h room order.1 order.2).1

/-! ## HALT_ON and HALT_OFF (R139) -/

theorem State.haltCommand_noReferee (f : State → State) (s : State) (h : s.port.cfg.role ≠ 2) :
    s.haltCommand f = refuse .wrongRole s := by
  rw [State.haltCommand, if_pos (by rw [State.noReferee_eq]; exact h)]

theorem State.haltCommand_config (f : State → State) (s : State) (role : s.port.cfg.role = 2)
    (h : s.port.nodeState = .config) : s.haltCommand f = refuse .wrongState s := by
  rw [State.haltCommand, if_neg (by rw [State.noReferee_eq]; exact not_not_intro role), if_pos h]

theorem State.haltCommand_taken (f : State → State) (s : State) (role : s.port.cfg.role = 2)
    (h : s.port.nodeState ≠ .config) : s.haltCommand f = done (f s) (haltFlags (f s).phase) := by
  rw [State.haltCommand, if_neg (by rw [State.noReferee_eq]; exact not_not_intro role), if_neg h]
  rfl

/-- R130: halt sending turned on, before the first HALT frame is placed. -/
def State.haltBegun (s : State) : State :=
  withFlagIf (!s.phase.latch) .haltChanged { s with phase := { s.phase with
    haltSending := true
    latch := true
    haltDue := if s.phase.haltDue.isSome then s.phase.haltDue else some (s.localMs + 20) } }

theorem State.haltSendingOn_eq (s : State) (off : s.phase.haltSending = false) :
    s.haltSendingOn = if s.phase.haltDue.isSome then s.haltBegun else s.haltBegun.placeHalt := by
  rcases latched : s.phase.latch with _ | _ <;> rcases due : s.phase.haltDue with _ | d <;>
    simp [State.haltSendingOn, State.haltBegun, off, State.setLatch, State.beginHaltSchedule, withFlagIf, withFlag,
      latched, due, State.mapPhase, State.setFlag, State.mapPort]

theorem State.haltBegun_port (s : State) : s.haltBegun.port.nodeState = s.port.nodeState ∧ s.haltBegun.chan = s.chan := by
  rw [State.haltBegun, withFlagIf_eq]
  split <;> exact ⟨rfl, rfl⟩

/-- R130: whether a HALT_ON that begins the schedule places its first frame. -/
def State.placesFirstHalt (s : State) : Prop :=
  s.phase.haltDue = none ∧ (s.port.nodeState = .running ∨ s.port.nodeState = .test) ∧
    ∀ f ∈ s.chan.txQueue, f.body ≠ .halt

theorem State.haltSendingOn_places {s : State} (off : s.phase.haltSending = false) (h : s.placesFirstHalt) :
    s.haltSendingOn = s.haltBegun.send .halt := by
  obtain ⟨first, sends, clear⟩ := h
  obtain ⟨node, chan⟩ := s.haltBegun_port
  rw [State.haltSendingOn_eq s off, first]
  exact State.placeHalt_placed s.haltBegun (node.symm ▸ sends) fun f member => clear f (chan ▸ member)

theorem State.haltSendingOn_stays {s : State} (off : s.phase.haltSending = false) (h : ¬ s.placesFirstHalt) :
    s.haltSendingOn = s.haltBegun := by
  obtain ⟨node, chan⟩ := s.haltBegun_port
  rw [State.haltSendingOn_eq s off]
  rcases due : s.phase.haltDue with _ | d
  · refine State.placeHalt_kept s.haltBegun ?_
    rw [node, chan]
    refine Classical.byContradiction fun waits => ?_
    simp only [not_or, not_exists, not_and] at waits
    obtain ⟨notConfig, notListening, clear⟩ := waits
    refine h ⟨due, ?_, clear⟩
    cases sends : s.port.nodeState <;> simp_all
  · rfl

theorem State.haltSendingOff_silent {s : State} (silent : s.phase.haltSending = false) : s.haltSendingOff = s :=
  if_neg (by simp [silent])

theorem State.haltSendingOff_sending {s : State} (sending : s.phase.haltSending = true) :
    s.haltSendingOff = { s with phase := { s.phase with
      haltSending := false
      lastHalt := some s.time.ft
      haltDue := if s.phase.stop then s.phase.haltDue else none } } := by
  rw [State.haltSendingOff, if_pos sending]
  rcases stop : s.phase.stop with _ | _ <;>
    simp [State.settleHaltSchedule, State.noteHalt, State.mapPhase, stop]

/-- Settles O10: the table of R139, by the cases of halt sending and of the HALT schedule. -/
theorem haltOnAndHaltOff : Obligations.HaltOnAndHaltOff := by
  intro s token
  refine ⟨fun role => ⟨isRefused_of rfl token (State.haltCommand_noReferee _ (s.handOver ..) role),
      isRefused_of rfl token (State.haltCommand_noReferee _ (s.handOver ..) role)⟩,
    fun role node => ⟨isRefused_of rfl token (State.haltCommand_config _ (s.handOver ..) role node),
      isRefused_of rfl token (State.haltCommand_config _ (s.handOver ..) role node)⟩, fun role node => ?_⟩
  have on : haltOnAct (s.handOver 51 []) = done (s.handOver 51 []).haltSendingOn
      (haltFlags (s.handOver 51 []).haltSendingOn.phase) := State.haltCommand_taken _ (s.handOver ..) role node
  have off : haltOffAct (s.handOver 52 []) = done (s.handOver 52 []).haltSendingOff
      (haltFlags (s.handOver 52 []).haltSendingOff.phase) := State.haltCommand_taken _ (s.handOver ..) role node
  refine ⟨fun sending => ?_, fun silent => ?_, fun silent => ?_, fun sending => ?_⟩
  · have kept : (s.handOver 51 []).haltSendingOn = s.handOver 51 [] := if_pos sending
    exact onlyReads_of rfl token (by rw [on, kept]; rfl)
  · have kept : (s.handOver 52 []).haltSendingOff = s.handOver 52 [] := State.haltSendingOff_silent silent
    exact onlyReads_of rfl token (by rw [off, kept]; rfl)
  · refine ⟨fun places => ⟨leaves_of rfl token ?_, fun room => ?_⟩, fun stays => leaves_of rfl token ?_⟩
    · rw [on, State.haltSendingOn_places (s := s.handOver 51 []) silent places, State.send_phase]
      rfl
    · obtain ⟨-, chan⟩ := (s.handOver 51 []).haltBegun_port
      have copied := (State.send_copy .halt (s.handOver 51 []).haltBegun (chan.symm ▸ room) rfl (by simp)).1
      exact copied.trans (congrArg (fun c : Channel => c.txQueue ++ [{ body := .halt, ofRequest := false }]) chan)
    · rw [on, State.haltSendingOn_stays (s := s.handOver 51 []) silent stays]
      rfl
  · refine ⟨_, exec_handed rfl token, ?_⟩
    rw [off, State.haltSendingOff_sending (s := s.handOver 52 []) sending]
    exact ⟨done_shows .., rfl, rfl, rfl, rfl, rfl⟩

/-! ## TEST_BEGIN, TEST_END and INSERT_ERROR (R173, R174, R178) -/

theorem testKindOfCode_none (c : Nat) (h : c < 1 ∨ 3 < c) : testKindOfCode c = none := by
  match c with
  | 0 => rfl
  | 1 | 2 | 3 => omega
  | _ + 4 => rfl

theorem testKindOfCode_code (k : TestKind) : testKindOfCode k.code.toNat = some k := by cases k <;> rfl

theorem barredInTest_eq (b : TxBody) :
    (!b.barredInTest) = decide (b.kindCode ≠ 1 ∧ b.kindCode ≠ 2 ∧ b.kindCode ≠ 3 ∧ b.kindCode ≠ 4) := by
  cases b <;> rfl

theorem testBeginAct_wrongState (kind : Byte) (s : State)
    (h : s.port.nodeState ≠ .running ∨ (s.phase.phase ≠ .prematch ∧ s.phase.phase ≠ .ended)) :
    testBeginAct kind s = refuse .wrongState s := by
  unfold testBeginAct
  by_cases node : s.port.nodeState = .running
  · rw [if_neg (not_not_intro node), if_pos (by grind)]
  · rw [if_pos node]

theorem testBeginAct_badKind (kind : Byte) (s : State) (node : s.port.nodeState = .running)
    (h : s.phase.phase = .prematch ∨ s.phase.phase = .ended) (bad : kind.toNat < 1 ∨ 3 < kind.toNat) :
    testBeginAct kind s = refuse .badArgument s := by
  rw [testBeginAct, if_neg (not_not_intro node), if_neg (by grind), testKindOfCode_none _ bad]

theorem testBeginAct_taken (k : TestKind) (s : State) (node : s.port.nodeState = .running)
    (h : s.phase.phase = .prematch ∨ s.phase.phase = .ended) : testBeginAct k.code s = done (s.enterTest k) [] := by
  rw [testBeginAct, if_neg (not_not_intro node), if_neg (by grind), testKindOfCode_code]

/-- R158, R173, R177: what entry into TEST leaves of the channel. -/
theorem Channel.enterTest_eq (k : TestKind) (c : Channel) :
    c.enterTest.enterLoopback k =
      let queue := c.txQueue.filter fun f => decide (f.body.kindCode ≠ 1 ∧ f.body.kindCode ≠ 2 ∧ f.body.kindCode ≠ 3 ∧
        f.body.kindCode ≠ 4)
      { c with
        txQueue := queue
        presenceDue := none
        contention := if queue = [] then none else c.contention
        reception := if k = .loopback then none else c.reception } := by
  simp only [Channel.enterTest, Channel.enterLoopback, barredInTest_eq, List.isEmpty_iff]
  split <;> rfl

theorem Link.enterTest_eq (k : TestKind) (now : Nat) (l : Link) :
    l.enterTest k now =
      let cleared := { l with testKind := some k, record := TestRecord.cleared, insertPending := false, checkGen := none,
                              patternSource := none }
      if k = .patternCheck then cleared
      else { cleared with sendGen := 32767, sendSeq := 0, patternDue := some now } := by
  cases k <;> rfl

theorem testBeginEntersTest : TestBeginEntersTest := by
  intro s kind token
  refine ⟨fun h => isRefused_of rfl token (testBeginAct_wrongState kind (s.handOver ..) h), fun node phase => ?_⟩
  refine ⟨fun bad => isRefused_of rfl token (testBeginAct_badKind kind (s.handOver ..) node phase bad), fun k named => ?_⟩
  subst named
  refine leaves_of rfl token ((testBeginAct_taken k (s.handOver 80 [k.code]) node phase).trans ?_)
  rw [allClosed_eq, State.enterTest]
  simp only [State.mapPort, State.mapLink, State.mapChan, Channel.enterTest_eq, Link.enterTest_eq]
  rfl

theorem testEndAndInsertError : TestEndAndInsertError := by
  intro s token
  refine ⟨fun outside => ⟨isRefused_of rfl token (if_neg outside), isRefused_of rfl token (if_neg fun h => outside h.1)⟩,
    fun inside => ⟨leaves_of rfl token ?_, fun sends => ?_, fun one two => isRefused_of rfl token (if_neg ?_)⟩⟩
  · rw [testEnded_eq]
    exact if_pos inside
  · have act : insertErrorAct (s.handOver 82 []) =
        done ((s.handOver 82 []).mapLink fun l => { l with insertPending := true }) [] := if_pos ⟨inside, sends⟩
    exact leaves_of_same rfl token act ⟨rfl, rfl, rfl, rfl, rfl, rfl, rfl, rfl, rfl, rfl, rfl, rfl, rfl, rfl⟩
      ⟨rfl, rfl, rfl, rfl, rfl, rfl⟩ rfl
  · rintro ⟨-, h | h⟩
    · exact one h
    · exact two h

/-- Settles O13. -/
theorem lineTestCommands : Obligations.LineTestCommands := ⟨testBeginEntersTest, testEndAndInsertError⟩

end Sys2Proof.Machine
end

section
/-! The READ commands (R24, R48, R49, R68, R93, R114, R151, R179, R184, R188): the rows of the statements are the bytes of
the model, row by row, and a READ changes nothing else. -/

namespace Sys2Proof.Machine

@[simp] theorem State.handOver_req (code : Byte) (args : List Byte) (s : State) : (s.handOver code args).req = s.req := rfl

/-! ## Bytes -/

@[simp] theorem bytesOf_length (count n : Nat) : (bytesOf count n).length = count := by
  induction count with
  | zero => rfl
  | succ c ih => simp [bytesOf, ih]

theorem bytesOf_one (n : Nat) : bytesOf 1 n = [BitVec.ofNat 8 n] := by simp [bytesOf]

theorem holderByte_eq (h : Option NodeId) : holderByte h = idOrNone h := by cases h <;> rfl

/-! ## The reads of an ELEMENT (R24, R48, R49) -/

/-- R24: the bytes of the offer kinds. -/
theorem State.kindBytes_eq (s : State) (c : Claim) (pulse : Option Nat) :
    s.kindBytes c pulse =
      if (s.port.cfg.offer c.offer).kind = 2 then bytesOf 2 c.countdown ++ [flagByte (pulseLasts pulse), 0]
      else if (s.port.cfg.offer c.offer).kind = 1 then [0, 0, 0, BitVec.ofNat 8 c.renews] else [0, 0, 0, 0] := by
  have metered := offerKindOfCode_metered (s.port.cfg.offer c.offer).kind
  have renewable := offerKindOfCode_renewable (s.port.cfg.offer c.offer).kind
  simp only [← metered, ← renewable, State.kindBytes, OfferSlot.offerKind, State.offer]
  rcases offerKindOfCode (s.port.cfg.offer c.offer).kind.toNat with _ | _ | _ | _ <;> rfl

theorem State.kindBytes_length (s : State) (c : Claim) (pulse : Option Nat) : (s.kindBytes c pulse).length = 4 := by
  rw [State.kindBytes_eq]
  split
  · simp
  · split <;> simp

theorem seatRow_eq (s : State) (x : Seat) : seatRow s x = s.seatBytes x := by
  cases x <;> simp only [seatRow, State.seatBytes, State.kindBytes_eq, bytesOf_one, List.append_assoc, List.cons_append,
    List.nil_append] <;> rfl

theorem entryRow_eq (s : State) (e : Entry) : entryRow s e = s.entryBytes e := rfl

theorem recordRow_eq (r : StandingRecord) : recordRow r = r.bytes := by
  rcases r with ⟨_, _, _, _, _, _, engagement, lastEnded⟩
  rcases engagement with _ | _ | _ <;> rcases lastEnded with _ | ⟨claim, reason⟩ <;> rfl

theorem seatRow_length (s : State) (x : Seat) : (seatRow s x).length = 18 := by
  rw [seatRow_eq]
  cases x <;> simp [State.seatBytes, Claim.bytes, State.kindBytes_length]

theorem recordRow_length (r : StandingRecord) : (recordRow r).length = 9 := by
  simp [recordRow_eq, StandingRecord.bytes]

theorem State.elementRead_started (start : Byte) (highest : Nat) (reply : List Byte) (s : State)
    (node : s.port.nodeState ≠ .config) :
    s.elementRead start highest reply = if s.port.cfg.role ≠ 1 then refuse .wrongRole s
      else if highest < start.toNat then refuse .badArgument s else done s reply := by
  have noElement : ((!s.isElement) = true) = (s.port.cfg.role ≠ 1) := by simp [State.isElement_eq]
  rw [State.elementRead, if_neg node]
  simp only [noElement]

theorem elementRead_of {s : State} {c : Instr} {code : Byte} {args : List Byte} {act : State → Completion} {start : Byte}
    {highest : Nat} {reply : List Byte} (run : exec c s = .next (s.command code args act)) (token : s.port.token = 0)
    (h : act (s.handOver code args) = (s.handOver code args).elementRead start highest reply) :
    ElementRead s c start highest reply := by
  have started (node : s.port.nodeState ≠ .config) :=
    h.trans (State.elementRead_started start highest reply (s.handOver code args) node)
  refine ⟨fun config => isRefused_of run token (h.trans (if_pos config)),
    fun node role => isRefused_of run token ((started node).trans (if_pos role)),
    fun node role above => isRefused_of run token ((started node).trans ?_),
    fun node role within => onlyReads_of run token ((started node).trans ?_)⟩
  · exact (if_neg (not_not_intro role)).trans (if_pos above)
  · exact (if_neg (not_not_intro role)).trans (if_neg (by omega))

theorem elementReadsAreCheckedAndOnlyRead : ElementReadsAreCheckedAndOnlyRead := by
  intro s start token
  have seats : seatRow s = s.seatBytes := funext (seatRow_eq s)
  have records : recordRow = StandingRecord.bytes := funext recordRow_eq
  refine ⟨?_, elementRead_of rfl token rfl, ?_, seatRow_length s, fun e => ?_, recordRow_length⟩
  · rw [seats]
    exact elementRead_of rfl token rfl
  · rw [records]
    exact elementRead_of rfl token rfl
  · simp [entryRow]

/-! ## READ_REQUESTS and READ_VIEW (R68, R93) -/

theorem requestRow_eq (now : Nat) (r : Request) : requestRow now r = r.bytes now := by
  simp only [requestRow, Request.bytes, bytesOf_one, Request.deadlineLeft]
  rcases r.state <;> rcases r.deadline <;> rfl

theorem requestRow_length (now : Nat) (r : Request) : (requestRow now r).length = 17 := by
  by_cases seated : r.state = .seated <;> simp [requestRow, seated]

theorem partnerRow_eq (v : PartnerView) : partnerRow v = v.bytes := by
  have seats : (fun x : ViewSeat => [x.state, idOrNone x.holder] ++ bytesOf 2 x.mark.toNat ++ [x.claim.getD 255]) =
      fun x => x.bytes ++ [optionByte x.claim] := by
    funext x
    rw [ViewSeat.bytes, holderByte_eq]
    rfl
  rw [partnerRow, PartnerView.bytes, seats]
  rcases v with ⟨_, rule, _, _, _⟩
  cases rule <;> rfl

theorem viewRow_eq (id : NodeId) (v : ViewEntry) : viewRow id v = v.bytes id := by
  have seats : (fun x : ViewSeat => [x.state, idOrNone x.holder] ++ bytesOf 2 x.mark.toNat) = ViewSeat.bytes := by
    funext x
    rw [ViewSeat.bytes, holderByte_eq]
  rw [viewRow, ViewEntry.bytes, seats]
  rfl

theorem readRequestsAct_taken (start : Byte) (s : State) (node : s.port.nodeState ≠ .config) :
    readRequestsAct start s = if s.port.cfg.role ≠ 0 then refuse .wrongRole s
      else if 3 < start.toNat then refuse .badArgument s
      else done s ([s.req.claimCounter] ++ bytesOf 2 s.req.bench ++ [flagByte s.req.ejected] ++ bytesOf 2 s.req.strayCount
        ++ bytesOf 2 s.req.viewIgnore ++ [countByte s.req.list, start, countByte (s.requestRows start)]
        ++ (s.requestRows start).flatMap (Request.bytes s.localMs)) := by
  have noPlayer : ((!s.isPlayer) = true) = (s.port.cfg.role ≠ 0) := by simp [State.isPlayer_eq]
  rw [readRequestsAct, if_neg node]
  simp only [noPlayer]

theorem readViewAct_taken (start : Byte) (s : State) (node : s.port.nodeState ≠ .config) :
    readViewAct start s = if s.port.cfg.role = 1 then done s (countByte s.views :: s.views.flatMap PartnerView.bytes)
      else if s.port.cfg.role = 0 then
        if 31 < start.toNat then refuse .badArgument s else done s (countByte s.req.view :: s.viewEntryBytes start)
      else refuse .wrongRole s := by
  rw [readViewAct, if_neg node]
  simp only [State.isElement_eq, State.isPlayer_eq, decide_eq_true_eq]

theorem requestAndViewReads : RequestAndViewReads := by
  intro s start token
  refine ⟨fun config => ⟨isRefused_of rfl token (if_pos config), isRefused_of rfl token (if_pos config)⟩, fun node => ?_⟩
  have requests := readRequestsAct_taken start (s.handOver 99 [start]) node
  have view := readViewAct_taken start (s.handOver 100 [start]) node
  refine ⟨fun role => isRefused_of rfl token (requests.trans (if_pos role)), fun role above => isRefused_of rfl token ?_,
    fun role within => ⟨onlyReads_of rfl token ?_, requestRow_length _⟩, fun noPlayer noElement => isRefused_of rfl token ?_,
    fun role => onlyReads_of rfl token ?_, fun role above => isRefused_of rfl token ?_,
    fun role within => onlyReads_of rfl token ?_⟩
  · exact requests.trans ((if_neg (not_not_intro role)).trans (if_pos above))
  · have rows : requestRow s.localMs = Request.bytes s.localMs := funext (requestRow_eq s.localMs)
    rw [rows]
    exact requests.trans ((if_neg (not_not_intro role)).trans (if_neg (by omega)))
  · exact view.trans ((if_neg noElement).trans (if_neg noPlayer))
  · have rows : partnerRow = PartnerView.bytes := funext partnerRow_eq
    rw [rows]
    exact view.trans (if_pos role)
  · exact view.trans ((if_neg fun h => absurd (role.symm.trans h) (by decide)).trans ((if_pos role).trans (if_pos above)))
  · refine view.trans ((if_neg fun h => absurd (role.symm.trans h) (by decide)).trans
      ((if_pos role).trans ((if_neg (by omega)).trans ?_)))
    rw [State.viewEntryBytes, State.handOver_req]
    rcases s.req.view[start.toNat]? with _ | x
    · rfl
    · simp only [viewRow_eq]

/-- Settles O14. -/
theorem readsOfOneRole : Obligations.ReadsOfOneRole := ⟨elementReadsAreCheckedAndOnlyRead, requestAndViewReads⟩

end Sys2Proof.Machine
end

section
/-! The READ commands of every role (R114, R151, R172, R179, R184, R188). -/

namespace Sys2Proof.Machine

/-! ## READ_PEER (R151) -/

theorem joinedByte_four (a b : BitVec 2) :
    (a.setWidth 4 : BitVec 4) ++ (b.setWidth 4 : BitVec 4) = BitVec.ofNat 8 (16 * a.toNat + b.toNat) := by
  revert a b
  decide

theorem joinedByte_five (a : BitVec 3) (b : BitVec 2) :
    (a.setWidth 4 : BitVec 4) ++ (b.setWidth 4 : BitVec 4) = BitVec.ofNat 8 (16 * a.toNat + b.toNat) := by
  revert a b
  decide

/-- R151 byte 59: the flags and the count of requests, as a sum. -/
theorem playerAdByte (benched ejected : Bool) (n : Nat) :
    flagsByte true benched ejected false false false false false ||| BitVec.ofNat 8 (n % 8) =
      BitVec.ofNat 8 (128 + (if benched then 64 else 0) + (if ejected then 32 else 0) + n % 8) := by
  have small : n % 8 < 8 := Nat.mod_lt _ (by omega)
  generalize n % 8 = r at small
  have all : ∀ (b e : Bool) (r : Fin 8), flagsByte true b e false false false false false ||| BitVec.ofNat 8 r.val =
      BitVec.ofNat 8 (128 + (if b then 64 else 0) + (if e then 32 else 0) + r.val) := by decide
  exact all benched ejected ⟨r, small⟩

theorem append_congr {a b c d : List Byte} (h : a = b) (k : c = d) : a ++ c = b ++ d := by rw [h, k]

theorem peerReply_eq (s : State) (id : Byte) : peerRow s id = s.peerReply id := by
  simp only [peerRow, State.peerReply, PhaseUnit.bytes, ← List.append_assoc]
  refine append_congr (append_congr (append_congr (append_congr (append_congr (append_congr (append_congr
    (append_congr (append_congr (append_congr (append_congr (append_congr (append_congr (append_congr (append_congr
    (append_congr rfl ?slot) ?map) rfl) rfl) rfl) ?changed) ?ref0) ?ref1) rfl) rfl) ?carried) ?pending) ?lastHalt)
    rfl) rfl) ?ad
  case slot =>
    rcases lookupId (id.setWidth 6) s.peers.slots with _ | p
    · rfl
    · simp only [slotBytes, joinedByte_four, joinedByte_five, List.append_assoc]
      rfl
  case map => rfl
  case changed => rw [holderByte_eq]
  case ref0 => rcases s.peers.referees[0]? with _ | ⟨_, _ | _, _ | _⟩ <;> rfl
  case ref1 => rcases s.peers.referees[1]? with _ | ⟨_, _ | _, _ | _⟩ <;> rfl
  case carried => rcases s.phase.currentCarried <;> rfl
  case pending => rcases s.phase.pending <;> rfl
  case lastHalt => rcases s.phase.lastHalt <;> rfl
  case ad =>
    rcases lookupId (id.setWidth 6) s.peers.slots with _ | ⟨_, _, _, _, _, _, _, _, _, _, _, _, _ | a⟩
    · rfl
    · rfl
    · exact congrArg (fun b => [b]) (playerAdByte a.benched a.ejected a.requests).symm

theorem slotBytes_length (slot : Option PeerSlot) : (slotBytes slot).length = 11 := by
  rcases slot with _ | p
  · rfl
  · simp [slotBytes]

theorem refSlotBytes_length (slot : Option RefSlot) : (refSlotBytes slot).length = 4 := by
  rcases slot with _ | r <;> rfl

theorem PhaseUnit.bytes_length (u : PhaseUnit) : u.bytes.length = 22 := by
  have pending : (pendingBytes u.pending).length = 7 := by
    rcases u.pending with _ | m
    · rfl
    · simp [pendingBytes]
  simp [PhaseUnit.bytes, pending]

theorem peerRow_length (s : State) (id : Byte) : (peerRow s id).length = 60 := by
  simp [peerReply_eq, State.peerReply, slotBytes_length, refSlotBytes_length, PhaseUnit.bytes_length]

/-! ## READ_TIME (R114) -/

theorem timeRow_eq (s : State) : timeRow s = s.timeReply := by
  have reference := holderByte_eq s.time.reference
  simp only [timeRow, State.timeReply, ← reference, bytesOf_one, signedField]
  rcases s.time.mode <;> rcases s.time.align <;> rcases s.time.lastCause <;>
    rcases s.time.lastSample with _ | ⟨_, _ | _⟩ <;> rfl

theorem timeRow_length (s : State) : (timeRow s).length = 31 := by
  have sample : (sampleBytes s.time.lastSample).length = 5 := by
    rcases s.time.lastSample with _ | x
    · rfl
    · simp [sampleBytes, signedField]
  simp [timeRow_eq, State.timeReply, sample, signedField]

/-! ## READ_LINK (R167, R172, R179) -/

theorem windowRow_eq (w : WindowCounts) : windowRow w = w.bytes := by
  simp only [windowRow, WindowCounts.bytes, List.flatMap_cons, List.flatMap_nil, List.append_nil, List.append_assoc]

theorem linkRow_eq (s : State) : s.linkReply0 = linkRow s (s.chan.contention.bind Contention.remaining) := by
  simp only [linkRow, State.linkReply0, State.channelBytes, contentionBytes, windowRow_eq, bytesOf_one]
  rcases s.link.lastPower with _ | _ | _ <;> rcases s.chan.presenceDue <;>
    rcases s.chan.contention.bind Contention.remaining <;>
    simp only [List.append_assoc, List.cons_append, List.nil_append] <;> rfl

theorem linkRow_length (s : State) (slots : Option Nat) : (linkRow s slots).length = 50 := by
  simp [linkRow, windowRow_eq, WindowCounts.bytes]

theorem testRow_eq (s : State) : testRow s.link = s.linkReply1 := by
  simp only [testRow, State.linkReply1, TestRecord.bytes, ← holderByte_eq]
  rcases s.link.testKind with _ | _ | _ | _ <;> rcases s.link.record.endCause with _ | _ | _ <;> rfl

theorem testRow_length (l : Link) : (testRow l).length = 24 := by
  simp [testRow]

/-! ## READ_CONFIG and READ_NOTICES (R184, R188) -/

theorem configRow_eq (c : StoredConfig) : configRow c = c.bytes := by
  simp only [configRow, StoredConfig.bytes, OfferSlot.bytes, List.append_assoc, List.cons_append, List.nil_append]

theorem configRow_length (c : StoredConfig) : (configRow c).length = 59 := by
  simp [configRow]

/-! ## The commands -/

theorem State.readCountdown_none (s : State) (h : s.chan.contention = none) : s.readCountdown = s := by
  simp only [State.readCountdown, h]

theorem State.readCountdown_idle (s : State) (k : Contention) (h : s.chan.contention = some k)
    (idle : k.isCounting = false) : s.readCountdown = s := by
  simp only [State.readCountdown, h, idle, Bool.false_eq_true, if_false]

theorem State.readCountdown_counting (s : State) (k : Contention) (h : s.chan.contention = some k)
    (counting : k.isCounting = true) :
    s.readCountdown = { s with
      chan := { s.chan with contention := some (k.read (Config.freeSlots s.freeIndex)) }
      freeIndex := s.freeIndex + 1 } := by
  simp only [State.readCountdown, h, counting, if_true]
  rfl

theorem readLinkAct_still (s : State) {slots : Option Nat} (still : s.readCountdown = s)
    (shown : s.chan.contention.bind Contention.remaining = slots) : readLinkAct 0 s = done s (linkRow s slots) := by
  rw [readLinkAct, if_pos rfl, still, linkRow_eq, shown]

theorem Contention.read_eq (free : Nat) (k : Contention) {b : Nat} (slots : k.slots = some b) :
    k.read free = { k with passed := k.passed + free % (b - k.passed) } := by
  simp only [Contention.read, Contention.remaining, slots, Option.map_some]

theorem Contention.idle_of (k : Contention) (h : k.gapDone = false ∨ k.slots = none) : k.isCounting = false := by
  rcases h with gap | slots
  · simp [Contention.isCounting, gap]
  · simp [Contention.isCounting, Contention.remaining, slots]

theorem Contention.isCounting_eq (k : Contention) {b : Nat} (gap : k.gapDone = true) (slots : k.slots = some b) :
    k.isCounting = decide (k.passed < b) := by
  simp [Contention.isCounting, Contention.remaining, gap, slots, Nat.sub_pos_iff_lt]

theorem State.handOver_outsidePort (code : Byte) (args : List Byte) (s : State) : SameOutsidePort s (s.handOver code args) :=
  ⟨rfl, rfl, rfl, rfl, rfl, rfl, rfl, rfl, rfl, rfl, rfl, rfl, rfl, rfl⟩

theorem Contention.read_within (free : Nat) (k : Contention) {b : Nat} (slots : k.slots = some b) (left : k.passed < b) :
    ∃ p, k.passed ≤ p ∧ p < b ∧ k.read free = { k with passed := p } := by
  have small : free % (b - k.passed) < b - k.passed := Nat.mod_lt _ (by omega)
  exact ⟨k.passed + free % (b - k.passed), by omega, by omega, k.read_eq free slots⟩

/-- R167: what part 0 shows when the countdown is found at p slots. -/
theorem linkRow_passed (s : State) {k k' : Contention} {n : Nat} (slots : Option Nat) (held : s.chan.contention = some k) :
    linkRow { s with
      chan := { s.chan with contention := some k' }
      freeIndex := n } slots = linkRow s slots := by
  simp only [linkRow, held, Option.isSome_some]

theorem readLinkAct_counting (s : State) {k : Contention} {b p : Nat} (held : s.chan.contention = some k)
    (gap : k.gapDone = true) (slots : k.slots = some b) (left : k.passed < b)
    (read : k.read (Config.freeSlots s.freeIndex) = { k with passed := p }) :
    readLinkAct 0 s = done { s with
        chan := { s.chan with contention := some { k with passed := p } }
        freeIndex := s.freeIndex + 1 } (linkRow s (some (b - p))) := by
  have counting : k.isCounting = true := by rw [k.isCounting_eq gap slots, decide_eq_true left]
  rw [readLinkAct, if_pos rfl, s.readCountdown_counting k held counting, read, linkRow_eq]
  simp only [Option.bind_some, Contention.remaining, slots, Option.map_some]
  rw [linkRow_passed s _ held]

/-- R160, R167: a countdown in progress is found with some of its slots passed and one at least left. -/
theorem readLink_counting (s : State) (token : s.port.token = 0) {k : Contention} {b : Nat}
    (held : s.chan.contention = some k) (gap : k.gapDone = true) (slots : k.slots = some b) (left : k.passed < b) :
    ∃ p, k.passed ≤ p ∧ p < b ∧ Leaves s (.readLink 0)
      { s with chan := { s.chan with contention := some { k with passed := p } }, freeIndex := s.freeIndex + 1 }
      (linkRow s (some (b - p))) := by
  obtain ⟨p, after, before, read⟩ := k.read_within (Config.freeSlots s.freeIndex) slots left
  exact ⟨p, after, before, leaves_of_same rfl token
    (readLinkAct_counting (s.handOver 103 [0]) held gap slots left read)
    (State.handOver_outsidePort 103 [0] _) ⟨rfl, rfl, rfl, rfl, rfl, rfl⟩ rfl⟩

theorem readLink_still (s : State) (token : s.port.token = 0) {slots : Option Nat}
    (still : ∀ u : State, u.chan = s.chan → u.readCountdown = u)
    (shown : s.chan.contention.bind Contention.remaining = slots) : OnlyReads s (.readLink 0) (linkRow s slots) :=
  onlyReads_of rfl token (readLinkAct_still (s.handOver 103 [0]) (still _ rfl) shown)

theorem readLink_idle (s : State) (token : s.port.token = 0) {k : Contention} (held : s.chan.contention = some k)
    (idle : k.isCounting = false) : OnlyReads s (.readLink 0) (linkRow s k.remaining) :=
  readLink_still s token (fun u same => u.readCountdown_idle k (same ▸ held) idle) (by rw [held, Option.bind_some])

theorem readPeer_good (s : State) (token : s.port.token = 0) (id : Byte) (good : id.toNat ≤ 63) :
    OnlyReads s (.readPeer id) (peerRow s id) := by
  refine onlyReads_of rfl token ?_
  rw [peerReply_eq]
  exact if_neg (by omega)

theorem readsInEveryNodeState : ReadsInEveryNodeState := by
  intro s token
  refine ⟨fun id bad => isRefused_of rfl token (if_pos bad),
    fun id good => ⟨readPeer_good s token id good, peerRow_length s id⟩, ?_, timeRow_length s, linkRow_length s, ?_, ?_,
    ?_, testRow_length _, ?_, ?_, configRow_length _⟩
  · exact timeRow_eq s ▸ onlyReads_of rfl token rfl
  · intro still
    exact readLink_still s token (fun u same => u.readCountdown_none (same ▸ still)) (by rw [still, Option.bind_none])
  · intro k held
    refine ⟨fun h => readLink_idle s token held (k.idle_of h), ?_⟩
    intro b gap slots
    refine ⟨fun spent => ?_, readLink_counting s token held gap slots⟩
    have idle : k.isCounting = false := by rw [k.isCounting_eq gap slots, decide_eq_false (by omega)]
    have shown := readLink_idle s token held idle
    rwa [Contention.remaining, slots, Option.map_some, Nat.sub_eq_zero_of_le spent] at shown
  · rw [testRow_eq]
    exact onlyReads_of rfl token ((if_neg (by decide)).trans (if_pos rfl))
  · intro part zero one
    exact isRefused_of rfl token ((if_neg zero).trans (if_neg one))
  · exact configRow_eq s.port.cfg ▸ onlyReads_of rfl token rfl

theorem readNoticesTakesTheOldest : ReadNoticesTakesTheOldest := by
  intro s token
  exact leaves_of_same rfl token
    (t := (s.handOver 104 []).mapPort fun p => { p with notices := s.port.notices.drop 4 }) rfl
    (State.handOver_outsidePort 104 [] _) ⟨rfl, rfl, rfl, rfl, rfl, rfl⟩ rfl

/-- Settles O15: each reply equals its layout, and READ_LINK alone draws a free value, within the slots left. -/
theorem readsOfEveryRole : Obligations.ReadsOfEveryRole :=
  ⟨readsInEveryNodeState, readNoticesTakesTheOldest⟩

end Sys2Proof.Machine
end

section
/-! The port area (R180 to R183, R187): bytes written, bytes read, transactions and handed-over commands. -/

namespace Sys2Proof.Machine

/-! ## The command that a block holds (R182, R183) -/

/-- A 16-bit field as its two bytes in the command block give it. -/
def halfOf (h : Half) : Half := BitVec.ofNat 8 (h.toNat / 256 ^ 1) ++ BitVec.ofNat 8 (h.toNat / 256 ^ 0)

theorem halfOf_eq (h : Half) : halfOf h = h :=
  (congr (congrArg (· ++ ·) (ofNat_shifted h 8)) (ofNat_shifted h 0)).trans (half_of_bytes h)

/-- The row of a command whose block is a code with its arguments: it hands the block over and takes it, and it takes what
another block holds, with COMMAND_OVERRUN, when the token is not 0. -/
structure HandedAs (c : Instr) (code : Byte) (args : List Byte) (take : State → Taken) : Prop where
  takes : ∀ s : State, s.port.token = 0 ∨ s.holds code args = true →
    exec c s = .next (take (s.handOver code args)).state
  overruns : ∀ s : State, s.port.token ≠ 0 → s.holds code args = false →
    exec c s = .next (s.setFlag .commandOverrun).takeHanded
  block : ∀ (rest : List Byte) (s : State), takeBlock ((code :: args) ++ rest) s = take s

variable {c : Instr} {code : Byte} {args : List Byte}

theorem handedAs_of_ite {take : State → Taken}
    (run : ∀ s, exec c s = .next (if s.port.token = 0 ∨ s.holds code args = true then (take (s.handOver code args)).state
      else (s.setFlag .commandOverrun).takeHanded))
    (block : ∀ (rest : List Byte) (s : State), takeBlock ((code :: args) ++ rest) s = take s) :
    HandedAs c code args take where
  takes s h := by rw [run, if_pos h]
  overruns s token other := by rw [run, if_neg (not_or.mpr ⟨token, Bool.not_eq_true _ ▸ other⟩)]
  block := block

theorem handedAs_command {act : State → Completion} (run : ∀ s, exec c s = .next (s.command code args act))
    (block : ∀ (rest : List Byte) (s : State), takeBlock ((code :: args) ++ rest) s = .completes (act s)) :
    HandedAs c code args fun s => .completes (act s) :=
  handedAs_of_ite run block

/-- R183: no part of the command summary has a row for a code that names no command. -/
theorem takeBlock_unknown {code : Byte} (unknown : (Instr.unknownCommand code).wf = true) (rest : List Byte) (s : State) :
    takeBlock (code :: rest) s = .completes (refuse .unknownCommand s) := by
  have other : namedCodes.contains code = false := by simpa [Instr.wf] using unknown
  have outside (n : Nat) (named : namedCodes.contains (BitVec.ofNat 8 n) = true) : code.toNat ≠ n := by
    rintro rfl
    rw [BitVec.ofNat_toNat, BitVec.setWidth_eq, other] at named
    exact absurd named (by decide)
  have setup : takeSetup code.toNat (code :: rest) s = none := by
    unfold takeSetup
    split
    case h_9 => rfl
    all_goals exact absurd ‹code.toNat = _› (outside _ (by decide))
  have work : takeWork code.toNat (code :: rest) s = none := by
    unfold takeWork
    split
    case h_14 => rfl
    all_goals exact absurd ‹code.toNat = _› (outside _ (by decide))
  have read : takeRead code.toNat (code :: rest) s = none := by
    unfold takeRead
    split
    case h_11 => rfl
    all_goals exact absurd ‹code.toNat = _› (outside _ (by decide))
  have first : (byteAt (code :: rest) 0).toNat = code.toNat := rfl
  simp only [takeBlock, first, setup, work, read]
  rfl

theorem handedAs_reset : HandedAs .reset 31 [] fun s => .resets s.afterReset :=
  handedAs_of_ite (fun _ => rfl) fun _ _ => rfl

theorem handedAs_unknown (unknown : (Instr.unknownCommand code).wf = true) :
    HandedAs (.unknownCommand code) code [] fun s => .completes (refuse .unknownCommand s) := by
  refine handedAs_of_ite (fun s => ?_) fun rest s => takeBlock_unknown unknown rest s
  have taken : (s.handOver code []).takeHanded =
      (Taken.completes (refuse .unknownCommand (s.handOver code []))).state :=
    congrArg Taken.state (takeBlock_unknown unknown _ _)
  rw [← taken]
  rfl

/-- Each command's row hands over the block of that command and takes it. -/
theorem handedAs_of_blockOf {bytes : List Byte} (block : blockOf c = some bytes) (wf : c.wf = true) :
    ∃ code args take, bytes = code :: args ∧ HandedAs c code args take := by
  cases c
  case setTiming p q d l w =>
    exact ⟨17, _, _, (Option.some.inj block).symm, handedAs_command (fun _ => rfl) fun rest s => by
      simpa only [halfOf_eq] using
        (rfl : takeBlock _ s = .completes (setTimingAct (halfOf p) (halfOf q) d (halfOf l) (halfOf w) s))⟩
  case reset => exact ⟨31, [], _, (Option.some.inj block).symm, handedAs_reset⟩
  case unknownCommand code => exact ⟨code, [], _, (Option.some.inj block).symm, handedAs_unknown wf⟩
  case setElement n o b r m v u w =>
    exact ⟨18, _, _, (Option.some.inj block).symm, handedAs_command (fun _ => rfl) fun rest s => by
      simpa only [halfOf_eq] using (rfl : takeBlock _ s = .completes (setElementAct n o b r m (halfOf v) u w s))⟩
  case setOffer n k h v p r u =>
    exact ⟨19, _, _, (Option.some.inj block).symm, handedAs_command (fun _ => rfl) fun rest s => by
      simpa only [halfOf_eq] using (rfl : takeBlock _ s = .completes (setOfferAct n k (halfOf h) v p r (halfOf u) s))⟩
  case ask e o h =>
    exact ⟨32, _, _, (Option.some.inj block).symm, handedAs_command (fun _ => rfl) fun rest s => by
      simpa only [halfOf_eq] using (rfl : takeBlock _ s = .completes (askAct e o (halfOf h) s))⟩
  case sendMark p l =>
    exact ⟨48, _, _, (Option.some.inj block).symm, handedAs_command (fun _ => rfl) fun rest s => by
      simpa only [halfOf_eq] using (rfl : takeBlock _ s = .completes (sendMarkAct p (halfOf l) s))⟩
  case sendSanction p k d =>
    exact ⟨49, _, _, (Option.some.inj block).symm, handedAs_command (fun _ => rfl) fun rest s => by
      simpa only [halfOf_eq] using (rfl : takeBlock _ s = .completes (sendSanctionAct p k (halfOf d) s))⟩
  case trimSet t =>
    exact ⟨65, _, _, (Option.some.inj block).symm, handedAs_command (fun _ => rfl) fun rest s => by
      simpa only [halfOf_eq] using (rfl : takeBlock _ s = .completes (trimSetAct (halfOf t) s))⟩
  case setNode | setPartner | setReferee | start | yield | renew | sendTurn | haltOn | haltOff | trimMode | testBegin
      | testEnd | insertError | readSeats | readWaiting | readRing | readRequests | readView | readPeer | readTime
      | readLink | readNotices | readConfig =>
    exact ⟨_, _, _, (Option.some.inj block).symm, handedAs_command (fun _ => rfl) fun _ _ => rfl⟩
  all_goals exact nomatch block

namespace HandedAs

theorem takeHanded {take : State → Taken} (h : HandedAs c code args take) {s : State} (held : s.holds code args = true) :
    s.takeHanded = (take (s.handOver code args)).state := by
  have begins : s.port.block.take (args.length + 1) = code :: args := of_decide_eq_true held
  have split : s.port.block = (code :: args) ++ s.port.block.drop (args.length + 1) := by
    rw [← begins, List.take_append_drop]
  rw [State.handOver_held _ _ _ held, State.takeHanded]
  exact congrArg Taken.state ((congrArg (fun b => takeBlock b _) split).trans (h.block _ _))

/-- R182: with its block in place a command's row takes what the block holds, at every token. -/
theorem exec_held {take : State → Taken} (h : HandedAs c code args take) {s : State} (held : s.holds code args = true) :
    exec c s = .next s.takeHanded := by
  rw [h.takes s (Or.inr held), h.takeHanded held]

end HandedAs

/-! ## Bytes written and codes that name no command -/

theorem unknownCommandIsRefused : UnknownCommandIsRefused := by
  intro s code token unknown
  refine ⟨_, (handedAs_unknown unknown).takes s (Or.inl token), ?_⟩
  exact refuse_finish .unknownCommand code [] s

theorem State.portWrite_block {s : State} {offset : BitVec 7} (v : Byte) (o : offset.toNat < 31) (token : s.port.token = 0) :
    s.portWrite offset v = { s with port := { s.port with block := s.port.block.set offset.toNat v } } := by
  rw [State.portWrite, if_pos (by omega), State.writeCommand, if_neg (by simp [token]), if_neg (by omega)]
  rfl

theorem State.portWrite_token {s : State} {offset : BitVec 7} (v : Byte) (o : offset.toNat = 31) (token : s.port.token = 0) :
    s.portWrite offset v = { s with port := { s.port with token := v } } := by
  rw [State.portWrite, if_pos (by omega), State.writeCommand, if_neg (by simp [token]), if_pos o]
  rfl

theorem State.portWrite_overrun {s : State} {offset : BitVec 7} (v : Byte) (o : offset.toNat ≤ 31)
    (token : s.port.token ≠ 0) : s.portWrite offset v = s.setFlag .commandOverrun := by
  rw [State.portWrite, if_pos o, State.writeCommand, if_pos token]

theorem State.portWrite_ignored {s : State} {offset : BitVec 7} (v : Byte) (low : 32 ≤ offset.toNat)
    (outside : offset.toNat < 96 ∨ 99 < offset.toNat) : s.portWrite offset v = s := by
  rw [State.portWrite, if_neg (by omega), if_neg (by omega), if_neg (by omega), if_neg (by omega), if_neg (by omega)]

theorem portWritesReachTheirRegions : PortWritesReachTheirRegions := by
  intro s offset v place
  refine ⟨fun o token => congrArg _ (State.portWrite_block v o token),
    fun o token => congrArg _ (State.portWrite_token v o token),
    fun o token => congrArg _ (State.portWrite_overrun v o token),
    fun low outside => congrArg _ (State.portWrite_ignored v low outside), ?_, ?_⟩ <;>
  cases place <;> rfl

theorem State.holds_of_cons {bytes : List Byte} {s : State} (shape : bytes = code :: args) :
    s.holds code args = decide (s.port.block.take bytes.length = bytes) := by
  subst shape
  rfl

theorem handedOverCommandsAreTaken : HandedOverCommandsAreTaken := by
  intro c bytes block wf s token zero inPlace nonzero held
  obtain ⟨code, args, take, shape, row⟩ := handedAs_of_blockOf block wf
  have holds (u : State) (same : u.port.block = s.port.block) : u.holds code args = true := by
    rw [State.holds_of_cons shape, same, decide_eq_true inPlace]
  refine ⟨congrArg _ (State.portWrite_token token rfl zero), ?_, ?_⟩
  · rw [row.exec_held (holds held rfl), row.exec_held (holds s rfl)]
    exact congrArg _ (s.takeHanded_token token)
  · intro d other dBlock dWf differs
    obtain ⟨dCode, dArgs, _, dShape, dRow⟩ := handedAs_of_blockOf dBlock dWf
    have foreign : held.holds dCode dArgs = false := by
      rw [State.holds_of_cons dShape]
      exact decide_eq_false differs
    rw [dRow.overruns held nonzero foreign, withFlag_eq, row.exec_held (holds (held.setFlag .commandOverrun) rfl)]

/-- Settles O16: every row is found by its code, so the row of a held command is the taking of the block. -/
theorem portWritesAndUnknownCodes : Obligations.PortWritesAndUnknownCodes :=
  ⟨unknownCommandIsRefused, portWritesReachTheirRegions, handedOverCommandsAreTaken⟩

end Sys2Proof.Machine
end

section
/-! What the controller reads at the port, its transactions, and the lines to the radio (R153, R180, R181, R187). -/

namespace Sys2Proof.Machine

/-! ## The port area as read -/

/-- The offsets of the port area in one byte each, beyond the reply. -/
theorem State.portRead_block (s : State) {o : BitVec 7} (h : o.toNat < 31) : s.portRead o = s.port.block.getD o.toNat 0 :=
  if_pos h

theorem State.portRead_reply (s : State) {o : BitVec 7} (low : 34 ≤ o.toNat) (high : o.toNat < 96) :
    s.portRead o = s.port.reply.getD (o.toNat - 34) 0 := by
  rw [State.portRead, if_neg (by omega), if_neg (by omega), if_neg (by omega), if_neg (by omega), if_pos high, byteAt]

theorem State.portRead_beyond (s : State) {o : BitVec 7} (h : 104 ≤ o.toNat) : s.portRead o = 0 := by
  simp only [State.portRead]
  repeat rw [if_neg (by omega)]

theorem getLsbD_byteOfHalf (h : Half) (start : Nat) {i : Nat} (small : i < 8) :
    (h.extractLsb' start 8).getLsbD i = h.getLsbD (start + i) := by
  simp [small]

theorem evtn_low_iff (s : State) :
    s.evtn = false ↔ ∃ i, i < 16 ∧ s.port.flags.getLsbD i = true ∧ s.port.mask.getLsbD i = true := by
  rw [State.evtn, decide_eq_false_iff_not]
  constructor
  · intro raised
    refine Classical.byContradiction fun unset => ?_
    refine raised (BitVec.eq_of_getLsbD_eq fun i small => ?_)
    have zero : (0 : Half).getLsbD i = false := BitVec.getLsbD_zero
    rw [BitVec.getLsbD_and, zero]
    refine Classical.byContradiction fun set => ?_
    rw [Bool.not_eq_false, Bool.and_eq_true] at set
    exact unset ⟨i, small, set⟩
  · rintro ⟨i, -, flag, mask⟩ quiet
    have bit := congrArg (fun w => w.getLsbD i) quiet
    simp [flag, mask] at bit

theorem haltLinkByte_bits (a b c d e f : Bool) :
    let x : Byte := BitVec.ofBool a ++ BitVec.ofBool b ++ BitVec.ofBool c ++ BitVec.ofBool d ++ BitVec.ofBool e
      ++ BitVec.ofBool f ++ (0 : BitVec 2)
    x.getLsbD 7 = a ∧ x.getLsbD 6 = b ∧ x.getLsbD 5 = c ∧ x.getLsbD 4 = d ∧ x.getLsbD 3 = e ∧ x.getLsbD 2 = f ∧
      x.getLsbD 1 = false ∧ x.getLsbD 0 = false := by
  revert a b c d e f
  decide

theorem portReadsShowTheArea : PortReadsShowTheArea := by
  intro s
  refine ⟨fun o => s.portRead_block, rfl, rfl, rfl, fun o => s.portRead_reply, fun i small => ?_, ?_, rfl, ?_,
    haltLinkByte_bits .., fun o => s.portRead_beyond, evtn_low_iff s⟩
  · rw [Nat.add_comm i 8]
    have low := getLsbD_byteOfHalf s.port.flags 0 small
    have lowMask := getLsbD_byteOfHalf s.port.mask 0 small
    rw [Nat.zero_add] at low lowMask
    exact ⟨getLsbD_byteOfHalf _ 8 small, low, getLsbD_byteOfHalf _ 8 small, lowMask⟩
  · have read : s.portRead 100 = s.port.nodeState.code := rfl
    rw [read]
    cases s.port.nodeState <;> rfl
  · have read : s.portRead 102 = s.time.align.code := rfl
    rw [read]
    cases s.time.align <;> rfl

/-! ## Transactions -/

/-- Where no read is in progress, nothing is captured and SDO is not driven. -/
theorem spi_silent {s : State} (h : s.port.spi = none ∨ s.port.spi = some .access ∨ ∃ o, s.port.spi = some (.writing o)) :
    s.spiOut = none ∧ s.sdoDriven = false ∧ s.spiCapture = s := by
  rcases h with idle | access | ⟨o, writing⟩
  · simp [State.sdoDriven, State.spiOut, State.spiCapture, idle]
  · simp [State.sdoDriven, State.spiOut, State.spiCapture, access]
  · simp [State.sdoDriven, State.spiOut, State.spiCapture, writing]

section Reading

variable {s : State} {o : BitVec 7} {flags mask : Option Half} (reading : s.port.spi = some (.reading o flags mask))
include reading

theorem spiOut_reading : s.spiOut = some (if o = 96 then (flags.getD s.port.flags).extractLsb' 8 8
    else if o = 97 then (flags.getD s.port.flags).extractLsb' 0 8
    else if o = 98 then (mask.getD s.port.mask).extractLsb' 8 8
    else if o = 99 then (mask.getD s.port.mask).extractLsb' 0 8 else s.portRead o) := by
  simp only [State.spiOut, reading, capturedPair, apply_ite some]

theorem spiCapture_reading : s.spiCapture = { s with port := { s.port with
    spi := some (.reading o (if o = 96 ∨ o = 97 then some (flags.getD s.port.flags) else flags)
      (if o = 98 ∨ o = 99 then some (mask.getD s.port.mask) else mask)) } } := by
  simp only [State.spiCapture, reading]
  rfl

end Reading

/-- A byte of a read captures at once what stands at its offset, and the pair it belongs to for the whole transaction. -/
theorem reading_moves {s : State} {o : BitVec 7} {flags mask : Option Half}
    (reading : s.port.spi = some (.reading o flags mask)) :
    (o ≠ 96 → o ≠ 97 → o ≠ 98 → o ≠ 99 → s.spiOut = some (s.portRead o) ∧ s.spiCapture = s) ∧
    (o = 96 ∨ o = 97 → s.spiOut = some ((flags.getD s.port.flags).extractLsb' (if o = 96 then 8 else 0) 8) ∧
      s.spiCapture = { s with port := { s.port with
        spi := some (.reading o (some (flags.getD s.port.flags)) mask) } }) ∧
    (o = 98 ∨ o = 99 → s.spiOut = some ((mask.getD s.port.mask).extractLsb' (if o = 98 then 8 else 0) 8) ∧
      s.spiCapture = { s with port := { s.port with
        spi := some (.reading o flags (some (mask.getD s.port.mask))) } }) := by
  rw [spiOut_reading reading, spiCapture_reading reading]
  refine ⟨fun n96 n97 n98 n99 => ?_, ?_, ?_⟩
  · simp only [n96, n97, n98, n99, if_false, or_self, ← reading, and_self]
  · rintro (rfl | rfl) <;> exact ⟨rfl, rfl⟩
  · rintro (rfl | rfl) <;> exact ⟨rfl, rfl⟩

theorem csRise_plain {s : State} (h : (∀ o, s.port.spi ≠ some (.writing o)) ∨ s.port.token = 0) :
    s.csRise = { s with port := { s.port with spi := none } } := by
  unfold State.csRise
  rcases spi : s.port.spi with _ | _ | o | ⟨o, flags, mask⟩
  case some.writing =>
    have zero : s.port.token = 0 := h.resolve_left fun none => none o spi
    exact if_pos zero
  all_goals rfl

theorem csRise_taken {s : State} {o : BitVec 7} (writing : s.port.spi = some (.writing o)) (token : s.port.token ≠ 0) :
    s.csRise = State.takeHanded { s with port := { s.port with spi := none } } := by
  simp only [State.csRise, writing, if_neg token]
  rfl

/-- R182: at the rise of CSn the command that a write has handed over is taken. -/
theorem exec_of_csRise {s : State} {o : BitVec 7} (writing : s.port.spi = some (.writing o)) (token : s.port.token ≠ 0)
    {c : Instr} {bytes : List Byte} (block : blockOf c = some bytes) (wf : c.wf = true)
    (inPlace : s.port.block.take bytes.length = bytes) :
    exec c { s with port := { s.port with spi := none } } = .next s.csRise := by
  obtain ⟨code, args, take, shape, row⟩ := handedAs_of_blockOf block wf
  rw [csRise_taken writing token]
  refine row.exec_held ?_
  rw [State.holds_of_cons shape]
  exact decide_eq_true inPlace

theorem transactionsMoveBytes : TransactionsMoveBytes := by
  intro s spi
  refine ⟨rfl, spi_silent, fun access b => ?_, fun o writing b => ⟨_, rfl, ?_⟩, fun o flags mask reading => ?_,
    csRise_plain, fun o writing token c bytes => exec_of_csRise writing token, fun _ _ => rfl⟩
  · simp only [State.spiByte, access]
    rfl
  · simp only [State.spiByte, writing]
    rfl
  · obtain ⟨plain, flagsPair, maskPair⟩ := reading_moves reading
    refine ⟨?_, fun b => s.spiByte_reading b o flags mask reading, plain, flagsPair, maskPair⟩
    rw [State.sdoDriven, spiOut_reading reading, Option.isSome_some]

/-! ## TXEN and TXD -/

theorem NodeState.sends_iff (n : NodeState) : n.sends = true ↔ n = .running ∨ n = .test := by
  cases n <;> decide

theorem txen_iff (s : State) : s.txen = true ↔ (s.port.nodeState = .running ∨ s.port.nodeState = .test) ∧
    ∃ f, s.chan.txFrame = some f ∧ f.looped = false := by
  rw [← NodeState.sends_iff, State.txen, State.radiated]
  rcases s.chan.txFrame with _ | f <;> simp [Option.filter, Option.isSome_iff_exists]

theorem radiated_of_txen {s : State} (high : s.txen = true) {f : TxFrame} (sent : s.chan.txFrame = some f) :
    s.radiated = some f := by
  obtain ⟨sends, g, held, live⟩ := (txen_iff s).mp high
  obtain rfl : g = f := Option.some.inj (held.symm.trans sent)
  rw [State.radiated, if_pos ((NodeState.sends_iff _).mpr sends), held]
  simp [Option.filter, live]

theorem txdCarriesTheFrame : TxdCarriesTheFrame := by
  intro s
  refine ⟨txen_iff s, fun low bit => s.txd_of_txen_low bit low, fun high f sent byte i small => ?_, rfl⟩
  have place : (8 * byte + i) / 8 = byte := by omega
  have bit : (8 * byte + i) % 8 = i := by omega
  simp only [State.txd, radiated_of_txen high sent, place, bit]
  rfl

/-- Settles O17: reads offset by offset, transactions byte by byte, and TXD as the run of the frame radiated. -/
theorem portReadsAndLines : Obligations.PortReadsAndLines :=
  ⟨portReadsShowTheArea, transactionsMoveBytes, txdCarriesTheFrame⟩

end Sys2Proof.Machine
end

section
/-! Events on the input pins: STOPn (R129, R130) and carrier detect (R160, R161), and what every frame placed keeps. -/

namespace Sys2Proof.Machine

/-! ## What placing a frame does, step by step (R157) -/

/-- R73: of the requests some have left and none has come, and a change leaves each request's element. -/
def RequestUnit.Reduced (u v : RequestUnit) : Prop :=
  v = { u with list := v.list } ∧ ∀ r ∈ v.list, ∃ q ∈ u.list, q.element = r.element

theorem RequestUnit.reduced_map (u : RequestUnit) (e : NodeId) (f : Request → Request)
    (own : ∀ q, (f q).element = q.element) :
    u.Reduced { u with list := u.list.map fun r => if r.element = e then f r else r } := by
  refine ⟨rfl, fun r member => ?_⟩
  obtain ⟨q, listed, rfl⟩ := List.mem_map.mp member
  refine ⟨q, listed, ?_⟩
  split
  · exact (own q).symm
  · rfl

theorem RequestUnit.reduced_filter (u : RequestUnit) (test : Request → Bool) :
    u.Reduced { u with list := u.list.filter test } :=
  ⟨rfl, fun r member => ⟨r, (List.mem_filter.mp member).1, rfl⟩⟩

/-- A relation that every step of placing a frame keeps: entering the queue, leaving it, the count of drops, a notice posted,
and a reduction of the requests. -/
structure KeptByPlacing (R : State → State → Prop) : Prop where
  refl : ∀ s, R s s
  trans : ∀ {s t u}, R s t → R t u → R s u
  enterQueue : ∀ f s, R s (s.enterQueue f)
  setQueue : ∀ q (s : State), R s (s.mapChan fun c => { c with txQueue := q })
  countDrop : ∀ s : State, R s s.countDrop
  postNotice : ∀ k i c d (s : State), R s (s.postNotice k i c d)
  mapReq : ∀ f (s : State), s.req.Reduced (f s.req) → R s (s.mapReq f)

namespace KeptByPlacing

variable {R : State → State → Prop} (kept : KeptByPlacing R)
include kept

theorem setRequest (e : NodeId) (f : Request → Request) (own : ∀ q, (f q).element = q.element) (s : State) :
    R s (s.setRequest e f) := kept.mapReq _ s (s.req.reduced_map e f own)

theorem closeRequest (r : Request) (k : NoticeKind) (d : Half) (s : State) : R s (s.closeRequest r k d) :=
  kept.trans (kept.postNotice ..) (kept.mapReq _ _ (RequestUnit.reduced_filter ..))

theorem finalMiss (r : Request) (s : State) : R s (s.finalMiss r) := by
  unfold State.finalMiss
  split
  case h_3 =>
    exact kept.trans (kept.setRequest r.element (fun q => { q.noWait with renewPending := false }) (fun _ => rfl) s)
      (kept.postNotice ..)
  all_goals exact kept.closeRequest ..

theorem missWith (place : QueuedFrame → State → State) (h : ∀ f s, R s (place f s)) (r : Request) (b : TxBody)
    (s : State) : R s (s.missWith place r b) := by
  unfold State.missWith
  split
  · exact kept.setRequest r.element Request.noWait (fun _ => rfl) s
  · split
    · exact kept.trans (kept.setRequest r.element (fun q => { q.noWait with tries := q.tries - 1 }) (fun _ => rfl) s)
        (h _ _)
    · exact kept.finalMiss ..

theorem placeBy (retry : Request → TxBody → State → State) (h : ∀ r b s, R s (retry r b s)) (f : QueuedFrame)
    (s : State) : R s (s.placeBy retry f) := by
  have discards (g : QueuedFrame) (t : State) : R t (t.discard retry g) := by
    unfold State.discard
    split
    · exact h ..
    · exact kept.refl t
  unfold State.placeBy State.placeFull
  split
  · exact kept.refl s
  split
  · exact kept.refl s
  split
  · exact kept.enterQueue ..
  split
  · split
    · exact kept.trans (kept.trans (kept.trans (kept.setQueue ..) (kept.countDrop _)) (kept.enterQueue ..)) (discards ..)
    · exact kept.refl s
  · exact kept.trans (kept.countDrop s) (discards ..)

theorem place (f : QueuedFrame) (s : State) : R s (s.place f) := by
  have all (n : Nat) : ∀ f s, R s (State.placeWith n f s) := by
    induction n with
    | zero => exact fun f s => kept.placeBy _ (fun _ _ s => kept.refl s) f s
    | succ n ih => exact fun f s => kept.placeBy _ (fun r b s => kept.missWith _ ih r b s) f s
  exact all 5 f s

end KeptByPlacing

/-- Every event flag that was set is set. -/
def KeepsFlags (s t : State) : Prop := ∀ f, s.hasFlag f = true → t.hasFlag f = true

theorem State.setFlag_keepsFlags (g : EventFlag) (s : State) : KeepsFlags s (s.setFlag g) := by
  intro f set
  simp only [State.hasFlag] at set
  simp [State.hasFlag, State.setFlag, set]

theorem State.postNotice_keepsFlags (k : NoticeKind) (i c : Byte) (d : Half) (s : State) :
    KeepsFlags s (s.postNotice k i c d) := by
  unfold State.postNotice
  split
  · exact fun f set => State.setFlag_keepsFlags .notice (s.mapPort _) f set
  · exact State.setFlag_keepsFlags _ s

theorem keepsFlags_keptByPlacing : KeptByPlacing KeepsFlags where
  refl _ _ h := h
  trans h k f set := k f (h f set)
  enterQueue f s g set := by
    obtain ⟨k, e, queued⟩ := State.enterQueue_eq f s
    rw [queued]
    exact set
  setQueue _ _ _ h := h
  countDrop _ _ h := h
  postNotice := State.postNotice_keepsFlags
  mapReq _ _ _ _ h := h

theorem State.placeHalt_keepsFlags (s : State) : KeepsFlags s s.placeHalt := by
  unfold State.placeHalt
  split
  · exact keepsFlags_keptByPlacing.place _ s
  · exact keepsFlags_keptByPlacing.refl s

/-! ## STOPn (R129, R130) -/

/-- R129: the STOP state active, before the HALT schedule places its first frame. -/
def State.stopSet (s : State) : State :=
  (if s.phase.latch then s else s.setFlag .haltChanged).mapPhase (PhaseUnit.stopped s.localMs)

theorem State.stopSet_latched (s : State) (h : s.phase.latch = true) :
    s.stopSet = s.mapPhase (PhaseUnit.stopped s.localMs) := by rw [State.stopSet, if_pos h]

theorem State.activateStop_eq (s : State) :
    s.activateStop = if s.phase.haltDue.isSome then s.stopSet else s.stopSet.placeHalt := by
  rcases latched : s.phase.latch with _ | _ <;> rcases due : s.phase.haltDue with _ | d <;>
    simp [State.activateStop, State.stopSet, State.setLatch, State.beginHaltSchedule, latched, due, State.mapPhase,
      State.setFlag, State.mapPort, PhaseUnit.stopped]

theorem State.stopSet_keeps (s : State) : s.stopSet.port.nodeState = s.port.nodeState ∧ s.stopSet.chan = s.chan ∧
    s.stopSet.req = s.req ∧ s.stopSet.phase = s.phase.stopped s.localMs ∧
    SameOutsidePlayer { s with phase := s.phase.stopped s.localMs } s.stopSet := by
  unfold State.stopSet
  cases s.phase.latch <;> exact ⟨rfl, rfl, rfl, rfl, by simp [SameOutsidePlayer, State.setFlag]⟩

theorem State.stopSet_flag (s : State) (clear : s.phase.latch = false) : s.stopSet.hasFlag .haltChanged = true := by
  simp [State.stopSet, clear, State.hasFlag, State.setFlag, EventFlag.bit]

/-- R129, R130: a STOP state that becomes active. -/
theorem State.activateStop_does (s : State) :
    s.activateStop.phase = s.phase.stopped s.localMs ∧
    (s.phase.latch = false → s.activateStop.hasFlag .haltChanged = true) ∧
    (s.phase.haltDue = none → s.port.nodeState = .running ∨ s.port.nodeState = .test →
      (∀ f ∈ s.chan.txQueue, f.body ≠ .halt) → s.chan.txQueue.length < 8 →
      s.activateStop.chan.txQueue = s.chan.txQueue ++ [{ body := .halt, ofRequest := false }]) ∧
    (s.phase.haltDue.isSome = true ∨ s.port.nodeState = .listening →
      s.activateStop.chan = s.chan ∧ s.activateStop.req = s.req) ∧
    SameOutsidePlayer { s with phase := s.phase.stopped s.localMs } s.activateStop := by
  obtain ⟨node, chan, req, phase, outside⟩ := s.stopSet_keeps
  have player : SameOutsidePlayer s.stopSet s.activateStop := by
    rw [State.activateStop_eq]
    split
    · exact .refl _
    · exact State.placeHalt_player _
  have all := outside.trans player
  refine ⟨?_, fun clear => ?_, fun due sends none room => ?_, fun quiet => ?_, all⟩
  · obtain ⟨-, -, same, -⟩ := player
    rw [same, phase]
  · rw [State.activateStop_eq]
    split
    · exact s.stopSet_flag clear
    · exact State.placeHalt_keepsFlags _ _ (s.stopSet_flag clear)
  · rw [State.activateStop_eq, due]
    have placed := State.placeHalt_placed s.stopSet (node ▸ sends) (chan ▸ none)
    have copied := (State.send_copy .halt s.stopSet (chan ▸ room) rfl (by simp)).1
    rw [chan] at copied
    exact (congrArg (fun t : State => t.chan.txQueue) placed).trans copied
  · have still : s.activateStop = s.stopSet := by
      rw [State.activateStop_eq]
      split
      · rfl
      · next due =>
        exact State.placeHalt_kept _ (.inr (.inl (node.trans (quiet.resolve_left due))))
    rw [still]
    exact ⟨chan, req⟩

theorem State.deactivateStop_eq (s : State) : s.deactivateStop = { s with phase := { s.phase with
    stop := false
    lastHalt := some s.time.ft
    haltDue := if s.phase.haltSending then s.phase.haltDue else none } } := by
  rcases sending : s.phase.haltSending with _ | _ <;>
    simp [State.deactivateStop, State.settleHaltSchedule, State.noteHalt, State.mapPhase, sending]

/-- Settles O18: each edge of STOPn is its cause and the change of the STOP state. -/
theorem stopInput : Obligations.StopInput := by
  intro s low high
  have started := NodeState.started_iff s.port.nodeState
  have falls : exec .stopActive s = .next (if s.port.nodeState.isStarted && !s.phase.stop then low.activateStop else low) :=
    rfl
  have rises : exec .stopInactive s =
      .next (if s.port.nodeState.isStarted && s.phase.stop then high.deactivateStop else high) := rfl
  rw [falls, rises]
  refine ⟨fun config => ?_, fun active => ?_, fun inactive => ?_, fun node inactive => ?_, fun node active => ?_⟩
  · rw [config]
    exact ⟨rfl, rfl⟩
  · exact next_neg (by simp [active]) _ low
  · exact next_neg (by simp [inactive]) _ high
  · refine ⟨low.activateStop, next_pos (by simp [started.mpr node, inactive]) _ low, ?_⟩
    obtain ⟨phase, flag, halt, quiet, outside⟩ := low.activateStop_does
    refine ⟨phase, flag, halt, quiet, ?_⟩
    rw [phase]
    exact outside
  · rw [if_pos (by simp [started.mpr node, active])]
    exact congrArg _ high.deactivateStop_eq

/-! ## Carrier detect (R160, R161) -/

theorem State.inLoopback_iff (s : State) : s.inLoopback = true ↔ inLoop s := by
  simp [State.inLoopback]

theorem Channel.carrierRise_drawn (n : Nat) (c : Channel) {k : Contention} {b : Nat} (held : c.contention = some k)
    (slots : k.slots = some b) : c.carrierRise n = { c with
      contention := some (Contention.waiting (some (if k.gapDone then b - max n k.passed else b))) } := by
  simp only [Channel.carrierRise, held, slots]

theorem Channel.carrierRise_undrawn (n : Nat) (c : Channel) {k : Contention} (held : c.contention = some k)
    (slots : k.slots = none) : c.carrierRise n = { c with
      contention := some (Contention.waiting none)
      exponent := min (c.exponent + 1) 7 } := by
  simp only [Channel.carrierRise, held, slots]
  rfl

theorem Channel.carrierRise_none (n : Nat) (c : Channel) (none : c.contention = none) : c.carrierRise n = c := by
  simp only [Channel.carrierRise, none]

theorem Channel.carrierFall_none (c : Channel) (none : c.contention = none) : c.carrierFall = c := by
  obtain ⟨_, contention, _⟩ := c
  obtain rfl : contention = Option.none := none
  rfl

theorem execCarrierDetectRise_eq (s : State) (n : Nat) (low : s.pins.cd = false) :
    exec (.carrierDetectRise n) s = .next (if s.inLoopback then s.mapPins fun p => { p with cd := true }
      else (s.mapPins fun p => { p with cd := true }).mapChan (Channel.carrierRise n)) :=
  congrArg Host.Outcome.next (if_neg (by simp [low]))

theorem execCarrierDetectFall_eq (s : State) (high : s.pins.cd = true) :
    exec .carrierDetectFall s = .next (if s.inLoopback then s.mapPins fun p => { p with cd := false }
      else (s.mapPins fun p => { p with cd := false }).mapChan Channel.carrierFall) :=
  congrArg Host.Outcome.next (if_pos high)

/-- Settles O19: the two edges of CD on a contention before its draw, after it, and on none. -/
theorem carrierDetect : Obligations.CarrierDetect := by
  intro s n up down gap
  have loop := s.inLoopback_iff
  refine ⟨fun high => ?_, fun low => ?_, fun low still => ?_, fun high still => ?_, fun low live k held => ?_,
    fun high live k held => ?_⟩
  · exact congrArg Host.Outcome.next (if_pos high)
  · exact next_neg (by simp [low]) _ s
  · rw [execCarrierDetectRise_eq s n low]
    split
    · rfl
    · next live =>
      have none := still.resolve_left fun h => live (loop.mpr h)
      exact congrArg (fun c => Host.Outcome.next { up with chan := c }) (s.chan.carrierRise_none n none)
  · rw [execCarrierDetectFall_eq s high]
    split
    · rfl
    · next live =>
      have none := still.resolve_left fun h => live (loop.mpr h)
      exact congrArg (fun c => Host.Outcome.next { down with chan := c }) (s.chan.carrierFall_none none)
  · rw [execCarrierDetectRise_eq s n low, if_neg (mt loop.mp live)]
    exact ⟨fun undrawn =>
        congrArg (fun c => Host.Outcome.next { up with chan := c }) (s.chan.carrierRise_undrawn n held undrawn),
      fun b drawn =>
        congrArg (fun c => Host.Outcome.next { up with chan := c }) (s.chan.carrierRise_drawn n held drawn)⟩
  · rw [execCarrierDetectFall_eq s high, if_neg (mt loop.mp live)]
    have fallen : s.chan.carrierFall = { s.chan with contention := some (Contention.waiting k.remaining) } := by
      rw [Channel.carrierFall, held, Option.map_some]
    exact congrArg (fun c => Host.Outcome.next { down with chan := c }) fallen

end Sys2Proof.Machine
end

section
/-! The local ms (R95, R96): field time, the counters of field ms and of local ms, and the stamp of a frame being
sent. -/

namespace Sys2Proof.Machine

/-! ## Counting field ms boundaries (R7, R58, R83) -/

theorem State.countSeat_eq (s : State) (k n : Nat) (x : Seat) :
    s.countSeat k n x = countedSeat s.running (s.senseUse && !s.senseActive n) k x := by
  cases x with
  | held c p r h => simp only [State.countSeat, countedSeat, Bool.and_right_comm]
  | _ => rfl

theorem Request.countDown_eq (k : Nat) (r : Request) : r.countDown k = if r.state = .seated then (match r.margin with
    | none => { r with countdown := r.countdown - k }
    | some m => { r with margin := some (m - k) }) else r := rfl

/-- R96: the counting is that of the statements, with the holdover counted beside. -/
theorem State.countField_eq (k : Nat) (s : State) :
    s.countField k = { fieldCounted k s with time := { s.time with holdover := s.time.holdover - k } } := by
  have seats : s.countSeat k = fun n x => countedSeat s.running (s.senseUse && !s.senseActive n) k x :=
    funext fun n => funext fun x => s.countSeat_eq k n x
  rcases run : s.running with _ | _
  · have still : (s.phase.phase.isRunningPhase && !s.phase.latch) = false := run
    simp only [State.countField, seats, run, fieldCounted, still, Bool.false_eq_true, if_false]
    rfl
  · have runs : (s.phase.phase.isRunningPhase && !s.phase.latch) = true := run
    simp only [State.countField, seats, run, fieldCounted, runs, if_true]
    rfl

theorem fieldCounted_keeps (k : Nat) (s : State) :
    (fieldCounted k s).chan = s.chan ∧ (fieldCounted k s).freeIndex = s.freeIndex := by
  unfold fieldCounted
  dsimp only
  split <;> exact ⟨rfl, rfl⟩

/-! ## The stamp of a frame in transmission (R154) -/

/-- What a movement of FT leaves of the channel and the free-value index: the stamp of a frame in transmission, where it is
open, is the one it had or that of the new FT, by one free value. -/
def Restamped (s : State) (ft : Nat) (chan : Channel) (index : Nat) : Prop :=
  chan = { s.chan with txFrame := chan.txFrame } ∧
  (s.chan.txFrame = none → chan = s.chan ∧ index = s.freeIndex) ∧
  ∀ g, s.chan.txFrame = some g → ∃ stamp : Quad,
    chan.txFrame = some { g with header := { g.header with stamp := stamp } } ∧
    (g.stampOpen = false ∨ g.looped = true → stamp = g.header.stamp ∧ index = s.freeIndex) ∧
    (g.stampOpen = true → g.looped = false → index = s.freeIndex + 1) ∧
    (stamp = g.header.stamp ∨ stamp = BitVec.ofNat 32 ft)

theorem Restamped.of_same {s u : State} {ft : Nat} {chan : Channel} {index : Nat} (same : u.chan = s.chan)
    (free : u.freeIndex = s.freeIndex) (h : Restamped u ft chan index) : Restamped s ft chan index := by
  unfold Restamped at *
  rwa [same, free] at h

theorem State.restamp_none {s : State} (h : s.chan.txFrame = none) : s.restamp = s := by
  rw [State.restamp, h]

theorem State.restamp_closed {s : State} {g : TxFrame} (h : s.chan.txFrame = some g)
    (closed : g.stampOpen = false ∨ g.looped = true) : s.restamp = s := by
  rw [State.restamp, h]
  refine if_neg ?_
  rcases closed with c | c <;> simp [c]

theorem State.restamp_open {s : State} {g : TxFrame} (h : s.chan.txFrame = some g) (isOpen : g.stampOpen = true)
    (live : g.looped = false) : s.restamp = { s with
      chan := { s.chan with txFrame := some { g with header := { g.header with
        stamp := if Config.freeBeforeSync s.freeIndex then s.ftStamp else g.header.stamp } } }
      freeIndex := s.freeIndex + 1 } := by
  simp only [State.restamp, h, isOpen, live, Bool.not_false, Bool.and_self, if_true]
  rfl

theorem State.restamp_eq (s : State) :
    s.restamp = { s with chan := s.restamp.chan, freeIndex := s.restamp.freeIndex } ∧
      Restamped s s.time.ft s.restamp.chan s.restamp.freeIndex := by
  rcases sent : s.chan.txFrame with _ | g
  · rw [State.restamp_none sent]
    exact ⟨rfl, rfl, fun _ => ⟨rfl, rfl⟩, fun g h => absurd (sent.symm.trans h) (by simp)⟩
  · by_cases closed : g.stampOpen = false ∨ g.looped = true
    · rw [State.restamp_closed sent closed]
      refine ⟨rfl, rfl, fun _ => ⟨rfl, rfl⟩, fun g' h => ⟨g'.header.stamp, h, fun _ => ⟨rfl, rfl⟩, ?_, .inl rfl⟩⟩
      obtain rfl : g' = g := Option.some.inj (h.symm.trans sent)
      intro isOpen live
      simp [isOpen, live] at closed
    · obtain ⟨isOpen, live⟩ : g.stampOpen = true ∧ g.looped = false := by simpa using closed
      rw [State.restamp_open sent isOpen live]
      refine ⟨rfl, rfl, fun h => absurd (sent.symm.trans h) (by simp), fun g' h => ?_⟩
      obtain rfl : g' = g := Option.some.inj (h.symm.trans sent)
      refine ⟨_, rfl, fun c => absurd c closed, fun _ _ => rfl, ?_⟩
      split
      · exact .inr rfl
      · exact .inl rfl

/-- R94, R96: a movement of FT is the counting of the boundaries it crosses, and the stamp. -/
theorem State.moveFt_eq (ft : Nat) (s : State) :
    s.moveFt ft = { fieldCounted (ft / 1000 - s.time.ft / 1000) s with
        time := { s.time with holdover := s.time.holdover - (ft / 1000 - s.time.ft / 1000), ft := ft }
        chan := (s.moveFt ft).chan
        freeIndex := (s.moveFt ft).freeIndex } ∧
      Restamped s ft (s.moveFt ft).chan (s.moveFt ft).freeIndex := by
  obtain ⟨chan, index⟩ := fieldCounted_keeps (ft / 1000 - s.time.ft / 1000) s
  have counted : s.moveFt ft = State.restamp { fieldCounted (ft / 1000 - s.time.ft / 1000) s with
      time := { s.time with holdover := s.time.holdover - (ft / 1000 - s.time.ft / 1000), ft := ft } } := by
    rw [State.moveFt, State.countField_eq]
    rfl
  rw [counted]
  obtain ⟨whole, stamped⟩ := State.restamp_eq { fieldCounted (ft / 1000 - s.time.ft / 1000) s with
    time := { s.time with holdover := s.time.holdover - (ft / 1000 - s.time.ft / 1000), ft := ft } }
  exact ⟨whole, stamped.of_same chan index⟩

/-! ## What the counting reaches -/

theorem fieldCounted_eq (k : Nat) (s : State) : fieldCounted k s = { s with
    seat := { s.seat with
      table := s.seat.table.mapIdx fun n x => countedSeat s.running (s.senseUse && !s.senseActive n) k x }
    arb := (fieldCounted k s).arb
    req := (fieldCounted k s).req } := by
  rcases run : (s.phase.phase.isRunningPhase && !s.phase.latch) with _ | _ <;>
    simp only [fieldCounted, State.running, run] <;> rfl

theorem fieldCounted_halted (k : Nat) (s : State) (h : s.running = false) :
    (fieldCounted k s).arb = s.arb ∧ (fieldCounted k s).req = s.req := by
  have run : (s.phase.phase.isRunningPhase && !s.phase.latch) = false := h
  simp only [fieldCounted, run]
  exact ⟨rfl, rfl⟩

theorem fieldCounted_list (k : Nat) (s : State) : (fieldCounted k s).arb.waiting = s.arb.waiting ∧
    (fieldCounted k s).arb.ignoreCount = s.arb.ignoreCount := by
  unfold fieldCounted
  dsimp only
  split <;> exact ⟨rfl, rfl⟩

theorem fieldCounted_running (k : Nat) (s : State) (h : s.running = true) :
    (fieldCounted k s).arb = (countedStanding k s).arb ∧ (fieldCounted k s).req = (countedStanding k s).req := by
  have run : (s.phase.phase.isRunningPhase && !s.phase.latch) = true := h
  simp only [fieldCounted, run]
  exact ⟨rfl, rfl⟩

/-- R19: a HELD seat at an active reading of its sense input. -/
def Seat.sensed (active : Bool) (x : Seat) : Seat :=
  match x with
  | .held c p r h => .held c p (if active then 300 else r) h
  | .free | .guard _ _ _ | .clearing _ => x

theorem Seat.sensed_false (x : Seat) : x.sensed false = x := by cases x <;> rfl

theorem State.readSense_eq (s : State) : s.readSense = { s with seat := { s.seat with
    table := s.seat.table.mapIdx fun n x => x.sensed (s.senseUse && s.senseActive n) } } := by
  rcases use : s.senseUse with _ | _
  · have still : (fun (_ : Nat) (x : Seat) => x.sensed false) = fun _ x => x := by
      simp only [Seat.sensed_false]
    simp [State.readSense, use, still, List.mapIdx_eq_zipIdx_map]
  · have read : (fun (n : Nat) (x : Seat) => x.sensed (true && s.senseActive n)) = fun n x => match x with
        | .held c pulse release h => .held c pulse (if s.senseActive n then 300 else release) h
        | .free => .free
        | .guard c r h => .guard c r h
        | .clearing r => .clearing r := by
      funext n x
      cases x <;> rfl
    simp only [State.readSense, use, if_true, read]
    rfl

/-- R147, R168, R172, R186: the counters of local ms in each node state. -/
theorem State.countLocal_eq (s : State) : s.countLocal = { s with
    peers := { s.peers with slots := if decide (s.port.nodeState ≠ .config) then s.peers.slots.map (fun x =>
      (x.1, { x.2 with silence := if x.2.heard then x.2.silence - 1 else x.2.silence })) else s.peers.slots }
    link := { s.link with
      elapsed := if decide (s.port.nodeState ≠ .config) then min (s.link.elapsed + 1) s.link.windowLength
        else s.link.elapsed
      remaining := if s.port.nodeState = .listening ∨ s.port.nodeState = .running then s.link.remaining - 1
        else s.link.remaining }
    port := { s.port with
      listenRemaining := if s.port.nodeState = .listening then s.port.listenRemaining - 1
        else s.port.listenRemaining } } := by
  have silence : (fun x : NodeId × PeerSlot => (x.1, x.2.countSilence)) = fun x =>
      (x.1, { x.2 with silence := if x.2.heard then x.2.silence - 1 else x.2.silence }) := by
    funext ⟨id, p⟩
    unfold PeerSlot.countSilence
    by_cases heard : p.heard = true
    · simp only [if_pos heard]
    · simp only [if_neg heard]
  unfold State.countLocal State.countShared
  rw [silence]
  rcases node : s.port.nodeState with _ | _ | _ | _ <;> rfl

/-! ## The local ms (R95) -/

/-- The levels read and the counters of local ms, before FT moves. -/
def State.ticked (sense : BitVec 4) (s : State) : State :=
  { (s.mapPins fun p => { p with sense := sense }) with localMs := s.localMs + 1 }.readSense.countLocal

theorem State.ticked_eq (sense : BitVec 4) (s : State) : s.ticked sense = { s with
    pins := { s.pins with sense := sense }
    localMs := s.localMs + 1
    seat := { s.seat with
      table := s.seat.table.mapIdx fun n x => x.sensed (s.senseUse && sense.getLsbD n) }
    peers := (s.ticked sense).peers
    link := (s.ticked sense).link
    port := (s.ticked sense).port } ∧
    (s.ticked sense).port.cfg = s.port.cfg := by
  rw [State.ticked, State.readSense_eq, State.countLocal_eq]
  exact ⟨rfl, rfl⟩

/-- A frame in transmission after the first local ms: its stamp stands, unless it is of a loopback test. -/
def Channel.stampClosed (c : Channel) : Channel :=
  { c with txFrame := c.txFrame.map fun f => { f with stampOpen := f.stampOpen && f.looped } }

/-- R95: a local ms is the levels read, the local counters, the movement of FT with its counting, and the stamp closed. -/
theorem State.localTick_eq (sense : BitVec 4) (s : State) :
    let ft := s.time.ftAfter.1
    let k := ft / 1000 - s.time.ft / 1000
    ∃ chan index, Restamped s ft chan index ∧ s.localTick sense = { fieldCounted k (s.ticked sense) with
      time := { s.time with
        ft := ft
        fraction := s.time.advance.2
        stall := s.time.ftAfter.2
        holdover := s.time.holdover - k }
      chan := chan.stampClosed
      freeIndex := index } := by
  intro ft k
  obtain ⟨whole, -⟩ := s.ticked_eq sense
  have time : (s.ticked sense).time = s.time := by rw [whole]
  have chan : (s.ticked sense).chan = s.chan := by rw [whole]
  have index : (s.ticked sense).freeIndex = s.freeIndex := by rw [whole]
  obtain ⟨moved, stamped⟩ := (s.ticked sense).moveFt_eq ft
  rw [time] at moved
  refine ⟨_, _, stamped.of_same chan index, ?_⟩
  have tick : s.localTick sense = (((s.ticked sense).moveFt (s.ticked sense).time.ftAfter.1).mapTime fun t =>
      { t with fraction := (s.ticked sense).time.advance.2, stall := (s.ticked sense).time.ftAfter.2 }).closeStamp := rfl
  rw [tick, time]
  exact congrArg (fun u : State => (u.mapTime fun t =>
    { t with fraction := s.time.advance.2, stall := s.time.ftAfter.2 }).closeStamp) moved

/-! ## Field time after a local ms -/

theorem FieldTime.ftAfter_eq (t : FieldTime) : t.ftAfter =
    (if t.stall = 0 then min (t.ft + t.advance.1) (2 ^ 40 - 1) else if t.advance.1 ≤ t.stall then t.ft
      else min (t.ft + (t.advance.1 - t.stall)) (2 ^ 40 - 1), t.stall - t.advance.1) := by
  unfold FieldTime.ftAfter ftMax
  dsimp only
  split
  · next none => rw [none, Nat.zero_sub]
  · split
    · rfl
    · next past =>
      have spent : t.stall - t.advance.1 = 0 := by omega
      rw [spent]

/-- R95: the advance of a local ms, in 256ths of a microsecond. -/
theorem FieldTime.advance_bounds (t : FieldTime) (fraction : t.fraction < 256) (low : -512 ≤ t.trim) (high : t.trim ≤ 511) :
    256 * (t.advance.1 : Int) + (t.advance.2 : Int) = (t.fraction : Int) + 256000 + t.trim ∧ t.advance.2 < 256 ∧
      998 ≤ t.advance.1 ∧ t.advance.1 ≤ 1002 ∧ (t.trim = 0 → t.advance.1 = 1000 ∧ t.advance.2 = t.fraction) ∧
      (t.trim = -512 → t.advance.1 = 998) := by
  unfold FieldTime.advance
  dsimp only
  omega

/-- Settles O20: the local ms moves FT by the advance, and the rest of field time stands. -/
theorem localMsAdvancesFieldTime : Obligations.LocalMsAdvancesFieldTime := by
  rintro s sense ⟨-, fraction, low, high, -⟩
  obtain ⟨sum, small, least, most, even, slow⟩ := s.time.advance_bounds fraction low high
  obtain ⟨chan, index, -, ticked⟩ := s.localTick_eq sense
  refine ⟨s.localTick sense, s.time.advance.1, s.time.advance.2, rfl, sum, small, least, most, even, slow, ?_, ?_, ?_⟩
  · rw [ticked, s.time.ftAfter_eq]
  · rw [ticked, fieldCounted_eq, (s.ticked_eq sense).1]
  · rw [ticked, fieldCounted_eq, (s.ticked_eq sense).1]

/-! ## The counters after a local ms -/

/-- The seat table after a local ms: the inputs read, then the boundaries counted. -/
theorem State.localTick_seat (sense : BitVec 4) (s : State) :
    (s.localTick sense).seat = { s.seat with
      table := s.seat.table.mapIdx fun n x => countedSeat s.running (s.senseUse && !sense.getLsbD n)
        ((s.localTick sense).time.ft / 1000 - s.time.ft / 1000) (x.sensed (s.senseUse && sense.getLsbD n)) } := by
  obtain ⟨chan, index, -, ticked⟩ := s.localTick_eq sense
  obtain ⟨whole, cfg⟩ := s.ticked_eq sense
  have seat : (s.ticked sense).seat = { s.seat with
      table := s.seat.table.mapIdx fun n x => x.sensed (s.senseUse && sense.getLsbD n) } := by rw [whole]
  have run : (s.ticked sense).running = s.running := by rw [State.running, whole]; rfl
  have use : (s.ticked sense).senseUse = s.senseUse := by rw [State.senseUse, cfg]; rfl
  have active (n : Nat) : (s.ticked sense).senseActive n = sense.getLsbD n := by rw [State.senseActive, whole]
  rw [ticked, fieldCounted_eq]
  simp only [seat, run, use, active, List.mapIdx_mapIdx]
  rfl

theorem countedSeat_sensed (run on active : Bool) (k : Nat) (c : Claim) (p : Option Nat) (r : Nat) (h : Bool) :
    countedSeat run (on && !active) k ((Seat.held c p r h).sensed (on && active)) = .held
      (if run then { c with hold := c.hold - k, countdown := c.countdown - k } else c) (p.map fun x => x - k)
      (if on then (if active then 300 else if h then r else r - k) else r) h := by
  cases on <;> cases active <;> cases h <;> rfl

theorem localMsCountsFieldCounters : LocalMsCountsFieldCounters := by
  intro s sense
  refine ⟨s.localTick sense, rfl, ?_⟩
  intro k run on
  have seat := s.localTick_seat sense
  have place (n : Nat) (x : Seat) (h : s.seat.table[n]? = some x) : (s.localTick sense).seat.table[n]? =
      some (countedSeat run (on && !sense.getLsbD n) k (x.sensed (on && sense.getLsbD n))) := by
    rw [seat]
    simp only [List.getElem?_mapIdx, h, Option.map_some]
    rfl
  obtain ⟨chan, index, -, ticked⟩ := s.localTick_eq sense
  obtain ⟨whole, -⟩ := s.ticked_eq sense
  have count : (s.localTick sense).time.ft = s.time.ftAfter.1 := by rw [ticked]
  have running : (s.ticked sense).running = run := by rw [State.running, whole]
  have arb : (s.ticked sense).arb = s.arb := by rw [whole]
  have req : (s.ticked sense).req = s.req := by rw [whole]
  have arbAfter : (s.localTick sense).arb = (fieldCounted k (s.ticked sense)).arb := by
    simp only [k, count]
    rw [ticked]
  have reqAfter : (s.localTick sense).req = (fieldCounted k (s.ticked sense)).req := by
    simp only [k, count]
    rw [ticked]
  refine ⟨by rw [seat, List.length_mapIdx], fun n h => place n _ h, fun n c r h x => place n _ x,
    fun n r h => place n _ h, fun n c p r h x => ?_, ?_, ?_, fun halted => ?_, fun runs => ?_, by rw [seat], ?_, ?_, ?_⟩
  · rw [place n _ x, countedSeat_sensed]
  · rw [arbAfter, (fieldCounted_list ..).1, arb]
  · rw [arbAfter, (fieldCounted_list ..).2, arb]
  · obtain ⟨sameArb, sameReq⟩ := fieldCounted_halted k _ (running.trans halted)
    exact ⟨arbAfter.trans (sameArb.trans arb), reqAfter.trans (sameReq.trans req)⟩
  · obtain ⟨countedArb, countedReq⟩ := fieldCounted_running k _ (running.trans runs)
    rw [arbAfter, reqAfter, countedArb, countedReq]
    simp only [countedStanding, arb, req, and_self]
  all_goals rw [ticked, fieldCounted_eq, whole]

theorem localMsCountsLocalCounters : LocalMsCountsLocalCounters := by
  intro s sense
  refine ⟨s.localTick sense, rfl, ?_⟩
  intro up
  obtain ⟨chan, index, ⟨sameChan, idle, sent⟩, ticked⟩ := s.localTick_eq sense
  have count : (s.localTick sense).time.ft = s.time.ftAfter.1 := by rw [ticked]
  rw [count, ticked, fieldCounted_eq, State.ticked, State.countLocal_eq, State.readSense_eq]
  refine ⟨rfl, rfl, rfl, fun none => ?_, fun f held => ?_⟩
  · obtain ⟨rfl, rfl⟩ := idle none
    refine ⟨?_, rfl⟩
    change s.chan.stampClosed = s.chan
    rw [Channel.stampClosed, none, Option.map_none, ← none]
  · obtain ⟨stamp, shown, closed, -, either⟩ := sent f held
    refine ⟨stamp, ?_, fun h => (closed h).1, either⟩
    change chan.stampClosed = _
    rw [Channel.stampClosed, shown, Option.map_some, sameChan]

/-- Settles O21: `State.localTick_eq` read block by block. -/
theorem localMsCounts : Obligations.LocalMsCounts := ⟨localMsCountsFieldCounters, localMsCountsLocalCounters⟩

end Sys2Proof.Machine
end

section
/-! The expiries of the seat unit (R6, R8, R10, R11, R19, R20) and how the end of a seat is told (R12). -/

namespace Sys2Proof.Machine

/-- R6: the entry to HELD is that of the statements. -/
theorem State.enterHeld_eq (s : State) (c : Claim) (h : Bool) : s.enterHeld c h = heldEntry s c h := by
  simp only [State.enterHeld, heldEntry, State.metered_eq, State.senseUse, decide_eq_true_eq]
  rfl

theorem canPay_iff (s : State) (p : NodeId) : canPay s p ↔ 1 ≤ s.budgetOf p := by
  change (∃ r, s.record p = some r ∧ 1 ≤ r.budget) ↔ _
  rw [State.budgetOf]
  rcases s.record p with _ | r
  · simp
  · simp

/-! ## One row of the seat timers on each state of its seat -/

section Held

variable {s : State} {n : Nat} {c : Claim} {p : Option Nat} {r : Nat} {h : Bool}
  (held : s.seat.table[n]? = some (.held c p r h))
include held

theorem claimAt_held : claimAt s n = some c := by simp only [claimAt, held]

theorem holdExpiry_held :
    exec (.holdExpiry n) s = .next (if c.hold = 0 then s.endSeatAndResolve n .expired else s) := by
  change execHoldExpiry n s = _
  rw [execHoldExpiry, State.seatAt, held]

theorem pulseCountdownExpiry_held : exec (.pulseCountdownExpiry n) s =
    .next (if s.metered c.offer && decide (c.countdown = 0) then
      if c.hold = 0 then s.endSeatAndResolve n .expired else s.pulseDue n c r h else s) := by
  change execPulseCountdownExpiry n s = _
  rw [execPulseCountdownExpiry, State.seatAt, held]

theorem senseReleaseExpiry_held : exec (.senseReleaseExpiry n) s =
    .next (if s.senseUse && !h && decide (r = 0) then s.endSeatAndResolve n .senseLost else s) := by
  change execSenseReleaseExpiry n s = _
  rw [execSenseReleaseExpiry, State.seatAt, held]

end Held

theorem silentHolderSenseLost_at {s : State} {n : Nat} {x : Seat} (at_ : s.seat.table[n]? = some x) :
    exec (.silentHolderSenseLost n) s =
      .next (if x.isSilentHeld && !s.senseActive n then s.endSeatAndResolve n .silent else s) := by
  change execSilentHolderSenseLost n s = _
  rw [execSilentHolderSenseLost, State.seatAt, at_]

theorem guardExpiryAndPulseEnd : GuardExpiryAndPulseEnd := by
  intro s n
  have guardRow : exec (.guardExpiry n) s = execGuardExpiry n s := rfl
  have pulseRow : exec (.pulseEnd n) s = execPulseEnd n s := rfl
  rw [guardRow, pulseRow, execGuardExpiry, execPulseEnd, State.seatAt]
  refine ⟨fun c h spent => ?_, fun other => ?_, fun c r h ended => ?_, fun other => ?_⟩
  · rw [spent, ← s.enterHeld_eq c h]
    rfl
  · split
    · next c r h guard => exact next_neg (fun zero => other c h (by rw [guard, zero])) _ s
    all_goals rfl
  · rw [ended]
    rfl
  · split
    · next c p r h held => exact next_neg (fun zero => other c r h (by rw [held, zero])) _ s
    all_goals rfl

theorem pulseChargesOneUnit : PulseChargesOneUnit := by
  intro s n c p r h held metered due left pays
  have meters : s.metered c.offer = true := by rw [State.metered_eq, decide_eq_true metered]
  rw [pulseCountdownExpiry_held held, meters, decide_eq_true due, Bool.and_self, if_pos rfl, if_neg left, State.pulseDue,
    if_pos ((canPay_iff ..).mp pays)]
  rfl

theorem timersEndTheirSeats : TimersEndTheirSeats := by
  intro s n c p r h
  refine ⟨fun held => ?_, fun silent => ?_, fun other => ?_⟩
  · have claim := claimAt_held held
    simp only [holdExpiry_held held, pulseCountdownExpiry_held held, senseReleaseExpiry_held held,
      silentHolderSenseLost_at held, seatEnds_eq n c _ s claim, State.metered_eq, State.senseUse, Bool.and_eq_true,
      decide_eq_true_eq, Bool.not_eq_true', Seat.isSilentHeld, canPay_iff]
    refine ⟨fun spent => if_pos spent ▸ rfl, fun left => next_neg left _ s, fun metered due => ⟨fun spent => ?_,
      fun left poor => ?_⟩, fun other => next_neg (by grind) _ s, fun use free run => next_pos ⟨⟨use, free⟩, run⟩ _ s,
      fun other => next_neg ?_ _ s, fun free => next_neg (by simp [free]) _ s⟩
    · rw [if_pos ⟨metered, due⟩, if_pos spent]
    · rw [if_pos ⟨metered, due⟩, if_neg left, State.pulseDue, if_neg poor]
    · rintro ⟨⟨use, free⟩, run⟩
      rcases other with o | o | o
      · exact use o
      · simp [free] at o
      · exact o run
  · obtain ⟨x, at_, claim, kept⟩ : ∃ x, s.seat.table[n]? = some x ∧ claimAt s n = some c ∧ x.isSilentHeld = true := by
      rcases silent with held | guard
      · exact ⟨_, held, claimAt_held held, rfl⟩
      · exact ⟨_, guard, by simp only [claimAt, guard], rfl⟩
    rw [silentHolderSenseLost_at at_, kept, seatEnds_eq n c .silent s claim, State.senseActive]
    exact ⟨fun low => by rw [low]; rfl, fun high => by rw [high]; rfl⟩
  · have holdRow : exec (.holdExpiry n) s = execHoldExpiry n s := rfl
    have pulseRow : exec (.pulseCountdownExpiry n) s = execPulseCountdownExpiry n s := rfl
    have senseRow : exec (.senseReleaseExpiry n) s = execSenseReleaseExpiry n s := rfl
    rw [holdRow, pulseRow, senseRow, execHoldExpiry, execPulseCountdownExpiry, execSenseReleaseExpiry, State.seatAt]
    rcases at_ : s.seat.table[n]? with _ | _ | _ | ⟨c, p, r, h⟩ | _
    case some.held => exact absurd at_ (other c p r h)
    all_goals exact ⟨rfl, rfl, rfl⟩

/-! ## How the end of a seat is told (R12) -/

/-- The ring written with the last-ended claim, before the holder is told. -/
def State.endWritten (c : Claim) (reason : Reason) (s : State) : State :=
  s.mapArb fun a => { a with ring := a.ring.map fun x =>
    if x.player = c.player then { x with engagement := .none, lastEnded := some (c.number, reason) } else x }

/-- R12: at an end that is not the match's, the holder's answer and the notice, with the ring and the seat. -/
theorem seatEnded_told (n : Nat) (c : Claim) (reason : Reason) (s : State) (live : reason ≠ .matchEnd) :
    seatEnded n c reason s =
      { ((s.endWritten c reason).answer c.player c.number (.ended reason.code)).postNotice .seatEnded
          (c.player.setWidth 8) c.number (reason.code.setWidth 16) with
        arb := { s.arb with ring := ringAfterEnd s c reason }
        seat := { s.seat with
          table := s.seat.table.set n
            (if s.port.cfg.clearing = 0 then .free else .clearing s.port.cfg.clearing.toNat) } } := by
  simp only [seatEnded, if_neg live, posted_eq]
  rfl

/-- The answer of an end reaches no port and no request in TEST and with room in the queue. -/
theorem answer_kept (p : NodeId) (c : Byte) (a : AnswerBody) (s : State)
    (h : s.port.nodeState = .test ∨ s.chan.txQueue.length < 8) :
    (s.answer p c a).port = s.port ∧ (s.answer p c a).req = s.req ∧ (s.answer p c a).link = s.link := by
  by_cases test : s.port.nodeState = .test
  · rw [State.answer_inTest p c a s test]
    exact ⟨rfl, rfl, rfl⟩
  · obtain ⟨k, e, sent⟩ := State.answer_room p c a s (h.resolve_left test) test
    rw [sent]
    exact ⟨rfl, rfl, rfl⟩

theorem seatEndsReach : SeatEndsReach := by
  intro s n c reason live t turned
  have told : t = _ := seatEnded_told n c reason s live
  have outside : SameOutsideElement s ((s.endWritten c reason).answer c.player c.number (.ended reason.code)) :=
    (State.mapArb_element _ s).trans (State.answer_element ..)
  rw [told]
  refine ⟨?_, rfl, rfl, fun live room => ?_, fun test => ?_, fun quiet => ?_⟩
  · exact outside.trans (State.postNotice_player .seatEnded (c.player.setWidth 8) c.number (reason.code.setWidth 16)
      ((s.endWritten c reason).answer c.player c.number (.ended reason.code))).element
  · obtain ⟨k, e, sent⟩ := State.answer_room c.player c.number (.ended reason.code) (s.endWritten c reason) room live
    simp only [State.postNotice_chan, sent]
    rfl
  · simp only [State.postNotice_chan, State.answer_inTest c.player c.number _ (s.endWritten c reason) test]
    rfl
  · obtain ⟨port, req, link⟩ := answer_kept c.player c.number (.ended reason.code) (s.endWritten c reason) quiet
    simp only [State.postNotice_req, State.postNotice_link]
    refine ⟨req, link, fun room => ?_⟩
    obtain ⟨-, time, -⟩ := outside
    rw [State.postNotice_room _ _ _ _ _ (by rw [port]; exact room)]
    simp only [port, State.fieldMs16, State.fieldMs, time]
    rfl

/-- Settles O22: the rows of the seat timers, and `seatEnded` told out. -/
theorem seatTimers : Obligations.SeatTimers :=
  ⟨guardExpiryAndPulseEnd, pulseChargesOneUnit, timersEndTheirSeats, seatEndsReach⟩

end Sys2Proof.Machine
end

section
/-! Grants (R40, R43 to R46, R65): the gate, eligibility, the choice by the ring mode, and the resolution seat by seat. -/

namespace Sys2Proof.Machine

/-! ## The gate and eligibility -/

theorem gateIsOpenExactly : GateIsOpenExactly := by
  intro s
  simp only [State.gateOpen, State.isElement_eq, State.running, Bool.and_eq_true, decide_eq_true_eq, Bool.not_eq_true']
  grind

theorem StandingRecord.clear_iff (r : StandingRecord) : r.benched = false ↔ r.bench = 0 := by
  simp [StandingRecord.benched]

theorem PartnerView.satisfiedFor_iff (v : PartnerView) (p : NodeId) : v.satisfiedFor p = true ↔ v.silent = false ∧
    (v.rule = .exclusive → ∀ x ∈ v.seats, x.state ≠ 1 ∧ x.state ≠ 2) ∧
    (v.rule = .companion → ∃ x ∈ v.seats, x.holder = some p ∧ x.state = 2) := by
  rw [PartnerView.satisfiedFor]
  rcases rule : v.rule with _ | _ <;> simp [ViewSeat.occupied]

theorem eligibleExactly : EligibleExactly := by
  intro s e
  have views : (s.views.all fun v => v.satisfiedFor e.player) = true ↔ ∀ v ∈ s.views, v.satisfiedFor e.player = true :=
    List.all_eq_true
  have record : recordOf s e.player = s.record e.player := rfl
  rw [State.eligible, record]
  rcases s.record e.player with _ | r
  · simp
  · simp only [Bool.and_eq_true, Bool.not_eq_true', decide_eq_true_eq, StandingRecord.clear_iff, views,
      PartnerView.satisfiedFor_iff, Option.some.injEq, exists_eq_left']
    simp only [State.offer, OfferSlot.openIn, phaseSetHas_eq]
    grind

/-! ## The choice by the ring mode (R46 step 3) -/

theorem ringModeOfCode_queue (c : Byte) (known : c.toNat ≤ 3) : (ringModeOfCode c.toNat).getD .queue = .queue ↔ c = 0 := by
  revert c
  decide

theorem State.ringMode_queue (s : State) (known : s.port.cfg.ringMode.toNat ≤ 3) :
    s.ringMode = .queue ↔ s.port.cfg.ringMode = 0 := ringModeOfCode_queue _ known

/-- The first of the images that meets a test is the image of the first that has such an image. -/
theorem find?_filterMap_eq_some {α β : Type} (f : α → Option β) (test : β → Bool) (l : List α) (y : β) :
    (l.filterMap f).find? test = some y ↔ test y = true ∧ ∃ before x after, l = before ++ x :: after ∧ f x = some y ∧
      ∀ q ∈ before, ∀ z, f q = some z → test z = false := by
  rw [List.find?_filterMap, Option.bind_eq_some_iff]
  simp only [List.find?_eq_some_iff_append, Bool.not_eq_true', Option.any_eq_true, Option.any_eq_false]
  constructor
  · rintro ⟨x, ⟨⟨z, image, holds⟩, before, after, split, fails⟩, found⟩
    obtain rfl : z = y := Option.some.inj (image.symm.trans found)
    exact ⟨holds, before, x, after, split, found, fun q member z image => fails q member z image⟩
  · rintro ⟨holds, before, x, after, split, found, fails⟩
    exact ⟨x, ⟨⟨y, found, holds⟩, before, after, split, fun q member z image => fails q member z image⟩, found⟩

theorem chosenByTheRingMode : ChosenByTheRingMode := by
  intro s e known
  have queue := s.ringMode_queue known
  refine ⟨fun zero => ?_, fun other => ?_⟩
  · rw [State.chosen, if_pos (queue.mpr zero), List.find?_eq_some_iff_append]
    simp only [Bool.not_eq_true']
  · rw [State.chosen, if_neg (mt queue.mp other), find?_filterMap_eq_some]
    rfl

theorem waitingAnswersTellThePlace : WaitingAnswersTellThePlace := by
  intro s p before after known order first
  have choosing : s.choosingOrder = before ++ p :: after := by
    rw [← order, State.choosingOrder]
    simp only [s.ringMode_queue known]
  rw [State.waitingAnswer, choosing, List.idxOf_append, if_neg first, List.idxOf_cons_self, Nat.zero_add]

/-! ## One grant (R46 steps 4 to 9) -/

theorem State.postNotice_seatArb (k : NoticeKind) (i c : Byte) (d : Half) (u : SeatUnit) (a : Arbiter) (s : State) :
    State.postNotice k i c d { s with seat := u, arb := a } = { s.postNotice k i c d with seat := u, arb := a } := by
  unfold State.postNotice
  split <;> rfl

theorem State.grantedSeat_eq (s : State) (e : Entry) :
    s.grantedSeat e = if s.seat.guardTime = 0 then heldEntry s (s.claimFor e) false
      else .guard (s.claimFor e) s.seat.guardTime false := by
  rw [State.grantedSeat, State.enterHeld_eq]

/-- R46 steps 5 and 7: the charge and the engagement, written together. -/
theorem charged_engaged (p : NodeId) (amount n : Nat) (ring : List StandingRecord) :
    (ring.map fun r => if r.player = p then { r with budget := r.budget - amount } else r).map
        (fun r => if r.player = p then { r with engagement := .seated n } else r) =
      ring.map fun r => if r.player = p then { r with budget := r.budget - amount, engagement := .seated n } else r := by
  rw [List.map_map]
  refine List.map_congr_left fun r _ => ?_
  by_cases own : r.player = p <;> simp [own]

theorem grant_eq (n : Nat) (e : Entry) (s : State) : s.grant n e = granted n e s := by
  have taken : ((s.dropEntry e.player).charge e.player (s.offer e.offer).cost.toNat).setSeat n (s.grantedSeat e) =
      { s with
        seat := { s.seat with table := s.seat.table.set n (s.grantedSeat e) }
        arb := { s.arb with
          waiting := s.arb.waiting.filter fun x => !decide (x.player = e.player)
          ring := s.arb.ring.map fun r =>
            if r.player = e.player then { r with budget := r.budget - (s.offer e.offer).cost.toNat } else r } } := rfl
  have charged := charged_engaged e.player (s.offer e.offer).cost.toNat n s.arb.ring
  unfold State.grant granted
  dsimp only
  rw [taken, State.postNotice_seatArb, State.grantedSeat_eq]
  refine congrArg (State.answer e.player e.claim _) ?_
  rcases mode : decide (s.port.cfg.ringMode = 2) with _ | _
  · have other : s.port.cfg.ringMode ≠ 2 := of_decide_eq_false mode
    rw [if_neg (mt s.ringMode_rotateOnGrant.mp other), if_neg other]
    simp only [State.setRecord, State.mapArb, charged, decide_not, posted_eq]
    rfl
  · have rotates : s.port.cfg.ringMode = 2 := of_decide_eq_true mode
    rw [if_pos (s.ringMode_rotateOnGrant.mpr rotates), if_pos rotates]
    simp only [State.setRecord, State.mapArb, charged, decide_not, posted_eq, moveToTail]
    rfl

/-! ## A resolution, seat by seat (R46) -/

/-- The number of FREE seats, which bounds the grants of a resolution. -/
def State.freeSeats (s : State) : Nat := s.seat.table.countP fun x => decide (x = .free)

theorem State.freeSeats_le (s : State) : s.freeSeats ≤ s.seat.table.length := List.countP_le_length

theorem State.grantedSeat_taken (s : State) (e : Entry) : s.grantedSeat e ≠ .free := by
  unfold State.grantedSeat State.enterHeld
  split <;> simp

theorem State.grant_freeSeats {s : State} {n : Nat} (e : Entry) (free : s.seat.table[n]? = some .free) :
    (s.grant n e).freeSeats + 1 = s.freeSeats := by
  obtain ⟨small, is⟩ := List.getElem?_eq_some_iff.mp free
  have some_ : 0 < s.freeSeats := List.countP_pos_iff.mpr ⟨.free, is ▸ List.getElem_mem small, by simp⟩
  rw [State.freeSeats, State.grant_table, List.countP_set small, is]
  simp only [s.grantedSeat_taken e, decide_true, if_true, decide_false, Bool.false_eq_true, if_false]
  exact Nat.sub_add_cancel some_

/-- R46: a pass grants the lowest FREE seat to the entry chosen. -/
theorem State.resolvePasses_grants {s : State} {n : Nat} {e : Entry} (k : Nat) (gate : s.gateOpen = true)
    (first : firstFree 0 s.seat.table = some n) (chosen : s.chosen = some e) :
    s.resolvePasses (k + 1) = (s.grant n e).resolvePasses k := by
  rw [State.resolvePasses, if_pos gate, first, chosen]

theorem State.resolvePasses_stops {s : State} (k : Nat)
    (h : s.gateOpen = false ∨ firstFree 0 s.seat.table = none ∨ s.chosen = none) : s.resolvePasses k = s := by
  cases k with
  | zero => rfl
  | succ k =>
    unfold State.resolvePasses
    rcases h with shut | none | none
    · simp [shut]
    · simp [none]
    · rw [none]
      cases firstFree 0 s.seat.table <;> exact ite_self _

/-- A pass grants, or the resolution has stopped. -/
theorem State.passes_or_stops (s : State) :
    (∃ n e, s.gateOpen = true ∧ firstFree 0 s.seat.table = some n ∧ s.chosen = some e) ∨
      s.gateOpen = false ∨ firstFree 0 s.seat.table = none ∨ s.chosen = none := by
  cases s.gateOpen <;> cases firstFree 0 s.seat.table <;> cases s.chosen <;> simp

/-- A pass more than there are FREE seats grants nothing. -/
theorem State.resolvePasses_enough (k : Nat) (s : State) (h : s.freeSeats ≤ k) :
    s.resolvePasses (k + 1) = s.resolvePasses k := by
  induction k generalizing s with
  | zero =>
    have none : ∀ x ∈ s.seat.table, x ≠ .free := by
      simpa [State.freeSeats, List.countP_eq_zero] using h
    exact State.resolvePasses_stops 1 (.inr (.inl (firstFree_none 0 _ none)))
  | succ k ih =>
    rcases s.passes_or_stops with ⟨n, e, gate, first, chosen⟩ | stops
    · have fewer := State.grant_freeSeats e (firstFree_free 0 n _ first).1
      rw [State.resolvePasses_grants (k + 1) gate first chosen, State.resolvePasses_grants k gate first chosen]
      exact ih _ (by rw [Nat.sub_zero] at fewer; omega)
    · rw [State.resolvePasses_stops _ stops, State.resolvePasses_stops _ stops]

/-- The lowest FREE seat is the one that a pass takes. -/
theorem firstFree_of_lowest (m n : Nat) (l : List Seat) (free : l[n]? = some .free)
    (lowest : ∀ k, k < n → l[k]? ≠ some .free) : firstFree m l = some (m + n) := by
  induction l generalizing m n with
  | nil => simp at free
  | cons x l ih =>
    cases n with
    | zero =>
      obtain rfl : x = .free := by simpa using free
      rfl
    | succ n =>
      have taken : x ≠ .free := fun h => lowest 0 (Nat.zero_lt_succ n) (by simp [h])
      rw [firstFree, if_neg taken, ih (m + 1) n (by simpa using free)
        fun k small => by simpa using lowest (k + 1) (Nat.succ_lt_succ small)]
      congr 1
      omega

theorem State.resolve_grants {s : State} {n : Nat} {e : Entry} (gate : s.gateOpen = true)
    (first : firstFree 0 s.seat.table = some n) (chosen : s.chosen = some e) : s.resolve = (s.grant n e).resolve := by
  have free := (firstFree_free 0 n _ first).1
  rw [Nat.sub_zero] at free
  obtain ⟨small, -⟩ := List.getElem?_eq_some_iff.mp free
  obtain ⟨k, size⟩ : ∃ k, s.seat.table.length = k + 1 := ⟨s.seat.table.length - 1, by omega⟩
  have same : (s.grant n e).seat.table.length = k + 1 := by rw [State.grant_table, List.length_set, size]
  have fewer := State.grant_freeSeats e free
  have bound := s.freeSeats_le
  rw [State.resolve, State.resolve, size, same, State.resolvePasses_grants k gate first chosen]
  exact (State.resolvePasses_enough k _ (by omega)).symm

theorem resolutionsGrantSeatBySeat : ResolutionsGrantSeatBySeat := by
  intro s
  refine ⟨fun stops => ?_, fun n e gate free lowest chosen => ?_⟩
  · refine State.resolvePasses_stops _ (stops.imp_right ?_)
    exact Or.imp_left (firstFree_none 0 s.seat.table)
  · have first := firstFree_of_lowest 0 n _ free lowest
    rw [Nat.zero_add] at first
    rw [State.resolve_grants gate first chosen, grant_eq]

/-- Settles O23: one grant is `grant_eq`, and the passes of a resolution are as many as can grant. -/
theorem resolutionsGrant : Obligations.ResolutionsGrant :=
  ⟨gateIsOpenExactly, eligibleExactly, chosenByTheRingMode, waitingAnswersTellThePlace, resolutionsGrantSeatBySeat⟩

end Sys2Proof.Machine
end

section
/-! The expiries of a clearing seat (R15), of a waiting entry (R31) and of a bench (R58, R89). -/

namespace Sys2Proof.Machine

/-! ## The clearing seat (R15) -/

theorem posted_withSeat (k : NoticeKind) (i c : Byte) (d : Half) (n : Nat) (x : Seat) (u : SeatUnit) (a : Arbiter)
    (s : State) : { posted k i c d (withSeat s n x) with seat := u, arb := a } =
      { posted k i c d s with seat := u, arb := a } := by
  have same : (withSeat s n x).port.notices.length < 16 ↔ s.port.notices.length < 16 := Iff.rfl
  unfold posted
  simp only [same]
  split <;> rfl

/-- The grant of a seat does not see what stood in it. -/
theorem granted_withSeat (n : Nat) (e : Entry) (x : Seat) (s : State) : granted n e (withSeat s n x) = granted n e s := by
  refine congrArg (State.send _) ((posted_withSeat _ _ _ _ n x _ _ s).trans ?_)
  simp only [withSeat, List.set_set]
  rfl

theorem granted_table (n : Nat) (e : Entry) (s : State) :
    (granted n e s).seat.table = s.seat.table.set n (s.grantedSeat e) := by
  rw [← grant_eq, State.grant_table]

theorem granted_noneFree {n : Nat} {e : Entry} {s : State} (taken : ∀ m x, m ≠ n → s.seat.table[m]? = some x → x ≠ .free) :
    ∀ x ∈ (granted n e s).seat.table, x ≠ .free := by
  intro x member
  rw [granted_table] at member
  obtain ⟨m, at_⟩ := List.mem_iff_getElem?.mp member
  rw [List.getElem?_set] at at_
  split at at_
  · split at at_
    · obtain rfl := Option.some.inj at_
      exact s.grantedSeat_taken e
    · simp at at_
  · next other => exact taken m x (Ne.symm other) at_

theorem clearingExpiry_cleared {s : State} {n : Nat} (cleared : s.seat.table[n]? = some (.clearing 0)) :
    exec (.clearingExpiry n) s = .next (withSeat s n .free).resolve := by
  change execClearingExpiry n s = _
  rw [execClearingExpiry, State.seatAt, cleared]
  rfl

/-- Settles O24: the row, and the one grant of a table with no other FREE seat. -/
theorem clearingExpiryFreesAndGrants : Obligations.ClearingExpiryFreesAndGrants := by
  intro s n
  refine ⟨fun other => ?_, fun cleared => ?_⟩
  · change execClearingExpiry n s = _
    rw [execClearingExpiry, State.seatAt]
    split
    · next r at_ => exact next_neg (fun zero => other _ at_ (by rw [zero])) _ s
    all_goals rfl
  · rw [clearingExpiry_cleared cleared]
    have stops := (resolutionsGrantSeatBySeat (withSeat s n .free)).1
    refine ⟨rfl, fun h => ?_, fun gate taken e chosen => ?_, _, rfl, ?_⟩
    · rw [stops (h.imp_right .inr)]
    · obtain ⟨small, -⟩ := List.getElem?_eq_some_iff.mp cleared
      have free : (withSeat s n .free).seat.table[n]? = some .free := by simp [withSeat, small]
      have below (m : Nat) (less : m < n) : (withSeat s n .free).seat.table[m]? ≠ some .free := by
        intro at_
        rw [withSeat, List.getElem?_set_ne (by omega)] at at_
        exact taken .free (List.mem_of_getElem? at_) rfl
      rw [(resolutionsGrantSeatBySeat (withSeat s n .free)).2 n e gate free below chosen, granted_withSeat]
      refine congrArg _ ((resolutionsGrantSeatBySeat (granted n e s)).1 (.inr (.inl (granted_noneFree ?_))))
      exact fun m x _ at_ => taken x (List.mem_of_getElem? at_)
    · exact (State.setSeat_element n .free s).trans (State.resolve_element _)

/-! ## Waiting entries and benches (R31, R58, R89) -/

theorem entryEnded_eq (e : Entry) (reason : Reason) (s : State) : entryEnded e reason s = s.endEntry e reason := by
  simp only [entryEnded, decide_not]
  rfl

theorem staleEntriesEnd : StaleEntriesEnd := by
  intro s p
  have row : exec (.entryStale p) s = execEntryStale p s := rfl
  have own : entryOf s p = s.entry p := rfl
  rw [row, own, execEntryStale]
  refine ⟨fun none => by rw [none], fun e found => ?_⟩
  have is : e.player = p := by simpa using List.find?_some found
  have written : SameOutsideElement s (s.endEntry e .stale) :=
    ((State.mapArb_element _ s).trans (State.mapArb_element _ _)).trans (State.answer_element ..)
  rw [found, entryEnded_eq]
  refine ⟨fun early => next_neg (by rw [State.fieldMs]; omega) _ s, fun late => ⟨next_pos late _ s, fun live room => ?_, ?_,
    written⟩⟩
  · obtain ⟨k, x, sent⟩ := State.answer_room e.player e.claim (.ended 11) ((s.dropEntry e.player).setRecord e.player fun r =>
      { r with engagement := .none, lastEnded := some (e.claim, .stale) }) room live
    rw [← is]
    exact congrArg (fun t : State => t.chan.txQueue) sent
  · exact (State.answer_keeps ..).1

theorem benchesEnd : BenchesEnd := by
  intro s
  refine ⟨fun p missing => ?_, fun p r found => ?_, rfl⟩
  · change execBenchExpiry p s = _
    have own : s.record p = none := missing
    rw [execBenchExpiry, own]
  · have own : s.record p = some r := found
    have row : exec (.benchExpiry p) s = .next (if r.benchEnding then
        (s.setRecord p fun q => { q with benchEnding := false }).resolve else s) := by
      change execBenchExpiry p s = _
      rw [execBenchExpiry, own]
    rw [row]
    exact ⟨fun still => next_neg (by simp [still]) _ s, fun ending => next_pos ending _ s⟩

/-- Settles O25, by the rows of the arbiter and of the request unit. -/
theorem staleEntriesAndBenches : Obligations.StaleEntriesAndBenches := ⟨staleEntriesEnd, benchesEnd⟩

end Sys2Proof.Machine
end

section
/-! Placing a frame (R76, R77, R157, R158): room, a full queue, and what a discarded frame means to its request. -/

namespace Sys2Proof.Machine

theorem framesHaveTheirClasses : FramesHaveTheirClasses :=
  ⟨fun b => by cases b <;> rfl, fun _ _ => rfl⟩

/-! ## A frame that enters the queue (R157, R160, R161) -/

/-- R160, R161: a contention begun by a frame that enters the queue, with k raised where CD is high. -/
def Channel.begun (f : QueuedFrame) (raises : Bool) (c : Channel) : Channel :=
  let waiting : Channel := { c with txQueue := c.txQueue ++ [f], contention := some (Contention.waiting none) }
  if raises then waiting.raiseExponent else waiting

theorem enterQueue_entered (f : QueuedFrame) (s : State) : s.enterQueue f = entered f s := by
  have carrier : s.carrier = decide (s.pins.cd = true ∧ ¬ inLoop s) := by
    rw [State.carrier, State.inLoopback]
    cases s.pins.cd <;> simp
  have sends : s.port.nodeState.sends = decide (s.port.nodeState = .running ∨ s.port.nodeState = .test) := by
    cases s.port.nodeState <;> rfl
  have queue : (s.chan.txQueue ++ [f]).isEmpty = false := by simp
  have halts : (if f.body = .halt then s.chan.contention.map Contention.afterHalt else s.chan.contention).isNone =
      s.chan.contention.isNone := by split <;> simp
  have row : s.enterQueue f = State.beginContention (s.mapChan fun c => { c with
      txQueue := c.txQueue ++ [f]
      contention := if f.body = .halt then c.contention.map Contention.afterHalt else c.contention }) := rfl
  rw [row, State.beginContention]
  simp only [State.mapChan_chan, State.mapChan_port, queue, halts, sends, Bool.not_false, Bool.and_true]
  rcases begins : (decide (s.port.nodeState = .running ∨ s.port.nodeState = .test) && s.chan.txFrame.isNone &&
    s.chan.contention.isNone) with _ | _
  · simp only [entered, begins, Bool.false_eq_true, if_false, false_and]
    rfl
  · by_cases loud : s.pins.cd = true ∧ ¬ inLoop s
    · have hears : s.carrier = true := carrier.trans (decide_eq_true loud)
      simp only [entered, begins, if_true, true_and, if_pos loud]
      exact congrArg (fun b => { s with chan := s.chan.begun f b }) hears
    · have silent : s.carrier = false := carrier.trans (decide_eq_false loud)
      simp only [entered, begins, if_true, true_and, if_neg loud]
      exact congrArg (fun b => { s with chan := s.chan.begun f b }) silent

/-! ## The classes of a queue (R156, R157) -/

theorem foldl_max_le (l : List QueuedFrame) (a b : Nat) :
    l.foldl (fun m f => max m f.body.urgency) a ≤ b ↔ a ≤ b ∧ ∀ x ∈ l, x.body.urgency ≤ b := by
  induction l generalizing a with
  | nil => simp
  | cons x l ih =>
    rw [List.foldl_cons, ih]
    simp only [List.mem_cons, forall_eq_or_imp, Nat.max_le, and_assoc]

theorem worstClass_le_iff (q : List QueuedFrame) (b : Nat) : worstClass q ≤ b ↔ ∀ x ∈ q, x.body.urgency ≤ b := by
  rw [worstClass, foldl_max_le]
  exact ⟨fun h => h.2, fun h => ⟨Nat.zero_le b, h⟩⟩

/-- The last of a list that meets a test, found and taken out from behind. -/
theorem last_found {α : Type} (test : α → Bool) (before : List α) {g : α} {after : List α} (hit : test g = true)
    (miss : ∀ x ∈ after, test x = false) : (before ++ g :: after).reverse.find? test = some g ∧
      ((before ++ g :: after).reverse.eraseP test).reverse = before ++ after := by
  have tail : ∀ x ∈ after.reverse, ¬ test x = true := fun x member => by simp [miss x (List.mem_reverse.mp member)]
  have order : (before ++ g :: after).reverse = after.reverse ++ g :: before.reverse := by simp
  rw [order, List.find?_append, List.find?_eq_none.mpr tail, List.find?_cons_of_pos hit, List.eraseP_append_right _ tail,
    List.eraseP_cons_of_pos hit]
  simp

section Worst

variable {before after : List QueuedFrame} {g : QueuedFrame} (low : ∀ x ∈ before, x.body.urgency ≤ g.body.urgency)
  (less : ∀ x ∈ after, x.body.urgency < g.body.urgency)
include low less

theorem worstClass_split : worstClass (before ++ g :: after) = g.body.urgency := by
  apply Nat.le_antisymm
  · rw [worstClass_le_iff]
    intro x member
    rcases List.mem_append.mp member with b | tail
    · exact low x b
    · rcases List.mem_cons.mp tail with rfl | a
      · exact Nat.le_refl _
      · exact Nat.le_of_lt (less x a)
  · exact (worstClass_le_iff _ _).mp (Nat.le_refl _) g (by simp)

/-- R157 case 3: the frame of the highest class number placed latest. -/
theorem evictFrom_split : evictFrom (before ++ g :: after) = (some g, before ++ after) := by
  have worst := worstClass_split low less
  obtain ⟨found, erased⟩ := last_found (fun f => decide (f.body.urgency = worstClass (before ++ g :: after))) before
    (g := g) (after := after) (by simp [worst]) fun x member => by
      have := less x member
      simp only [worst, decide_eq_false_iff_not]
      omega
  simp only [evictFrom, found, erased]

end Worst

/-! ## One placing -/

theorem barredInTest_iff (b : TxBody) : b.barredInTest = true ↔ b.kindCode.toNat ≤ 4 := by
  cases b <;> simp [TxBody.barredInTest, TxBody.kindCode]

theorem State.placeWith_succ (n : Nat) (f : QueuedFrame) (s : State) :
    s.placeWith (n + 1) f = s.placeBy (State.missWith (State.placeWith n)) f := rfl

theorem notBarred_of {f : QueuedFrame} {s : State} (outside : s.port.nodeState ≠ .test ∨ 4 < f.body.kindCode.toNat) :
    ¬ (s.port.nodeState = .test ∧ f.body.barredInTest = true) := by
  rw [barredInTest_iff]
  rintro ⟨test, barred⟩
  exact outside.elim (fun h => h test) (by omega)

theorem notAbsorbed_of {f : QueuedFrame} {q : List QueuedFrame}
    (other : f.body ≠ .presence ∨ ∀ g ∈ q, g.body ≠ .presence) :
    ¬ (f.body = .presence ∧ q.any (fun g => decide (g.body = .presence)) = true) := by
  simp only [List.any_eq_true, decide_eq_true_eq]
  rintro ⟨presence, g, member, waits⟩
  exact other.elim (fun h => h presence) fun h => h g member waits

/-- A frame that is neither barred nor absorbed, at a full queue. -/
theorem State.placeBy_full {retry : Request → TxBody → State → State} {f : QueuedFrame} {s : State}
    (outside : s.port.nodeState ≠ .test ∨ 4 < f.body.kindCode.toNat)
    (other : f.body ≠ .presence ∨ ∀ g ∈ s.chan.txQueue, g.body ≠ .presence) (full : 8 ≤ s.chan.txQueue.length) :
    s.placeBy retry f = s.placeFull retry f := by
  rw [State.placeBy, if_neg (notBarred_of outside), if_neg (notAbsorbed_of other), if_neg (by omega)]

theorem requestOfFrame_eq (f : QueuedFrame) (s : State) : requestOfFrame f s = f.request s := by
  obtain ⟨body, ofRequest⟩ := f
  cases ofRequest <;> cases body <;> rfl

theorem countDrop_dropped (s : State) : s.countDrop = dropped 1 s := rfl

/-- R157 case 4: the frame placed is the one discarded. -/
theorem State.placeFull_self {retry : Request → TxBody → State → State} {f : QueuedFrame} {s : State}
    (worst : ∀ x ∈ s.chan.txQueue, x.body.urgency ≤ f.body.urgency) :
    s.placeFull retry f = (dropped 1 s).discard retry f := by
  rw [State.placeFull, if_neg (Nat.not_lt.mpr ((worstClass_le_iff ..).mpr worst)), countDrop_dropped]

/-- R157 case 3: a more urgent frame takes the place of another. -/
theorem State.placeFull_evicts {retry : Request → TxBody → State → State} {f g : QueuedFrame} {s : State}
    {before after : List QueuedFrame} (queue : s.chan.txQueue = before ++ g :: after)
    (urgent : f.body.urgency < g.body.urgency) (low : ∀ x ∈ before, x.body.urgency ≤ g.body.urgency)
    (less : ∀ x ∈ after, x.body.urgency < g.body.urgency) :
    s.placeFull retry f =
      (entered f (dropped 1 { s with chan := { s.chan with txQueue := before ++ after } })).discard retry g := by
  rw [State.placeFull, queue, worstClass_split low less, if_pos urgent, evictFrom_split low less]
  exact congrArg (State.discard retry g) (enterQueue_entered f _)

/-! ## The resends of a discarded frame (R76, R77) -/

/-- R77: a request with m tries less, its wait settled. -/
def Request.lessTries (m : Nat) (r : Request) : Request :=
  if m = 0 then r else { r with deadline := none, waitFrame := none, tries := r.tries - m }

/-- R77: a request whose frame is placed again. -/
def Request.retried (r : Request) : Request := { r.noWait with tries := r.tries - 1 }

theorem Request.lessTries_retried (m : Nat) (r : Request) : r.retried.lessTries m = r.lessTries (m + 1) := by
  by_cases zero : m = 0
  · simp [Request.lessTries, zero, Request.noWait, Request.retried]
  · simp [Request.lessTries, zero, Request.noWait, Request.retried, Nat.sub_sub, Nat.add_comm]

theorem afterDiscard_eq (r : Request) (s : State) :
    afterDiscard r s = if r.state = .seated ∧ r.renewPending = false then s.setRequest r.element Request.noWait
      else (dropped r.tries (s.setRequest r.element (Request.lessTries r.tries))).finalMiss r := by
  rw [afterDiscard, lastMiss_eq]
  rfl

theorem State.finalMiss_congr {r r' : Request} (state : r'.state = r.state) (element : r'.element = r.element)
    (claim : r'.claim = r.claim) (s : State) : s.finalMiss r' = s.finalMiss r := by
  unfold State.finalMiss State.closeRequest
  rw [state, element, claim]

theorem dropped_dropped (m : Nat) (s : State) : dropped m (dropped 1 s) = dropped (m + 1) s := by
  have counts : min (min (s.link.window.drop + 1) 65535 + m) 65535 = min (s.link.window.drop + (m + 1)) 65535 := by omega
  simp only [dropped, counts]

theorem dropped_setRequest (m : Nat) (e : NodeId) (f : Request → Request) (s : State) :
    dropped m (s.setRequest e f) = (dropped m s).setRequest e f := rfl

theorem dropped_zero {s : State} (bounded : s.link.window.drop ≤ 65535) : dropped 0 s = s := by
  rw [dropped, Nat.add_zero, Nat.min_eq_left bounded]

theorem State.setRequest_setRequest (e : NodeId) (f g : Request → Request) (s : State)
    (own : ∀ r, (f r).element = r.element) : (s.setRequest e f).setRequest e g = s.setRequest e fun r => g (f r) := by
  simp only [State.setRequest, State.mapReq, List.map_map]
  refine congrArg (fun l => { s with req := { s.req with list := l } }) (List.map_congr_left fun r _ => ?_)
  by_cases is : r.element = e
  · simp [is, own]
  · simp [is]

theorem State.setRequest_id (e : NodeId) (s : State) : s.setRequest e (Request.lessTries 0) = s := by
  have same : (fun r : Request => if r.element = e then Request.lessTries 0 r else r) = id := by
    funext r
    simp [Request.lessTries]
  simp only [State.setRequest, State.mapReq, same, List.map_id]

/-- A frame that a request is found for is one of the two kinds that a request sends, and is looked up by that request. -/
theorem requestOfFrame_some {f : QueuedFrame} {s : State} {r : Request} (h : requestOfFrame f s = some r) :
    f.ofRequest = true ∧ f.body ≠ .presence ∧ f.body.kindCode.toNat ≤ 4 ∧
      ∀ t, requestOfFrame f t = t.requestOf r.element r.claim := by
  obtain ⟨body, ofRequest⟩ := f
  cases ofRequest
  case false => cases h
  case true =>
    cases body
    case ask e claim renew offer hold =>
      obtain ⟨rfl, rfl⟩ : r.element = e ∧ r.claim = claim := by simpa using List.find?_some h
      exact ⟨rfl, by simp, by simp [TxBody.kindCode], fun _ => rfl⟩
    case yield e claim =>
      obtain ⟨rfl, rfl⟩ : r.element = e ∧ r.claim = claim := by simpa using List.find?_some h
      exact ⟨rfl, by simp, by simp [TxBody.kindCode], fun _ => rfl⟩
    all_goals cases h

theorem State.requestOf_setRequest {s : State} {r : Request} (f : Request → Request)
    (element : ∀ q, (f q).element = q.element) (claim : ∀ q, (f q).claim = q.claim)
    (found : s.requestOf r.element r.claim = some r) :
    (s.setRequest r.element f).requestOf r.element r.claim = some (f r) := by
  have test : (fun q : Request => decide (q.element = r.element ∧ q.claim = r.claim)) ∘
      (fun q => if q.element = r.element then f q else q) =
        fun q => decide (q.element = r.element ∧ q.claim = r.claim) := by
    funext q
    by_cases is : q.element = r.element <;> simp [is, element, claim]
  have searched : s.req.list.find? (fun q => decide (q.element = r.element ∧ q.claim = r.claim)) = some r := found
  simp only [State.requestOf, State.setRequest, State.mapReq_req, List.find?_map, test, searched, Option.map_some, if_true]

theorem State.missWith_settled {place : QueuedFrame → State → State} {r : Request} (b : TxBody) (s : State)
    (settled : r.state = .seated ∧ r.renewPending = false) :
    s.missWith place r b = s.setRequest r.element Request.noWait := if_pos settled

theorem State.missWith_retries {place : QueuedFrame → State → State} {r : Request} (b : TxBody) (s : State)
    (waits : ¬ (r.state = .seated ∧ r.renewPending = false)) (tries : 1 ≤ r.tries) :
    s.missWith place r b = place { body := b, ofRequest := true }
      (s.setRequest r.element Request.retried) := by
  rw [State.missWith, if_neg waits, if_pos tries]
  rfl

theorem State.missWith_final {place : QueuedFrame → State → State} {r : Request} (b : TxBody) (s : State)
    (waits : ¬ (r.state = .seated ∧ r.renewPending = false)) (tries : r.tries = 0) :
    s.missWith place r b = s.finalMiss r := by
  rw [State.missWith, if_neg waits, if_neg (by omega)]

/-- R76: a request with one try less, its frame dropped once more, comes to the same end. -/
theorem afterDiscard_step {r : Request} {s : State} (waits : ¬ (r.state = .seated ∧ r.renewPending = false))
    (tries : 1 ≤ r.tries) :
    afterDiscard r.retried (dropped 1 (s.setRequest r.element Request.retried)) = afterDiscard r s := by
  obtain ⟨m, count⟩ : ∃ m, r.tries = m + 1 := ⟨r.tries - 1, by omega⟩
  have left : r.retried.tries = m := by simp [Request.retried, count]
  have waits' : ¬ (r.retried.state = .seated ∧ r.retried.renewPending = false) := waits
  have element : r.retried.element = r.element := rfl
  have less : (fun q : Request => q.retried.lessTries m) = Request.lessTries (m + 1) :=
    funext (Request.lessTries_retried m)
  have inner : dropped m ((dropped 1 (s.setRequest r.element Request.retried)).setRequest r.element
      (Request.lessTries m)) = dropped (m + 1) (s.setRequest r.element (Request.lessTries (m + 1))) := by
    rw [← dropped_setRequest 1, State.setRequest_setRequest r.element Request.retried (Request.lessTries m) s
      fun _ => rfl, less, dropped_dropped]
  rw [afterDiscard_eq, afterDiscard_eq, if_neg waits, if_neg waits', left, count, element, inner]
  exact State.finalMiss_congr rfl rfl rfl _

/-- R76, R77: a frame discarded at a queue of frames no less urgent is placed and discarded again for each try left. -/
theorem State.missWith_discarded {f : QueuedFrame} (k : Nat) {r : Request} {s : State} (tries : r.tries ≤ k)
    (live : s.port.nodeState ≠ .test) (full : 8 ≤ s.chan.txQueue.length)
    (worst : ∀ x ∈ s.chan.txQueue, x.body.urgency ≤ f.body.urgency) (bounded : s.link.window.drop ≤ 65535)
    (found : requestOfFrame f s = some r) : s.missWith (State.placeWith k) r f.body = afterDiscard r s := by
  obtain ⟨ofRequest, other, -, look⟩ := requestOfFrame_some found
  by_cases settled : r.state = .seated ∧ r.renewPending = false
  · rw [State.missWith_settled _ _ settled, afterDiscard_eq, if_pos settled]
  induction k generalizing r s with
  | zero =>
    have none : r.tries = 0 := Nat.le_zero.mp tries
    rw [State.missWith_final _ _ settled none, afterDiscard_eq, if_neg settled, none, State.setRequest_id,
      dropped_zero bounded]
  | succ k ih =>
    by_cases none : r.tries = 0
    · rw [State.missWith_final _ _ settled none, afterDiscard_eq, if_neg settled, none, State.setRequest_id,
        dropped_zero bounded]
    · have again : ({ body := f.body, ofRequest := true } : QueuedFrame) = f := by rw [← ofRequest]
      rw [State.missWith_retries _ _ settled (by omega), again, State.placeWith_succ,
        State.placeBy_full (s := s.setRequest r.element Request.retried) (.inl live) (.inl other) full,
        State.placeFull_self (s := s.setRequest r.element Request.retried) worst]
      have found' : requestOfFrame f (dropped 1 (s.setRequest r.element Request.retried)) = some r.retried := by
        rw [look] at found ⊢
        exact State.requestOf_setRequest Request.retried (fun _ => rfl) (fun _ => rfl) found
      rw [State.discard, ← requestOfFrame_eq, found']
      have next := ih (r := r.retried) (s := dropped 1 (s.setRequest r.element Request.retried)) (by
        simp only [Request.retried]
        omega) live full worst (Nat.min_le_right ..) found' look settled
      exact next.trans (afterDiscard_step settled (by omega))

/-! ## Frames placed (R157, R158) -/

theorem State.discard_none {retry : Request → TxBody → State → State} {g : QueuedFrame} {s : State}
    (none : requestOfFrame g s = none) : s.discard retry g = s := by
  rw [State.discard, ← requestOfFrame_eq, none]

theorem State.discard_some {retry : Request → TxBody → State → State} {g : QueuedFrame} {s : State} {r : Request}
    (found : requestOfFrame g s = some r) : s.discard retry g = retry r g.body s := by
  rw [State.discard, ← requestOfFrame_eq, found]

/-- A frame's request is looked up in the requests alone. -/
theorem requestOfFrame_congr (g : QueuedFrame) {s t : State} (h : t.req = s.req) :
    requestOfFrame g t = requestOfFrame g s := by
  simp only [requestOfFrame, h]

theorem State.place_self {f : QueuedFrame} {s : State} (outside : s.port.nodeState ≠ .test ∨ 4 < f.body.kindCode.toNat)
    (other : f.body ≠ .presence ∨ ∀ g ∈ s.chan.txQueue, g.body ≠ .presence) (full : 8 ≤ s.chan.txQueue.length)
    (worst : ∀ x ∈ s.chan.txQueue, x.body.urgency ≤ f.body.urgency) :
    s.place f = (dropped 1 s).discard (State.missWith (State.placeWith 4)) f := by
  rw [State.place, State.placeWith_succ, State.placeBy_full outside other full, State.placeFull_self worst]

/-- R76: the frame placed is the one discarded, and its request misses. -/
theorem State.place_discarded {f : QueuedFrame} {s : State}
    (outside : s.port.nodeState ≠ .test ∨ 4 < f.body.kindCode.toNat) (full : 8 ≤ s.chan.txQueue.length)
    (worst : ∀ x ∈ s.chan.txQueue, x.body.urgency ≤ f.body.urgency) {r : Request}
    (found : requestOfFrame f s = some r) (tries : r.tries ≤ 3) : s.place f = afterDiscard r (dropped 1 s) := by
  obtain ⟨-, other, kind, -⟩ := requestOfFrame_some found
  have live : s.port.nodeState ≠ .test := outside.resolve_right (by omega)
  rw [State.place_self outside (.inl other) full worst, State.discard_some (s := dropped 1 s) found]
  exact State.missWith_discarded (s := dropped 1 s) 4 (by omega) live full worst (Nat.min_le_right ..) found

theorem framesArePlaced : FramesArePlaced := by
  intro s f
  refine ⟨fun test kind => ?_, fun outside => ⟨fun presence waits => ?_, fun other => ⟨fun room => ?_, fun full =>
    ⟨?_, ?_⟩⟩⟩⟩
  · have barred : s.port.nodeState = .test ∧ f.body.barredInTest = true := ⟨test, (barredInTest_iff _).mpr kind⟩
    exact if_pos barred
  · have absorbed : f.body = .presence ∧ s.chan.txQueue.any (fun g => decide (g.body = .presence)) = true :=
      ⟨presence, by simpa using waits⟩
    rw [State.place, State.placeWith_succ, State.placeBy, if_pos absorbed, ite_self]
  · rw [State.place, State.placeWith_succ, State.placeBy, if_neg (notBarred_of outside), if_neg (notAbsorbed_of other),
      if_pos room, enterQueue_entered]
  · intro before g after queue urgent low less u
    rw [State.place, State.placeWith_succ, State.placeBy_full outside other full,
      State.placeFull_evicts queue urgent low less]
    have asked : requestOfFrame g u = requestOfFrame g s := requestOfFrame_congr g rfl
    refine ⟨fun none => State.discard_none (asked.trans none), fun r found tries live =>
      (State.discard_some (s := u) (asked.trans found)).trans ?_⟩
    refine State.missWith_discarded (s := u) 4 (by omega) live ?_ ?_ (Nat.min_le_right ..)
      (asked.trans found)
    · rw [queue] at full
      simp only [u, entered, dropped, List.length_append, List.length_cons, List.length_nil] at full ⊢
      omega
    · intro x member
      have split : x ∈ (before ++ after) ++ [f] := member
      rcases List.mem_append.mp split with rest | new
      · exact (List.mem_append.mp rest).elim (low x) fun a => Nat.le_of_lt (less x a)
      · rw [List.mem_singleton.mp new]
        exact Nat.le_of_lt urgent
  · intro worst
    refine ⟨fun none => ?_, fun r found tries => State.place_discarded outside full worst found tries⟩
    rw [State.place_self outside other full worst, State.discard_none (s := dropped 1 s) none]

/-! ## An ASK at a full queue (R75 to R77) -/

theorem askCheck_noRequest {s : State} {element offer : Byte} {hold : Half} (h : askCheck s element offer hold = none) :
    s.request (element.setWidth 6) = none := by
  simp only [askCheck] at h
  split at h
  · cases h
  split at h
  · cases h
  split at h
  · cases h
  split at h
  · cases h
  split at h
  · cases h
  split at h
  · cases h
  split at h
  · cases h
  split at h
  · cases h
  split at h
  · cases h
  · next none => simpa using none

/-- R75: the requests with the one that an ASK command adds. -/
def State.asking (e : NodeId) (offer : Nat) (hold : Half) (s : State) : State :=
  s.mapReq fun u => { u with
    claimCounter := u.claimCounter + 1
    list := u.list ++ [newRequest e offer hold (u.claimCounter + 1)] }

theorem State.takeAsk_eq (e : NodeId) (offer : Nat) (hold : Half) (s : State) :
    s.takeAsk e offer hold = done ((s.asking e offer hold).place
      { body := (newRequest e offer hold (s.req.claimCounter + 1)).askFrame false, ofRequest := true })
      [s.req.claimCounter + 1] := rfl

theorem State.asking_requestOf {e : NodeId} (offer : Nat) (hold : Half) {s : State} (none : s.request e = none) :
    (s.asking e offer hold).requestOf e (s.req.claimCounter + 1) =
      some (newRequest e offer hold (s.req.claimCounter + 1)) := by
  have free : s.req.list.find? (fun r => decide (r.element = e ∧ r.claim = s.req.claimCounter + 1)) = Option.none := by
    rw [List.find?_eq_none]
    intro r member own
    have other := List.find?_eq_none.mp none r member
    simp only [decide_eq_true_eq] at own other
    exact other own.1
  simp only [State.asking, State.requestOf, State.mapReq_req, List.find?_append, free, Option.none_or]
  simp [newRequest]

theorem State.asking_closed {e : NodeId} (offer : Nat) (hold : Half) {s : State} (f : Request → Request)
    (own : ∀ q, (f q).element = q.element) (none : s.request e = none) :
    (((s.asking e offer hold).setRequest e f).req.list.filter fun q => decide (q.element ≠ e)) = s.req.list := by
  have other : ∀ q ∈ s.req.list, q.element ≠ e := by
    simpa [State.request, List.find?_eq_none] using none
  simp only [State.asking, State.setRequest, State.mapReq_req, List.map_append, List.filter_append]
  have kept : s.req.list.map (fun q => if q.element = e then f q else q) = s.req.list :=
    map_unchanged fun q member => if_neg (other q member)
  have all : (s.req.list.filter fun q => decide (q.element ≠ e)) = s.req.list :=
    List.filter_eq_self.mpr fun q member => by simp [other q member]
  rw [kept, all]
  simp [newRequest, own]

/-- R76, R77: the ASK of a new request, discarded with each of its tries, ends the request with LOST. -/
theorem State.asking_lost {e : NodeId} (offer : Nat) (hold : Half) {s : State} (live : s.port.nodeState ≠ .test)
    (none : s.request e = none) (full : 8 ≤ s.chan.txQueue.length)
    (worst : ∀ f ∈ s.chan.txQueue, f.body.urgency ≤ 2) :
    (s.asking e offer hold).place
        { body := (newRequest e offer hold (s.req.claimCounter + 1)).askFrame false, ofRequest := true } =
      (dropped 4 ((s.asking e offer hold).setRequest e (Request.lessTries 3))).closeRequest
        (newRequest e offer hold (s.req.claimCounter + 1)) .lost 0 := by
  have found : requestOfFrame
      { body := (newRequest e offer hold (s.req.claimCounter + 1)).askFrame false, ofRequest := true }
      (s.asking e offer hold) = some (newRequest e offer hold (s.req.claimCounter + 1)) :=
    State.asking_requestOf offer hold none
  have placed := State.place_discarded (s := s.asking e offer hold)
    (f := { body := (newRequest e offer hold (s.req.claimCounter + 1)).askFrame false, ofRequest := true })
    (.inl live) full worst found (Nat.le_refl _)
  rw [placed, afterDiscard_eq, if_neg (fun settled => nomatch settled.1)]
  have drops : dropped 3 ((dropped 1 (s.asking e offer hold)).setRequest e (Request.lessTries 3)) =
      dropped 4 ((s.asking e offer hold).setRequest e (Request.lessTries 3)) := by
    rw [← dropped_setRequest, dropped_dropped]
  exact congrArg (State.finalMiss (newRequest e offer hold (s.req.claimCounter + 1))) drops

theorem State.closeRequest_req (r : Request) (k : NoticeKind) (d : Half) (s : State) : (s.closeRequest r k d).req =
    { s.req with list := s.req.list.filter fun q => decide (q.element ≠ r.element) } := by
  simp only [State.closeRequest, State.mapReq_req, State.postNotice_req, decide_not]

theorem State.postNotice_notices (k : NoticeKind) (i c : Byte) (d : Half) {s t : State}
    (notices : t.port.notices = s.port.notices) (time : t.time = s.time) :
    (t.postNotice k i c d).port.notices = (s.postNotice k i c d).port.notices := by
  unfold State.postNotice
  rw [notices]
  split
  · simp [State.setFlag, State.fieldMs16, State.fieldMs, time, notices]
  · exact notices

theorem askAtAFullQueueIsLost : AskAtAFullQueueIsLost := by
  intro s element offer hold token check full worst
  have live : s.port.nodeState ≠ .test := by
    rw [askCheck_running check]
    decide
  have none := askCheck_noRequest check
  have lost := State.asking_lost (s := s.handOver 32 ([element, offer] ++ bytesOf 2 hold.toNat)) offer.toNat hold live none
    full worst
  have act := (askAct_eq element offer hold (s.handOver 32 ([element, offer] ++ bytesOf 2 hold.toNat))).trans
    ((checkedAct_none _ _ check).trans ((State.takeAsk_eq ..).trans
      (congrArg (fun t => done t [s.req.claimCounter + 1]) lost)))
  refine ⟨_, exec_handed rfl token, ?_⟩
  rw [act]
  refine ⟨done_shows .., ?_, ?_, ?_, ?_⟩
  · exact State.postNotice_chan ..
  · exact State.postNotice_link ..
  · refine (State.closeRequest_req ..).trans ?_
    exact congrArg (fun l => { s.req with claimCounter := s.req.claimCounter + 1, list := l })
      (State.asking_closed (s := s) offer.toNat hold (Request.lessTries 3) (fun _ => rfl) none)
  · exact State.postNotice_notices _ _ _ _ rfl rfl

/-- Settles O27: the four cases of R157, and an ASK that comes to its final miss at once. -/
theorem placingAFrame : Obligations.PlacingAFrame := ⟨framesHaveTheirClasses, framesArePlaced, askAtAFullQueueIsLost⟩

end Sys2Proof.Machine
end

section
/-! What the work at the seats, the waiting list and the partner views keeps, and that work as the statements have it (R12,
R46, R62 to R67). -/

namespace Sys2Proof.Machine

/-! ## Relations that the work of an element keeps -/

/-- A relation that placing a frame keeps, and so does every change of the seats, the arbiter and the partner views. -/
structure KeptByElement (R : State → State → Prop) : Prop extends KeptByPlacing R where
  mapArb : ∀ f (s : State), R s (s.mapArb f)
  mapSeat : ∀ f (s : State), R s (s.mapSeat f)
  mapViews : ∀ f (s : State), R s (s.mapViews f)

namespace KeptByElement

variable {R : State → State → Prop} (kept : KeptByElement R)
include kept

theorem answer (p : NodeId) (c : Byte) (a : AnswerBody) (s : State) : R s (s.answer p c a) := kept.place _ s

theorem endSeat (n : Nat) (reason : Reason) (s : State) : R s (s.endSeat n reason) := by
  rcases claim : claimAt s n with _ | c
  · rw [claimAt_eq] at claim
    simp only [State.endSeat, claim]
    exact kept.refl s
  · rw [State.endSeat_eq n c reason s claim]
    refine kept.trans (kept.trans (kept.trans ?_ (kept.postNotice ..)) (kept.mapArb ..)) (kept.mapSeat ..)
    unfold State.tellEnd
    split
    · exact kept.mapArb _ s
    · exact kept.trans (kept.mapArb _ s) (kept.answer ..)

theorem endSeatsWhere (test : State → Nat → Claim → Bool) (reason : Reason) (l : List Nat) (s : State) :
    R s (s.endSeatsWhere test reason l) := by
  induction l generalizing s with
  | nil => exact kept.refl s
  | cons n rest ih =>
    refine kept.trans ?_ (ih _)
    split
    · split
      · exact kept.endSeat ..
      · exact kept.refl s
    · exact kept.refl s

theorem grant (n : Nat) (e : Entry) (s : State) : R s (s.grant n e) := by
  unfold State.grant
  dsimp only
  refine kept.trans ?_ (kept.answer ..)
  have seated := kept.trans (kept.trans (kept.trans (kept.trans (kept.mapArb (fun a => { a with
    waiting := a.waiting.filter fun x => !decide (x.player = e.player) }) s) (kept.mapArb (fun a => { a with
    ring := a.ring.map fun r => if r.player = e.player then
      { r with budget := r.budget - (s.offer e.offer).cost.toNat } else r }) _)) (kept.mapSeat (fun u => { u with
    table := u.table.set n (s.grantedSeat e) }) _)) (kept.postNotice .seatGranted (idByte e.player) e.claim
      (BitVec.ofNat 16 e.hold) _)) (kept.mapArb (fun a => { a with
    ring := a.ring.map fun r => if r.player = e.player then { r with engagement := .seated n } else r }) _)
  split
  · exact kept.trans seated (kept.mapArb ..)
  · exact seated

theorem resolve (s : State) : R s s.resolve := by
  have passes (k : Nat) : ∀ s : State, R s (s.resolvePasses k) := by
    induction k with
    | zero => exact kept.refl
    | succ k ih =>
      intro s
      rcases s.passes_or_stops with ⟨n, e, gate, first, chosen⟩ | stops
      · rw [State.resolvePasses_grants k gate first chosen]
        exact kept.trans (kept.grant n e s) (ih _)
      · rw [State.resolvePasses_stops _ stops]
        exact kept.refl s
  exact passes _ s

theorem viewChanged (v : PartnerView) (s : State) : R s (s.viewChanged v) :=
  kept.trans (kept.trans (kept.endSeatsWhere ..) (kept.endSeatsWhere ..)) (kept.resolve _)

theorem updateView (id : NodeId) (f : PartnerView → PartnerView) (s : State) : R s (s.updateView id f) := by
  unfold State.updateView
  split
  · exact kept.refl s
  · dsimp only
    split
    · exact kept.mapViews ..
    · exact kept.trans (kept.mapViews ..) (kept.viewChanged ..)

end KeptByElement

/-- R73: no request comes by the work of an element. -/
theorem reduced_keptByElement : KeptByElement fun s t => s.req.Reduced t.req where
  refl s := ⟨rfl, fun r member => ⟨r, member, rfl⟩⟩
  trans := by
    rintro s t u ⟨same, from_⟩ ⟨same', from'⟩
    refine ⟨by rw [same', same], fun r member => ?_⟩
    obtain ⟨q, listed, own⟩ := from' r member
    obtain ⟨p, listed', own'⟩ := from_ q listed
    exact ⟨p, listed', own'.trans own⟩
  enterQueue f s := by
    obtain ⟨k, e, queued⟩ := State.enterQueue_eq f s
    rw [queued]
    exact ⟨rfl, fun r member => ⟨r, member, rfl⟩⟩
  setQueue _ _ := ⟨rfl, fun r member => ⟨r, member, rfl⟩⟩
  countDrop _ := ⟨rfl, fun r member => ⟨r, member, rfl⟩⟩
  postNotice k i c d s := by
    rw [State.postNotice_req]
    exact ⟨rfl, fun r member => ⟨r, member, rfl⟩⟩
  mapReq _ _ h := h
  mapArb _ _ := ⟨rfl, fun r member => ⟨r, member, rfl⟩⟩
  mapSeat _ _ := ⟨rfl, fun r member => ⟨r, member, rfl⟩⟩
  mapViews _ _ := ⟨rfl, fun r member => ⟨r, member, rfl⟩⟩

/-! ## Partner views (R64 to R67) -/

theorem PartnerView.dismisses_eq (v : PartnerView) (p : NodeId) : v.dismisses p = companionLost v p := rfl

theorem yieldsTo_eq (own : NodeId) (mark : Half) (partner : NodeId) (other : Half) : yieldsTo own mark partner other =
    decide ((1 ≤ (mark - other).toNat ∧ (mark - other).toNat ≤ 32767) ∨ (mark = other ∧ partner < own)) := by
  have zero : (mark - other).toNat = 0 ↔ mark = other := by
    rw [BitVec.toNat_sub]
    constructor
    · intro h
      apply BitVec.eq_of_toNat_eq
      have a := mark.isLt
      have b := other.isLt
      omega
    · rintro rfl
      have a := mark.isLt
      omega
  simp only [yieldsTo, zero]

theorem State.conflicts_eq (s : State) (c : Claim) : s.conflicts c = conflictLost s c.mark := by
  simp only [State.conflicts, conflictLost, yieldsTo_eq]
  rfl

theorem viewChanged_eq (v : PartnerView) (s : State) : s.viewChanged v = afterViewChange v s := by
  have first : s.endSeatsWhere (fun _ _ c => v.dismisses c.player) .interlock s.seatNumbers =
      endingSeats (fun _ c => companionLost v c.player) .interlock s := (endingSeats_eq _ _ s).symm
  have second : SameOutsideElement s (endingSeats (fun _ c => companionLost v c.player) .interlock s) :=
    first ▸ State.endSeatsWhere_element ..
  rw [State.viewChanged, first, afterViewChange]
  refine congrArg State.resolve (State.endSeatsWhere_eq _ _ _ _ _ fun t kept n c => ?_)
  obtain ⟨-, -, -, views, -, -, -, -, -, cfg, -⟩ := second.trans kept
  rw [State.conflicts_eq]
  simp only [conflictLost, views, cfg]

theorem viewDiffers_iff (v w : PartnerView) : viewDiffers v w ↔ w.face ≠ v.face := by
  simp only [viewDiffers, PartnerView.face, ne_eq, Prod.mk.injEq, Classical.not_and_iff_not_or_not, eq_comm]

/-- R62 to R64: the update of a view is that of the statements. -/
theorem updateView_updated (id : NodeId) (f : PartnerView → PartnerView) (s : State) :
    ViewUpdated id f s (s.updateView id f) := by
  refine ⟨fun absent => ?_, fun v found => ⟨fun differs => ?_, fun same => ?_⟩⟩
  · have none : s.views.find? (fun v => decide (v.id = id)) = Option.none :=
      List.find?_eq_none.mpr fun v member => by simp [absent v member]
    rw [State.updateView, none]
  · rw [viewDiffers_iff] at differs
    simp only [State.updateView, found, if_neg differs, viewChanged_eq]
    rfl
  · rw [viewDiffers_iff, Classical.not_not] at same
    simp only [State.updateView, found, if_pos same]
    rfl

end Sys2Proof.Machine
end

section
/-! A SILENT report (R20, R32, R54, R71, R88, R101, R147, R149). -/

namespace Sys2Proof.Machine

/-! ## The report, block by block -/

/-- R101: the reference lost at the report, with ALIGN_CHANGED where the align state changes. -/
theorem referenceOnSilent_eq (id : NodeId) (s : State) :
    (if s.time.reference = some id then s.referenceLost else s) =
      withFlagIf (decide (s.time.reference = some id ∧ (s.time.align = .locked ∨ s.time.align = .acquiring)))
        .alignChanged { s with time := if s.time.reference = some id then lostTime s.time else s.time } := by
  by_cases own : s.time.reference = some id
  · rcases align : s.time.align with _ | _ | _ | _ | _ <;>
      simp [own, State.referenceLost, align, withFlagIf_eq, lostTime, State.setAlign, State.mapTime]
  · simp [own, withFlagIf_eq]

theorem Seat.withSilentHeld_eq (id : NodeId) (b : Bool) : Seat.withSilentHeld id b = markedSilent id b := by
  funext x
  cases x <;> rfl

theorem unsensed_eq (s : State) (n : Nat) : unsensed s n = (!s.senseUse || !s.senseActive n) := by
  simp only [unsensed, State.senseUse, State.senseActive, ne_eq, decide_not, Bool.not_not]

/-- R20: the seats that the report ends. -/
def silentLost (id : NodeId) (s : State) (n : Nat) (c : Claim) : Bool := decide (c.player = id) && unsensed s n

theorem seatsOnSilent_eq (id : NodeId) (s : State) :
    s.seatsOnSilent id = (endingSeats (silentLost id s) .silent s).mapSeat fun u =>
      { u with table := u.table.map (markedSilent id true) } := by
  rw [State.seatsOnSilent, Seat.withSilentHeld_eq]
  refine congrArg (fun t : State => t.mapSeat fun u => { u with table := u.table.map (markedSilent id true) }) ?_
  refine State.endSeatsWhere_eq _ _ _ _ s fun t kept n c => ?_
  obtain ⟨-, -, -, -, -, pins, -, -, -, cfg, -⟩ := kept
  simp only [silentLost, unsensed_eq, State.senseUse, State.senseActive, pins, cfg]

theorem silentLost_congr (id : NodeId) {s t : State} (pins : t.pins = s.pins) (cfg : t.port.cfg = s.port.cfg) :
    silentLost id t = silentLost id s := by
  funext n c
  simp only [silentLost, unsensed, pins, cfg]

theorem withFlagIf_player (b : Bool) (f : EventFlag) (s : State) : SameOutsidePlayer s (withFlagIf b f s) := by
  rw [withFlagIf_eq]
  split
  · exact State.setFlag_player f s
  · exact .refl s

theorem arbiterOnSilent_eq (id : NodeId) (s : State) :
    s.arbiterOnSilent id = s.mapArb fun a => { a with
      waiting := if (s.record id).isSome then a.waiting.filter fun e => decide (e.player ≠ id) else a.waiting
      ring := a.ring.map fun r => if r.player = id then { r with
        silent := true
        engagement := if (s.entry id).isSome then .none else r.engagement } else r } := by
  rcases found : s.record id with _ | r
  · have none : ∀ r ∈ s.arb.ring, r.player ≠ id := by
      simpa [State.record, List.find?_eq_none] using found
    have same : (s.arb.ring.map fun r => if r.player = id then { r with
        silent := true
        engagement := if (s.entry id).isSome then .none else r.engagement } else r) = s.arb.ring :=
      map_unchanged fun r member => if_neg (none r member)
    simp only [State.arbiterOnSilent, found, State.mapArb, same]
    rfl
  · simp only [State.arbiterOnSilent, found, Option.isSome_some, if_true, decide_not]
    rfl

theorem requestsOnSilent_eq (id : NodeId) (s : State) :
    s.requestsOnSilent id = match (s.markView id true).req.list.find? fun r => decide (r.element = id) with
      | some r => closed r .ended 18 (s.markView id true)
      | none => s.markView id true := by
  simp only [closed_eq]
  rfl

/-- R149: the report at field time, the seats and the arbiter. -/
def State.silentSeated (id : NodeId) (s : State) : State :=
  ((if s.time.reference = some id then s.referenceLost else s).seatsOnSilent id).arbiterOnSilent id

/-- R149: the report up to the partner views. -/
def State.silentViewed (id : NodeId) (s : State) : State :=
  (s.silentSeated id).updateView id fun v => { v with silent := true }

/-- R149: the report as it meets the blocks, before the resolution of a seat turned FREE. -/
def State.silentTold (id : NodeId) (s : State) : State := ((s.silentViewed id).requestsOnSilent id).refereesOnSilent id

theorem silentTold_report (id : NodeId) (s : State) : SilentReport id s (s.silentTold id) := by
  refine ⟨s.silentViewed id, ?_, ?_⟩
  · have flagged := withFlagIf_player (decide (s.time.reference = some id ∧
        (s.time.align = .locked ∨ s.time.align = .acquiring))) .alignChanged
      { s with time := if s.time.reference = some id then lostTime s.time else s.time }
    obtain ⟨-, -, -, -, -, -, -, pins, -, -, -, cfg, -⟩ := flagged
    rw [State.silentViewed, State.silentSeated, referenceOnSilent_eq, seatsOnSilent_eq, arbiterOnSilent_eq,
      silentLost_congr id pins cfg]
    exact updateView_updated id (fun v => { v with silent := true }) _
  · rw [State.silentTold, requestsOnSilent_eq]
    rfl

/-! ## A player's seat (R3) -/

theorem findSeatOf_some {p : NodeId} {m n : Nat} {c : Claim} {l : List Seat} (h : findSeatOf p m l = some (n, c)) :
    ∃ i x, n = m + i ∧ l[i]? = some x ∧ x.claim? = some c ∧ c.player = p := by
  induction l generalizing m with
  | nil => cases h
  | cons x l ih =>
    have later (h : findSeatOf p (m + 1) l = some (n, c)) :
        ∃ i y, n = m + i ∧ (x :: l)[i]? = some y ∧ y.claim? = some c ∧ c.player = p := by
      obtain ⟨i, y, place, at_, claim, own⟩ := ih h
      exact ⟨i + 1, y, by omega, by simpa using at_, claim, own⟩
    rw [findSeatOf] at h
    split at h
    · next c' claim =>
      split at h
      · next own =>
        cases h
        exact ⟨0, x, rfl, rfl, claim, own⟩
      · exact later h
    · exact later h

theorem claimAt_some_iff {s : State} {n : Nat} {c : Claim} :
    claimAt s n = some c ↔ ∃ x, s.seat.table[n]? = some x ∧ x.claim? = some c := by
  rw [claimAt_eq, State.seatAt, Option.bind_eq_some_iff]

theorem State.claimAt_of_seatOf {s : State} {p : NodeId} {n : Nat} {c : Claim} (h : s.seatOf p = some (n, c)) :
    claimAt s n = some c ∧ c.player = p := by
  obtain ⟨i, x, place, at_, claim, own⟩ := findSeatOf_some h
  obtain rfl : n = i := by omega
  exact ⟨claimAt_some_iff.mpr ⟨x, at_, claim⟩, own⟩

/-- R3: a player holds one seat. -/
theorem claimAt_unique {s : State} (law : s.holders.Nodup) {m n : Nat} {c d : Claim} (hc : claimAt s m = some c)
    (hd : claimAt s n = some d) (same : c.player = d.player) : m = n := by
  obtain ⟨x, atm, claimX⟩ := claimAt_some_iff.mp hc
  obtain ⟨y, atn, claimY⟩ := claimAt_some_iff.mp hd
  obtain ⟨smallM, isX⟩ := List.getElem?_eq_some_iff.mp atm
  obtain ⟨smallN, isY⟩ := List.getElem?_eq_some_iff.mp atn
  rw [State.holders, List.Nodup, List.pairwise_filterMap] at law
  have apart := List.pairwise_iff_getElem.mp law
  have holderX : s.seat.table[m].claim?.map Claim.player = some c.player := by rw [isX, claimX, Option.map_some]
  have holderY : s.seat.table[n].claim?.map Claim.player = some d.player := by rw [isY, claimY, Option.map_some]
  rcases Nat.lt_trichotomy m n with less | rfl | more
  · exact absurd same (apart m n smallM smallN less _ holderX _ holderY)
  · rfl
  · exact absurd same.symm (apart n m smallN smallM more _ holderY _ holderX)

theorem State.seatOf_of_claimAt {s : State} (law : s.holders.Nodup) {n : Nat} {c : Claim} (h : claimAt s n = some c) :
    s.seatOf c.player = some (n, c) := by
  rcases found : s.seatOf c.player with _ | ⟨m, d⟩
  · have absent := findSeatOf_none _ _ _ found
    obtain ⟨x, at_, claim⟩ := claimAt_some_iff.mp h
    refine absurd (List.mem_filterMap.mpr ⟨x, List.mem_of_getElem? at_, ?_⟩) absent
    rw [Seat.holder?, claim, Option.map_some]
  · obtain ⟨at_, own⟩ := State.claimAt_of_seatOf found
    obtain rfl := claimAt_unique law h at_ own.symm
    rw [Option.some.inj (h.symm.trans at_)]

/-- R45, R149: whether the report turns a seat FREE at once. -/
def State.silentFreed (id : NodeId) (s : State) : Bool :=
  decide (s.clearingTime = 0) && match s.seatOf id with
    | some (n, _) => !s.senseUse || !s.senseActive n
    | none => false

theorem State.reportSilent_eq (id : NodeId) (s : State) :
    s.reportSilent id = if s.silentFreed id then (s.silentTold id).resolve else s.silentTold id := rfl

theorem silentFreed_iff {s : State} (law : s.holders.Nodup) (id : NodeId) : s.silentFreed id = true ↔
      s.port.cfg.clearing = 0 ∧ ∃ n c, claimAt s n = some c ∧ c.player = id ∧ unsensed s n = true := by
  have zero : s.clearingTime = 0 ↔ s.port.cfg.clearing = 0 :=
    ⟨fun h => BitVec.eq_of_toNat_eq h, fun h => congrArg BitVec.toNat h⟩
  rw [State.silentFreed, Bool.and_eq_true, decide_eq_true_eq, zero]
  refine and_congr_right fun _ => ?_
  constructor
  · intro h
    rcases found : s.seatOf id with _ | ⟨n, c⟩
    · simp only [found] at h
      cases h
    · simp only [found] at h
      obtain ⟨at_, own⟩ := State.claimAt_of_seatOf found
      exact ⟨n, c, at_, own, (unsensed_eq s n).trans h⟩
  · rintro ⟨n, c, at_, rfl, lost⟩
    simp only [State.seatOf_of_claimAt law at_, ← unsensed_eq, lost]

end Sys2Proof.Machine
end

section
/-! What a SILENT report leaves (R20, R32, R54, R71, R88, R149): nothing later in the report seats its node again. -/

namespace Sys2Proof.Machine

/-! ## Properties that the work at the seats keeps -/

/-- A property that the end of a seat, a grant of the arbiter and a change of the views keep. -/
structure StableAtSeats (P : State → Prop) : Prop where
  endSeat : ∀ n reason s, P s → P (s.endSeat n reason)
  grant : ∀ n e (s : State), s.chosen = some e → P s → P (s.grant n e)
  mapViews : ∀ f (s : State), P s → P (s.mapViews f)

namespace StableAtSeats

variable {P : State → Prop} (stable : StableAtSeats P)
include stable

theorem endSeatsWhere (test : State → Nat → Claim → Bool) (reason : Reason) (l : List Nat) (s : State) (h : P s) :
    P (s.endSeatsWhere test reason l) := by
  induction l generalizing s with
  | nil => exact h
  | cons n rest ih =>
    refine ih _ ?_
    split
    · split
      · exact stable.endSeat _ _ _ h
      · exact h
    · exact h

theorem resolve (s : State) (h : P s) : P s.resolve := by
  have passes (k : Nat) : ∀ s : State, P s → P (s.resolvePasses k) := by
    induction k with
    | zero => exact fun _ h => h
    | succ k ih =>
      intro s h
      rcases s.passes_or_stops with ⟨n, e, gate, first, chosen⟩ | stops
      · rw [State.resolvePasses_grants k gate first chosen]
        exact ih _ (stable.grant n e s chosen h)
      · rw [State.resolvePasses_stops _ stops]
        exact h
  exact passes _ s h

theorem updateView (id : NodeId) (f : PartnerView → PartnerView) (s : State) (h : P s) : P (s.updateView id f) := by
  unfold State.updateView
  split
  · exact h
  · dsimp only
    split
    · exact stable.mapViews _ _ h
    · exact stable.resolve _ (stable.endSeatsWhere _ _ _ _ (stable.endSeatsWhere _ _ _ _ (stable.mapViews _ _ h)))

end StableAtSeats

/-! ## A silent player stays off the seats it has lost -/

/-- R20, R32: a player reported SILENT holds seats only as a silent holder, waits nowhere, and its record is silent. -/
structure SilentStands (id : NodeId) (s : State) : Prop where
  seats : ∀ x ∈ s.seat.table, x.heldBy id = true → s.port.cfg.senseUse ≠ 0 ∧ x.isSilentHeld = true
  waiting : ∀ e ∈ s.arb.waiting, e.player ≠ id
  ring : ∀ r ∈ s.arb.ring, r.player = id → r.silent = true

theorem SilentStands.of_same {id : NodeId} {s t : State} (h : SilentStands id s) (seat : t.seat = s.seat)
    (arb : t.arb = s.arb) (cfg : t.port.cfg = s.port.cfg) : SilentStands id t where
  seats := by rw [seat, cfg]; exact h.seats
  waiting := by rw [arb]; exact h.waiting
  ring := by rw [arb]; exact h.ring

theorem State.endedSeat_unheld (s : State) (id : NodeId) : s.endedSeat.heldBy id = false := by
  unfold State.endedSeat
  split <;> rfl

theorem ringTurned_mem {c : Claim} {reason : Reason} {s : State} {a : Arbiter} {r : StandingRecord} :
    r ∈ (s.ringTurned c reason a).ring ↔ r ∈ a.ring := by
  unfold State.ringTurned
  split
  · exact (moveToTail_perm c.player a.ring).mem_iff
  · rfl

/-- R12: the arbiter after the end of a seat: no entry has come, and each record stands as it did but for its engagement and
its last-ended claim. -/
theorem State.endSeat_arb (n : Nat) (reason : Reason) (s : State) :
    (s.endSeat n reason).arb.waiting = s.arb.waiting ∧
      ∀ r ∈ (s.endSeat n reason).arb.ring, ∃ q ∈ s.arb.ring, q.player = r.player ∧ q.silent = r.silent := by
  rcases claim : claimAt s n with _ | c
  · rw [claimAt_eq] at claim
    have same : s.endSeat n reason = s := by simp only [State.endSeat, claim]
    rw [same]
    exact ⟨rfl, fun r member => ⟨r, member, rfl, rfl⟩⟩
  · have arb : (s.endSeat n reason).arb = s.ringTurned c reason (s.tellEnd c reason).arb := by
      rw [State.endSeat_eq n c reason s claim]
      exact congrArg (s.ringTurned c reason) (State.postNotice_arb ..)
    rw [arb, State.tellEnd_arb]
    refine ⟨by unfold State.ringTurned; split <;> rfl, fun r member => ?_⟩
    obtain ⟨q, listed, rfl⟩ := List.mem_map.mp (ringTurned_mem.mp member)
    refine ⟨q, listed, ?_⟩
    split <;> exact ⟨rfl, rfl⟩

theorem SilentStands.endSeat {id : NodeId} {s : State} (h : SilentStands id s) (n : Nat) (reason : Reason) :
    SilentStands id (s.endSeat n reason) := by
  obtain ⟨waiting, ring⟩ := s.endSeat_arb n reason
  obtain ⟨-, -, -, -, -, -, -, -, -, cfg, -⟩ := s.endSeat_element n reason
  refine ⟨fun x member held => ?_, fun e member => h.waiting e (waiting ▸ member), fun r member own => ?_⟩
  · rw [cfg]
    rcases claim : (s.seatAt n).bind Seat.claim? with _ | c
    · have same : s.endSeat n reason = s := by simp only [State.endSeat, claim]
      exact h.seats x (same ▸ member) held
    · rw [s.endSeat_seat n reason c claim] at member
      rcases List.mem_or_eq_of_mem_set member with old | rfl
      · exact h.seats x old held
      · rw [s.endedSeat_unheld] at held
        cases held
  · obtain ⟨q, listed, player, silent⟩ := ring r member
    rw [← silent]
    exact h.ring q listed (player.trans own)

/-- R43: an entry chosen is no silent player's. -/
theorem SilentStands.chosen_other {id : NodeId} {s : State} (h : SilentStands id s) {e : Entry}
    (chosen : s.chosen = some e) : e.player ≠ id := h.waiting e (s.chosen_mem e chosen)

theorem granted_arb (n : Nat) (e : Entry) (s : State) : (granted n e s).arb.waiting =
    s.arb.waiting.filter (fun x => decide (x.player ≠ e.player)) ∧
      ∀ r ∈ (granted n e s).arb.ring, ∃ q ∈ s.arb.ring, q.player = r.player ∧ q.silent = r.silent := by
  unfold granted
  dsimp only
  rw [State.send_arb]
  refine ⟨rfl, fun r member => ?_⟩
  have listed : r ∈ s.arb.ring.map fun x => if x.player = e.player then
      { x with budget := x.budget - (s.port.cfg.offer e.offer).cost.toNat, engagement := .seated n } else x := by
    dsimp only at member
    split at member
    · exact (List.mem_append.mp member).elim (fun h => (List.mem_filter.mp h).1) fun h => (List.mem_filter.mp h).1
    · exact member
  obtain ⟨q, old, rfl⟩ := List.mem_map.mp listed
  refine ⟨q, old, ?_⟩
  split <;> exact ⟨rfl, rfl⟩

theorem SilentStands.grant {id : NodeId} {s : State} (h : SilentStands id s) (n : Nat) {e : Entry}
    (chosen : s.chosen = some e) : SilentStands id (s.grant n e) := by
  obtain ⟨waiting, ring⟩ := granted_arb n e s
  rw [← grant_eq] at waiting ring
  obtain ⟨-, -, -, -, -, -, -, -, -, cfg, -⟩ := s.grant_element n e
  refine ⟨fun x member held => ?_, fun x member => ?_, fun r member own => ?_⟩
  · rw [cfg]
    rw [State.grant_table] at member
    rcases List.mem_or_eq_of_mem_set member with old | rfl
    · exact h.seats x old held
    · have holder := s.grantedSeat_holder e
      have other := h.chosen_other chosen
      rw [Seat.heldBy] at held
      rw [Seat.holder?] at holder
      rcases claim : (s.grantedSeat e).claim? with _ | c
      · simp [claim] at holder
      · simp only [claim, decide_eq_true_eq] at held
        rw [claim, Option.map_some] at holder
        exact absurd ((Option.some.inj holder).symm.trans held) other
  · rw [waiting] at member
    exact h.waiting x ((List.mem_filter.mp member).1)
  · obtain ⟨q, listed, player, silent⟩ := ring r member
    rw [← silent]
    exact h.ring q listed (player.trans own)

theorem silentStands_stable (id : NodeId) : StableAtSeats (SilentStands id) where
  endSeat n reason _ h := h.endSeat n reason
  grant n _ _ chosen h := h.grant n chosen
  mapViews _ _ h := h.of_same rfl rfl rfl

/-! ## The report establishes it -/

theorem Seat.claim_endedSeat (s : State) : s.endedSeat.claim? = none := by
  unfold State.endedSeat
  split <;> rfl

/-- A seat still occupied after the ends of those that meet a test stands as it did, and does not meet it. -/
theorem State.endSeatsWhere_left (test : Nat → Claim → Bool) (reason : Reason) (l : List Nat) (s : State) {n : Nat}
    {x : Seat} {c : Claim} (at_ : (s.endSeatsWhere (fun _ => test) reason l).seat.table[n]? = some x)
    (claim : x.claim? = some c) :
    s.seat.table[n]? = some x ∧ (n ∈ l → test n c = false) := by
  induction l generalizing s with
  | nil => exact ⟨at_, fun h => nomatch h⟩
  | cons m rest ih =>
    obtain ⟨stood, unmet⟩ := ih _ at_
    rcases here : (s.seatAt m).bind Seat.claim? with _ | d
    · simp only [here] at stood
      refine ⟨stood, fun member => ?_⟩
      rcases List.mem_cons.mp member with rfl | later
      · rw [State.seatAt, stood, Option.bind_some, claim] at here
        cases here
      · exact unmet later
    · simp only [here] at stood
      rcases met : test m d with _ | _
      · simp only [met, Bool.false_eq_true, if_false] at stood
        refine ⟨stood, fun member => ?_⟩
        rcases List.mem_cons.mp member with rfl | later
        · rw [State.seatAt, stood, Option.bind_some, claim] at here
          rw [Option.some.inj here, met]
        · exact unmet later
      · simp only [met, if_true, s.endSeat_seat m reason d here, List.getElem?_set] at stood
        split at stood
        · split at stood
          · obtain rfl := Option.some.inj stood
            rw [Seat.claim_endedSeat] at claim
            cases claim
          · cases stood
        · next other =>
          refine ⟨stood, fun member => ?_⟩
          rcases List.mem_cons.mp member with rfl | later
          · exact absurd rfl other
          · exact unmet later

theorem markedSilent_claim (id : NodeId) (b : Bool) (x : Seat) : (markedSilent id b x).claim? = x.claim? := by
  cases x <;> rfl

theorem markedSilent_held {id : NodeId} {x : Seat} {c : Claim} (claim : x.claim? = some c) (own : c.player = id) :
    (markedSilent id true x).isSilentHeld = true := by
  cases x with
  | guard d r h =>
    obtain rfl : d = c := Option.some.inj claim
    simp [markedSilent, Seat.isSilentHeld, own]
  | held d p r h =>
    obtain rfl : d = c := Option.some.inj claim
    simp [markedSilent, Seat.isSilentHeld, own]
  | _ => cases claim

/-- R20: the seats after the report at the seat unit. -/
theorem seatsOnSilent_seats (id : NodeId) (s : State) :
    ∀ x ∈ (s.seatsOnSilent id).seat.table, x.heldBy id = true →
      (s.seatsOnSilent id).port.cfg.senseUse ≠ 0 ∧ x.isSilentHeld = true := by
  intro x member held
  have cfg : (s.seatsOnSilent id).port.cfg = s.port.cfg := by
    obtain ⟨-, -, -, -, -, -, -, -, -, cfg, -⟩ := State.endSeatsWhere_element
      (fun t n c => decide (c.player = id) && (!t.senseUse || !t.senseActive n)) .silent s.seatNumbers s
    exact cfg
  rw [cfg]
  rw [seatsOnSilent_eq, endingSeats_eq] at member
  obtain ⟨y, listed, rfl⟩ := List.mem_map.mp member
  obtain ⟨n, at_⟩ := List.mem_iff_getElem?.mp listed
  rcases claim : y.claim? with _ | c
  · rw [Seat.heldBy, markedSilent_claim, claim] at held
    cases held
  · obtain ⟨stood, unmet⟩ := s.endSeatsWhere_left _ _ _ at_ claim
    obtain ⟨small, -⟩ := List.getElem?_eq_some_iff.mp stood
    have own : c.player = id := by
      simpa [Seat.heldBy, markedSilent_claim, claim] using held
    refine ⟨?_, markedSilent_held claim own⟩
    have sensed := unmet (List.mem_range.mpr small)
    rw [silentLost, decide_eq_true own, Bool.true_and, unsensed, Bool.or_eq_false_iff, decide_eq_false_iff_not] at sensed
    exact sensed.1

theorem silentSeated_stands (id : NodeId) (s : State) (law : ElementLaw s) : SilentStands id (s.silentSeated id) := by
  have lost : CarriesLaws s (if s.time.reference = some id then s.referenceLost else s) := by
    split
    · exact State.referenceLost_laws s
    · exact .refl s
  obtain ⟨-, -, -, -, -, -, known⟩ := (lost.trans (State.seatsOnSilent_laws id _)).element law
  generalize freed : State.seatsOnSilent id (if s.time.reference = some id then s.referenceLost else s) = u at known
  have seats := seatsOnSilent_seats id (if s.time.reference = some id then s.referenceLost else s)
  rw [freed] at seats
  rw [State.silentSeated, freed, arbiterOnSilent_eq]
  refine ⟨seats, fun e member => ?_, fun r member own => ?_⟩
  · simp only [State.mapArb_arb] at member
    split at member
    · simpa using (List.mem_filter.mp member).2
    · next absent =>
      rintro rfl
      obtain ⟨r, listed, player⟩ := List.mem_map.mp (known e member).1
      refine absent (Option.isSome_iff_exists.mpr ?_)
      rcases found : u.record e.player with _ | q
      · exact absurd (by simp [player]) (List.find?_eq_none.mp found r listed)
      · exact ⟨q, rfl⟩
  · obtain ⟨q, -, rfl⟩ := List.mem_map.mp member
    split at own
    · next player => rw [if_pos player]
    · next other => exact absurd own other

/-! ## What the report leaves as it is -/

/-- The blocks that neither field time, the seats, the views nor a frame placed reach, with the requests reduced. -/
structure ReportKeeps (s t : State) : Prop where
  peers : t.peers = s.peers
  phase : t.phase = s.phase
  pins : t.pins = s.pins
  ref : t.ref = s.ref
  node : t.port.nodeState = s.port.nodeState
  cfg : t.port.cfg = s.port.cfg
  req : s.req.Reduced t.req

theorem ReportKeeps.trans {s t u : State} (h : ReportKeeps s t) (k : ReportKeeps t u) : ReportKeeps s u where
  peers := k.peers.trans h.peers
  phase := k.phase.trans h.phase
  pins := k.pins.trans h.pins
  ref := k.ref.trans h.ref
  node := k.node.trans h.node
  cfg := k.cfg.trans h.cfg
  req := reduced_keptByElement.trans (s := s) (t := t) (u := u) h.req k.req

theorem ReportKeeps.of_element {s t : State} (h : SameOutsideElement s t) (req : s.req.Reduced t.req) : ReportKeeps s t := by
  obtain ⟨peers, -, phase, -, ref, pins, -, -, -, cfg, node, -⟩ := h
  exact ⟨peers, phase, pins, ref, node, cfg, req⟩

theorem referenceOnSilent_keeps (id : NodeId) (s : State) :
    ReportKeeps s (if s.time.reference = some id then s.referenceLost else s) := by
  have req (b : Bool) (f : EventFlag) (t : State) : (withFlagIf b f t).req = t.req := by
    rw [withFlagIf_eq]
    split <;> rfl
  rw [referenceOnSilent_eq]
  obtain ⟨peers, -, phase, -, -, -, ref, pins, -, -, -, cfg, node, -⟩ := withFlagIf_player
    (decide (s.time.reference = some id ∧ (s.time.align = .locked ∨ s.time.align = .acquiring))) .alignChanged
    { s with time := if s.time.reference = some id then lostTime s.time else s.time }
  refine ⟨peers, phase, pins, ref, node, cfg, ?_⟩
  rw [req]
  exact ⟨rfl, fun r member => ⟨r, member, rfl⟩⟩

theorem silentSeated_keeps (id : NodeId) (s : State) : ReportKeeps s (s.silentSeated id) := by
  have ended (t : State) : ReportKeeps t (t.seatsOnSilent id) :=
    have seats := State.endSeatsWhere_element (fun t n c => decide (c.player = id) && (!t.senseUse || !t.senseActive n))
      .silent t.seatNumbers t
    .of_element seats (reduced_keptByElement.endSeatsWhere ..)
  have listed (t : State) : ReportKeeps t (t.arbiterOnSilent id) := by
    rw [arbiterOnSilent_eq]
    exact .of_element (State.mapArb_element _ t) (reduced_keptByElement.mapArb _ t)
  exact ((referenceOnSilent_keeps id s).trans (ended _)).trans (listed _)

/-- R62 to R64: an update writes the view and does the work of an element. -/
theorem State.updateView_does (id : NodeId) (f : PartnerView → PartnerView) (s : State) :
    SameOutsideElement { s with views := s.views.map fun v => if v.id = id then f v else v } (s.updateView id f) := by
  unfold State.updateView
  split
  · next none =>
    have same : (s.views.map fun v => if v.id = id then f v else v) = s.views := by
      refine map_unchanged fun v member => if_neg ?_
      simpa using List.find?_eq_none.mp none v member
    rw [same]
    exact .refl s
  · dsimp only
    split
    · exact .refl _
    · exact ((State.endSeatsWhere_element ..).trans (State.endSeatsWhere_element ..)).trans (State.resolve_element _)

theorem State.updateView_keeps (id : NodeId) (f : PartnerView → PartnerView) (s : State) :
    ReportKeeps s (s.updateView id f) := by
  obtain ⟨peers, -, phase, -, ref, pins, -, -, -, cfg, node, -⟩ := s.updateView_does id f
  exact ⟨peers, phase, pins, ref, node, cfg, reduced_keptByElement.updateView id f s⟩

theorem silentViewed_views (id : NodeId) (s : State) :
    ∀ v ∈ (s.silentViewed id).views, v.id = id → v.silent = true := by
  obtain ⟨-, -, -, views, -⟩ := (s.silentSeated id).updateView_does id fun v => { v with silent := true }
  intro v member own
  rw [State.silentViewed, views] at member
  obtain ⟨w, -, rfl⟩ := List.mem_map.mp member
  split at own
  · next is => rw [if_pos is]
  · next other => exact absurd own other

/-- R71, R88: the requests after the report. -/
theorem requestsOnSilent_does (id : NodeId) (s : State) :
    SameOutsidePlayer s (s.requestsOnSilent id) ∧ (s.requestsOnSilent id).req.claimCounter = s.req.claimCounter ∧
      (∀ v ∈ (s.requestsOnSilent id).req.view, v.1 = id → v.2.silent = true) ∧
      ∀ r ∈ (s.requestsOnSilent id).req.list, r.element ≠ id := by
  have marked : SameOutsidePlayer s (s.markView id true) := by simp [SameOutsidePlayer, State.markView]
  have silent : ∀ v ∈ (s.markView id true).req.view, v.1 = id → v.2.silent = true := by
    intro v member own
    obtain ⟨w, -, rfl⟩ := List.mem_map.mp member
    split at own
    · next is => rw [if_pos is]
    · next other => exact absurd own other
  unfold State.requestsOnSilent
  dsimp only
  rcases found : (s.markView id true).request id with _ | r
  · refine ⟨marked, rfl, silent, fun r member => ?_⟩
    simpa using List.find?_eq_none.mp found r member
  · have req := State.closeRequest_req r .ended (reasonDetail .elementLost) (s.markView id true)
    refine ⟨marked.trans (State.closeRequest_player ..), ?_, ?_, fun q member => ?_⟩
    · rw [req]
      rfl
    · rw [req]
      exact silent
    · rw [req] at member
      have other := (List.mem_filter.mp member).2
      rw [State.request_element found] at other
      simpa using other

/-! ## PEER_SILENT (R147) -/

theorem lookupId_insertId_same {α : Type} (k : NodeId) (a : α) (l : List (NodeId × α)) :
    lookupId k (insertId k a l) = some a := by
  induction l with
  | nil => simp [insertId, lookupId]
  | cons x l ih =>
    obtain ⟨j, b⟩ := x
    unfold insertId
    split
    · simp [lookupId]
    · split
      · simp [lookupId]
      · next other => simp [lookupId, other, ih]

theorem lookupId_insertId_other {α : Type} {j k : NodeId} (a : α) (l : List (NodeId × α)) (h : j ≠ k) :
    lookupId j (insertId k a l) = lookupId j l := by
  induction l with
  | nil => simp [insertId, lookupId, h.symm]
  | cons x l ih =>
    obtain ⟨i, b⟩ := x
    unfold insertId
    split
    · simp [lookupId, h.symm]
    · split
      · next same => simp [lookupId, h.symm, same]
      · simp [lookupId, ih]

theorem execPeerSilent_idle {s : State} {id : NodeId} (h : s.port.nodeState = .config ∨
    ∀ p, lookupId id s.peers.slots = some p → p.heard = false ∨ p.silence ≠ 0) :
    exec (.peerSilent id) s = .next s := by
  change execPeerSilent id s = _
  rw [execPeerSilent]
  split
  · next p found =>
    refine next_neg ?_ _ s
    simp only [Bool.and_eq_true, NodeState.started_iff, decide_eq_true_eq]
    rintro ⟨⟨started, heard⟩, run⟩
    rcases h with config | quiet
    · exact started config
    · rcases quiet p found with silent | left
      · simp [heard] at silent
      · exact left run
  · rfl

theorem execPeerSilent_reports {s : State} {id : NodeId} {p : PeerSlot} (started : s.port.nodeState ≠ .config)
    (found : lookupId id s.peers.slots = some p) (heard : p.heard = true) (run : p.silence = 0) :
    exec (.peerSilent id) s = .next ((s.setSlot id { p with heard := false }).reportSilent id) := by
  change execPeerSilent id s = _
  rw [execPeerSilent, found]
  exact next_pos (by simp [(NodeState.started_iff _).mpr started, heard, run]) _ s

/-- What a report leaves, with a resolution at its end or without. -/
structure SilentLeft (id : NodeId) (s t : State) : Prop where
  stands : SilentStands id t
  slots : t.peers.slots = s.peers.slots
  phase : t.phase = s.phase
  pins : t.pins = s.pins
  ref : t.ref = s.ref
  node : t.port.nodeState = s.port.nodeState
  cfg : t.port.cfg = s.port.cfg
  counter : t.req.claimCounter = s.req.claimCounter
  view : ∀ v ∈ t.req.view, v.1 = id → v.2.silent = true
  list : ∀ r ∈ t.req.list, r.element ≠ id
  views : ∀ v ∈ t.views, v.id = id → v.silent = true

/-- R54: the referee slots are no part of what the report leaves. -/
theorem SilentLeft.referees {id : NodeId} {s t : State} (h : SilentLeft id s t) : SilentLeft id s (t.refereesOnSilent id) :=
  ⟨h.stands.of_same rfl rfl rfl, h.slots, h.phase, h.pins, h.ref, h.node, h.cfg, h.counter, h.view, h.list, h.views⟩

theorem silentRequested_left (id : NodeId) (s : State) (law : ElementLaw s) :
    SilentLeft id s ((s.silentViewed id).requestsOnSilent id) := by
  have kept : ReportKeeps s (s.silentViewed id) :=
    (silentSeated_keeps id s).trans ((s.silentSeated id).updateView_keeps id fun v => { v with silent := true })
  have stands : SilentStands id (s.silentViewed id) := (silentStands_stable id).updateView id
    (fun v => { v with silent := true }) _ (silentSeated_stands id s law)
  have shown := silentViewed_views id s
  generalize s.silentViewed id = w at kept stands shown
  obtain ⟨player, counter, view, list⟩ := requestsOnSilent_does id w
  obtain ⟨peers, -, phase, seat, arb, views, ref, pins, -, -, -, cfg, node, -⟩ := player
  exact {
    stands := stands.of_same seat arb cfg
    slots := congrArg Peers.slots (peers.trans kept.peers)
    phase := phase.trans kept.phase
    pins := pins.trans kept.pins
    ref := ref.trans kept.ref
    node := node.trans kept.node
    cfg := cfg.trans kept.cfg
    counter := counter.trans (by rw [kept.req.1])
    view := view
    list := list
    views := views ▸ shown }

theorem silentTold_left (id : NodeId) (s : State) (law : ElementLaw s) : SilentLeft id s (s.silentTold id) :=
  (silentRequested_left id s law).referees

theorem SilentLeft.resolve {id : NodeId} {s t : State} (h : SilentLeft id s t) : SilentLeft id s t.resolve := by
  obtain ⟨peers, -, phase, views, ref, pins, -, -, -, cfg, node, -⟩ := t.resolve_element
  obtain ⟨req, members⟩ := reduced_keptByElement.resolve t
  exact {
    stands := (silentStands_stable id).resolve t h.stands
    slots := by rw [peers, h.slots]
    phase := phase.trans h.phase
    pins := pins.trans h.pins
    ref := ref.trans h.ref
    node := node.trans h.node
    cfg := cfg.trans h.cfg
    counter := by rw [req, ← h.counter]
    view := by
      rw [req]
      exact h.view
    list := fun r member => by
      obtain ⟨q, listed, own⟩ := members r member
      exact own ▸ h.list q listed
    views := views ▸ h.views }

/-- Settles O32: the report is `State.silentTold` with its resolution, and nothing in it seats the node again. -/
theorem peerSilentIsReported : Obligations.PeerSilentIsReported := by
  intro s id
  refine ⟨execPeerSilent_idle, fun p law started found heard run => ?_⟩
  intro declared frees
  have told : SilentLeft id declared (declared.silentTold id) := silentTold_left id declared law
  have freed : declared.silentFreed id = true ↔ frees := silentFreed_iff (s := declared) law.2.1 id
  have final : SilentLeft id declared (declared.reportSilent id) := by
    rw [State.reportSilent_eq]
    split
    · exact told.resolve
    · exact told
  refine ⟨declared.silentTold id, declared.reportSilent id, execPeerSilent_reports started found heard run,
    silentTold_report id declared, fun h => if_pos (freed.mpr h), fun h => if_neg (mt freed.mp h), ?_, fun j other => ?_,
    fun x member held => ?_, final.stands.waiting, final.stands.ring, final.view, final.counter.symm, final.list,
    final.views, final.phase, final.pins, final.ref, final.node, final.cfg⟩
  · rw [final.slots]
    exact lookupId_insertId_same ..
  · rw [final.slots]
    exact lookupId_insertId_other _ _ other
  · obtain ⟨use, kept⟩ := final.stands.seats x member held
    rw [final.cfg] at use
    exact ⟨use, kept⟩

end Sys2Proof.Machine
end

section
/-! The shift registers and the draw of a contention (R154, R160 to R162, R175, R176). -/

namespace Sys2Proof.Machine

/-! ## The pattern generator -/

theorem patternStep_getLsbD_succ (g : BitVec 15) (i : Nat) (h : i < 14) :
    (patternStep g).getLsbD (i + 1) = g.getLsbD i := by
  have : i + 1 < 15 := by omega
  simp [patternStep, this]
  rfl

theorem patternStep_getLsbD_zero (g : BitVec 15) : (patternStep g).getLsbD 0 = patternBit g := by
  simp [patternStep]

/-- The pattern generator does not reach 0: before a 0 every stage but the last is 0, and then the tap of the last one makes
bit 0. -/
theorem patternStep_ne_zero (g : BitVec 15) (h : g ≠ 0) : patternStep g ≠ 0 := by
  intro zero
  have low (i : Nat) (hi : i < 14) : g.getLsbD i = false := by
    rw [← patternStep_getLsbD_succ g i hi, zero]
    simp
  have top : g.getLsbD 14 = false := by
    have b := patternStep_getLsbD_zero g
    rw [zero, patternBit, low 13 (by omega)] at b
    simpa using b.symm
  refine h (BitVec.eq_of_getLsbD_eq fun i hi => ?_)
  rcases Nat.lt_succ_iff_lt_or_eq.mp hi with less | rfl
  · simp [low i less]
  · simpa using top

theorem shiftRegistersStep : ShiftRegistersStep := by
  refine ⟨fun g i bound => ?_, fun g i bound => ?_, backoffStep_ne_zero, patternStep_ne_zero⟩
  · cases i with
    | zero => simp only [backoffStep_getLsbD_zero, if_true, Bool.xor_assoc]
    | succ i => exact backoffStep_getLsbD_succ g i (by omega)
  · cases i with
    | zero => exact patternStep_getLsbD_zero g
    | succ i => exact patternStep_getLsbD_succ g i (by omega)

theorem patternSteps_succ (n : Nat) (g : BitVec 15) : patternSteps (n + 1) g = patternStep (patternSteps n g) :=
  patternSteps_add n 1 g

/-- Stage i of the generator holds the output of the step i steps ago. -/
theorem patternSteps_getLsbD (i n : Nat) (g : BitVec 15) (stage : i < 15) (past : i < n) :
    (patternSteps n g).getLsbD i = patternBit (patternSteps (n - 1 - i) g) := by
  induction i generalizing n with
  | zero =>
    obtain ⟨m, rfl⟩ : ∃ m, n = m + 1 := ⟨n - 1, by omega⟩
    rw [patternSteps_succ, patternStep_getLsbD_zero]
    rfl
  | succ i ih =>
    obtain ⟨m, rfl⟩ : ∃ m, n = m + 1 := ⟨n - 1, by omega⟩
    rw [patternSteps_succ, patternStep_getLsbD_succ _ _ (by omega), ih m (by omega) (by omega)]
    congr 2
    omega

theorem patternBytes_bit (n : Nat) (g : BitVec 15) (i : Nat) (h : i < 8 * n) :
    (byteAt (patternBytes n g) (i / 8)).getLsbD (7 - i % 8) = patternBit (patternSteps i g) := by
  rw [byteAt_patternBytes n g (i / 8) (by omega), patternByte_bit _ _ (Nat.mod_lt _ (by omega)), ← patternSteps_add,
    Nat.div_add_mod]

theorem patternLoad_getLsbD (bits : List Byte) (i : Nat) (h : i < 15) :
    (patternLoad bits).getLsbD i = (byteAt bits (31 - i / 8)).getLsbD (i % 8) := by
  simp only [patternLoad, halfAt, BitVec.getLsbD_setWidth, h, decide_true, Bool.true_and, BitVec.getLsbD_append]
  split
  · next low => rw [Nat.div_eq_of_lt low, Nat.mod_eq_of_lt low]
  · next high =>
    rw [show i / 8 = 1 by omega, show i % 8 = i - 8 by omega]

/-- A check generator loaded with the end of a PATTERN stands where the sender's generator stands. -/
theorem patternLoad_patternBytes (g : BitVec 15) : patternLoad (patternBytes 32 g) = patternSteps 256 g := by
  refine BitVec.eq_of_getLsbD_eq fun i stage => ?_
  have bit := patternBytes_bit 32 g (255 - i) (by omega)
  rw [patternLoad_getLsbD _ _ stage, patternSteps_getLsbD i 256 g stage (by omega), ← bit]
  congr 2 <;> omega

theorem onesOfByte_xor (x y : Byte) :
    onesOfByte (x ^^^ y) = ((List.range 8).filter fun i => decide (x.getLsbD i ≠ y.getLsbD i)).length := by
  refine congrArg (fun test => ((List.range 8).filter test).length) (funext fun i => ?_)
  rw [BitVec.getLsbD_xor]
  cases x.getLsbD i <;> cases y.getLsbD i <;> rfl

theorem bitDifferences_cons (x y : Byte) (xs ys : List Byte) :
    bitDifferences (x :: xs) (y :: ys) = onesOfByte (x ^^^ y) + bitDifferences xs ys := rfl

theorem bitDifferences_self (xs : List Byte) : bitDifferences xs xs = 0 := by
  induction xs with
  | nil => rfl
  | cons x xs ih =>
    rw [bitDifferences_cons, ih, BitVec.xor_self]
    rfl

theorem patternBitsAreTheGenerators : PatternBitsAreTheGenerators :=
  ⟨fun _ => rfl, patternSteps_succ, patternBytes_length 32, fun g i bound => patternBytes_bit 32 g i bound,
    patternLoad_getLsbD, patternLoad_patternBytes, rfl,
    fun x y xs ys => by rw [bitDifferences_cons, onesOfByte_xor], bitDifferences_self⟩

/-! ## The CRC -/

theorem crcPolynomial_getLsbD (i : Nat) : (0x1021 : Half).getLsbD i = decide (i = 0 ∨ i = 5 ∨ i = 12) := by
  by_cases bound : i < 16
  · have all : ∀ i : Fin 16, (0x1021 : Half).getLsbD i = decide (i.val = 0 ∨ i.val = 5 ∨ i.val = 12) := by decide
    exact all ⟨i, bound⟩
  · rw [BitVec.getLsbD_of_ge _ _ (by omega), eq_comm, decide_eq_false_iff_not]
    omega

theorem crcBit_getLsbD (r : Half) (b : Bool) (i : Nat) (h : i < 16) : (crcBit r b).getLsbD i =
    ((decide (0 < i) && r.getLsbD (i - 1)) ^^ ((r.getLsbD 15 ^^ b) && decide (i = 0 ∨ i = 5 ∨ i = 12))) := by
  have shifted : (r <<< 1).getLsbD i = (decide (0 < i) && r.getLsbD (i - 1)) := by
    cases i with
    | zero => simp
    | succ i =>
      simp [h]
      rfl
  rw [crcBit]
  split
  · next fed => rw [BitVec.getLsbD_xor, shifted, crcPolynomial_getLsbD, fed, Bool.true_and]
  · next unfed => rw [shifted, (Bool.not_eq_true _).mp unfed, Bool.false_and, Bool.xor_false]

theorem crcIsTheRegister : CrcIsTheRegister := by
  refine ⟨crcBit_getLsbD, fun bs => ?_⟩
  rw [List.foldl_flatMap]
  rfl

/-! ## The head of the queue and the draw -/

theorem foldl_min_ge (q : List QueuedFrame) (a b : Nat) :
    b ≤ q.foldl (fun m f => min m f.body.urgency) a ↔ b ≤ a ∧ ∀ x ∈ q, b ≤ x.body.urgency := by
  induction q generalizing a with
  | nil => simp
  | cons f q ih =>
    rw [List.foldl_cons, ih]
    simp only [List.mem_cons, forall_eq_or_imp, Nat.le_min, and_assoc]

theorem urgency_le (b : TxBody) : b.urgency ≤ 3 := by
  cases b <;> simp [TxBody.urgency]

theorem le_bestClass_iff {q : List QueuedFrame} {b : Nat} (bound : b ≤ 3) :
    b ≤ bestClass q ↔ ∀ x ∈ q, b ≤ x.body.urgency := by
  rw [bestClass, foldl_min_ge]
  exact ⟨fun h => h.2, fun h => ⟨bound, h⟩⟩

theorem bestClass_le {q : List QueuedFrame} {f : QueuedFrame} (member : f ∈ q) : bestClass q ≤ f.body.urgency :=
  (le_bestClass_iff ((foldl_min_ge q 3 (bestClass q)).mp (Nat.le_refl _)).1).mp (Nat.le_refl _) f member

/-- The first of a list that meets a test, found and taken out. -/
theorem first_found {α : Type} (test : α → Bool) (before : List α) {g : α} {after : List α} (hit : test g = true)
    (miss : ∀ x ∈ before, test x = false) :
    (before ++ g :: after).find? test = some g ∧ (before ++ g :: after).eraseP test = before ++ after := by
  have unmet : ∀ x ∈ before, ¬ test x = true := fun x member => by simp [miss x member]
  rw [List.find?_append, List.find?_eq_none.mpr unmet, List.find?_cons_of_pos hit, List.eraseP_append_right _ unmet,
    List.eraseP_cons_of_pos hit]
  exact ⟨rfl, rfl⟩

section Best

variable {before after : List QueuedFrame} {f : QueuedFrame} (high : ∀ x ∈ before, f.body.urgency < x.body.urgency)
  (least : ∀ x ∈ after, f.body.urgency ≤ x.body.urgency)
include high least

theorem bestClass_split : bestClass (before ++ f :: after) = f.body.urgency := by
  apply Nat.le_antisymm (bestClass_le (by simp))
  rw [le_bestClass_iff (urgency_le _)]
  intro x member
  rcases List.mem_append.mp member with b | tail
  · exact Nat.le_of_lt (high x b)
  · rcases List.mem_cons.mp tail with rfl | a
    · exact Nat.le_refl _
    · exact least x a

/-- R156: the frame placed earliest of the lowest class, found and taken out. -/
theorem head_split : headOf (before ++ f :: after) = some f ∧ withoutHead (before ++ f :: after) = before ++ after :=
  first_found (fun x : QueuedFrame => decide (x.body.urgency = bestClass (before ++ f :: after))) before
    (decide_eq_true (bestClass_split high least).symm) fun x member => by
      have := high x member
      simp only [bestClass_split high least, decide_eq_false_iff_not]
      omega

end Best

theorem urgency_eq_zero (b : TxBody) : b.urgency = 0 ↔ b = .halt := by
  cases b <;> simp [TxBody.urgency]

/-- A HALT anywhere in the queue is at its head: its class is its own. -/
theorem headOf_halt (q : List QueuedFrame) :
    (headOf q).map QueuedFrame.body = some .halt ↔ q.any (fun f => decide (f.body = .halt)) = true := by
  simp only [Option.map_eq_some_iff, List.any_eq_true, decide_eq_true_eq]
  constructor
  · rintro ⟨f, head, halt⟩
    exact ⟨f, List.mem_of_find?_eq_some head, halt⟩
  · rintro ⟨g, member, halt⟩
    have best : bestClass q = 0 := Nat.le_zero.mp
      (Nat.le_trans (bestClass_le member) (Nat.le_of_eq ((urgency_eq_zero _).mpr halt)))
    have found : (headOf q).isSome = true := List.find?_isSome.mpr ⟨g, member, by rw [best, halt]; rfl⟩
    obtain ⟨f, head⟩ := Option.isSome_iff_exists.mp found
    have class0 : f.body.urgency = bestClass q :=
      of_decide_eq_true (List.find?_some (p := fun g : QueuedFrame => decide (g.body.urgency = bestClass q)) head)
    exact ⟨f, head, (urgency_eq_zero _).mp (class0.trans best)⟩

theorem State.carrier_iff (s : State) : s.carrier = true ↔ s.pins.cd = true ∧ ¬ inLoop s := by
  rw [State.carrier, Bool.and_eq_true, Bool.not_eq_true', ← Bool.not_eq_true, State.inLoopback_iff]

theorem State.carrier_low {s : State} (h : s.pins.cd = false ∨ inLoop s) : s.carrier = false := by
  rw [← Bool.not_eq_true, State.carrier_iff]
  rintro ⟨high, outside⟩
  exact h.elim (fun low => by simp [high] at low) outside

theorem execIdleGap_waits {s : State} {k : Contention} (present : s.chan.contention = some k)
    (shut : (k.gapDone || s.carrier) = true) : execIdleGapComplete s = .next s := by
  simp only [execIdleGapComplete, present, shut, if_true]

section Gap

variable {s : State} {k : Contention} (present : s.chan.contention = some k) (waits : k.gapDone = false)
  (low : s.pins.cd = false ∨ inLoop s)
include present waits low

theorem execIdleGap_drawn {b : Nat} (slots : k.slots = some b) :
    execIdleGapComplete s = .next (s.setContention (some (Contention.counting b))) := by
  simp only [execIdleGapComplete, present, waits, State.carrier_low low, slots, Bool.or_self, Bool.false_eq_true, if_false]

theorem execIdleGap_draws (slots : k.slots = none) :
    execIdleGapComplete s = .next (s.drawSlots.1.setContention (some (Contention.counting s.drawSlots.2))) := by
  simp only [execIdleGapComplete, present, waits, State.carrier_low low, slots, Bool.or_self, Bool.false_eq_true, if_false]

end Gap

theorem idleGapDrawsOnce : IdleGapDrawsOnce := by
  refine ⟨fun s idle => ?_, fun s k present => ?_⟩
  · change execIdleGapComplete s = _
    simp only [execIdleGapComplete, idle]
  · intro go g head
    refine ⟨fun shut => execIdleGap_waits present ?_, fun waits low => ⟨fun b slots => ?_, fun slots halt => ?_,
      fun slots other => ?_⟩⟩
    · rwa [Bool.or_eq_true, State.carrier_iff]
    · exact execIdleGap_drawn present waits low slots
    · refine (execIdleGap_draws present waits low slots).trans ?_
      rw [State.drawSlots, if_pos ((headOf_halt _).mpr halt)]
      rfl
    · refine (execIdleGap_draws present waits low slots).trans ?_
      rw [State.drawSlots, if_neg (mt (headOf_halt _).mp (by simp [other, head] at *))]
      rfl

/-- Settles O33: the registers bit by bit, and the draw by the branches of IDLE_GAP_COMPLETE. -/
theorem generatorsAndTheDraw : Obligations.GeneratorsAndTheDraw :=
  ⟨shiftRegistersStep, patternBitsAreTheGenerators, crcIsTheRegister, idleGapDrawsOnce⟩

end Sys2Proof.Machine
end

section
/-! The bodies that a node sends, and the beginning of a transmission (R23, R92, R142, R155, R178, R190 to R192). -/

namespace Sys2Proof.Machine

/-! ## The bodies of the frames (R192) -/

theorem kindCode_eq (b : TxBody) : b.kindCode = kindOf b := by cases b <;> rfl

theorem phaseCode_eq (p : Phase) : p.code = phaseByte p := by cases p <;> rfl

theorem AnswerBody.bytes_eq (a : AnswerBody) : a.bytes = answerBytes a := by
  cases a with
  | granted seat hold mark =>
    simp only [AnswerBody.bytes, answerBytes, bytesOf_half]
    rfl
  | renewed hold => simp only [AnswerBody.bytes, answerBytes, bytesOf_half]
  | waiting _ _ => rfl
  | refused _ => rfl
  | ended _ => rfl
  | renewDenied _ => rfl

/-- R192: the third byte of an ASK, as a sum. -/
theorem askByte_eq (renew : Bool) (offer : Nat) : (if renew then 128 else 0) ||| BitVec.ofNat 8 (offer % 4) =
    BitVec.ofNat 8 ((if renew then 128 else 0) + offer % 4) := by
  have small : offer % 4 < 4 := Nat.mod_lt _ (by omega)
  generalize offer % 4 = r at small
  have all : ∀ (b : Bool) (r : Fin 4), (if b then 128 else 0) ||| BitVec.ofNat 8 r.val =
      BitVec.ofNat 8 ((if b then 128 else 0) + r.val) := by decide
  exact all renew ⟨r, small⟩

theorem TxBody.bytes_eq (b : TxBody) : b.bytes = bodyOf b := by
  cases b with
  | presence => rfl
  | ask element claim renew offer hold =>
    simp only [TxBody.bytes, bodyOf, bytesOf_half, askByte_eq]
    rfl
  | yield element claim => rfl
  | answer player claim a =>
    simp only [TxBody.bytes, bodyOf, AnswerBody.bytes_eq]
    rfl
  | mark seq phase boundary =>
    simp only [TxBody.bytes, bodyOf, bytesOf_quad, phaseCode_eq]
    rfl
  | sanction seq player kind duration =>
    simp only [TxBody.bytes, bodyOf, bytesOf_half]
    cases kind <;> rfl
  | turn seq element player => rfl
  | halt => rfl
  | pattern bits seq => simp only [TxBody.bytes, bodyOf, bytesOf_half]

/-! ## The bodies of a PRESENCE (R23, R92, R142) -/

theorem State.openNow_eq (s : State) (o : OfferSlot) : s.openNow o = inPhaseSet o.openPhases (phaseForOffers s) := by
  rw [State.openNow, OfferSlot.openIn, OfferSlot.openIn, phaseSetHas_eq, phaseSetHas_eq, phaseForOffers,
    apply_ite (inPhaseSet o.openPhases)]

/-- R192: the first byte of an offer, as a sum. -/
theorem offerByte_eq (k r : Byte) (o : Bool) :
    (k.setWidth 2 : BitVec 2) ++ BitVec.ofBool o ++ (r.setWidth 2 : BitVec 2) ++ (0 : BitVec 3) =
      BitVec.ofNat 8 (k.toNat % 4 * 64 + (if o then 32 else 0) + r.toNat % 4 * 8) := by
  have all : ∀ (o : Bool) (k r : BitVec 2), k ++ BitVec.ofBool o ++ r ++ (0 : BitVec 3) =
      BitVec.ofNat 8 (k.toNat * 64 + (if o then 32 else 0) + r.toNat * 8) := by decide
  exact (all o (k.setWidth 2) (r.setWidth 2)).trans (by simp only [BitVec.toNat_setWidth])

/-- R92: the byte of a player's PRESENCE, as a sum. -/
theorem playerByte_eq (benched ejected : Bool) (n : Nat) :
    BitVec.ofBool benched ++ BitVec.ofBool ejected ++ (0 : BitVec 3) ++ BitVec.ofNat 3 n =
      BitVec.ofNat 8 ((if benched then 128 else 0) + (if ejected then 64 else 0) + n % 8) := by
  have all : ∀ (b e : Bool) (r : BitVec 3), BitVec.ofBool b ++ BitVec.ofBool e ++ (0 : BitVec 3) ++ r =
      BitVec.ofNat 8 ((if b then 128 else 0) + (if e then 64 else 0) + r.toNat) := by decide
  exact (all benched ejected (BitVec.ofNat 3 n)).trans (by rw [BitVec.toNat_ofNat])

theorem State.playerPresence_eq (s : State) : s.playerPresence = playerBody s := by
  simp only [State.playerPresence, playerBody, playerByte_eq, RequestUnit.benched, decide_eq_true_eq]

theorem State.refereePresence_eq (s : State) : s.refereePresence = refereeBody s := by
  simp only [State.refereePresence, refereeBody, State.sourceFlag]
  by_cases source : s.port.cfg.source = 0
  · rw [decide_eq_false (not_not_intro source), if_neg (not_not_intro source)]
    rfl
  · rw [decide_eq_true source, if_pos source]
    rfl

theorem State.elementPresence_eq (s : State) : s.elementPresence = elementBody s := by
  have seat : Seat.presenceBytes = fun x => match x with
      | .free => [0, 255, 0, 0]
      | .guard c _ _ => [1, c.player.setWidth 8] ++ bytesOf 2 c.mark.toNat
      | .held c _ _ _ => [2, c.player.setWidth 8] ++ bytesOf 2 c.mark.toNat
      | .clearing _ => [3, 255, 0, 0] := by
    funext x
    cases x with
    | clearing _ =>
      simp only [Seat.presenceBytes, Seat.claim?, Seat.code, Option.map_none]
      rfl
    | _ => rfl
  have offers : BitVec.ofNat 8 s.offerCount = s.port.cfg.offerCount := by
    rw [State.offerCount, BitVec.ofNat_toNat, BitVec.setWidth_eq]
  simp only [State.elementPresence, elementBody, seat, State.offerPresence, State.openNow_eq, offerByte_eq, offers]
  rfl

theorem State.presenceBody_player {s : State} (role : s.port.cfg.role = 0) : s.presenceBody = playerBody s := by
  simp only [State.presenceBody, State.role, role, roleOfCode]
  exact s.playerPresence_eq

theorem State.presenceBody_element {s : State} (role : s.port.cfg.role = 1) : s.presenceBody = elementBody s := by
  simp only [State.presenceBody, State.role, role, roleOfCode]
  exact s.elementPresence_eq

theorem State.presenceBody_referee {s : State} (role : s.port.cfg.role = 2) : s.presenceBody = refereeBody s := by
  simp only [State.presenceBody, State.role, role, roleOfCode]
  exact s.refereePresence_eq

/-! ## Composing a body (R155, R178) -/

/-- R178: link supervision after an error has been inserted. -/
def Link.inserted (l : Link) : Link :=
  { l with
    insertPending := false,
    record := { l.record with errorsInserted := min (l.record.errorsInserted + 1) 65535 } }

theorem State.composeBody_presence (s : State) : s.composeBody .presence = (s, s.presenceBody) := rfl

theorem State.composeBody_plain {s : State} {b : TxBody} (other : b ≠ .presence)
    (sound : kindOf b ≠ 9 ∨ s.link.insertPending = false) : s.composeBody b = (s, bodyOf b) := by
  rw [← TxBody.bytes_eq]
  cases b with
  | presence => exact absurd rfl other
  | pattern bits seq =>
    have unset : s.link.insertPending = false := sound.resolve_left fun h => h rfl
    simp only [State.composeBody, unset, Bool.false_eq_true, if_false]
  | ask _ _ _ _ _ => rfl
  | yield _ _ => rfl
  | answer _ _ _ => rfl
  | mark _ _ _ => rfl
  | sanction _ _ _ _ => rfl
  | turn _ _ _ => rfl
  | halt => rfl

theorem State.composeBody_inserts {s : State} {b : TxBody} (kind : kindOf b = 9) (pending : s.link.insertPending = true) :
    s.composeBody b = ({ s with link := s.link.inserted }, invertFirst (bodyOf b)) := by
  rw [← TxBody.bytes_eq]
  cases b with
  | pattern bits seq =>
    simp only [State.composeBody, pending, if_true]
    rfl
  | _ => simp [kindOf] at kind

/-- Composing a body changes nothing outside link supervision. -/
theorem State.composeBody_state (s : State) (b : TxBody) :
    (s.composeBody b).1 = { s with link := (s.composeBody b).1.link } := by
  by_cases presence : b = .presence
  · rw [presence, State.composeBody_presence]
  · by_cases sound : kindOf b ≠ 9 ∨ s.link.insertPending = false
    · rw [State.composeBody_plain presence sound]
    · simp only [not_or, Classical.not_not, Bool.not_eq_false] at sound
      rw [State.composeBody_inserts sound.1 sound.2]

/-! ## The beginning of a transmission (R155, R160) -/

/-- The frame in transmission that a frame of the queue becomes. -/
def State.begun (f : QueuedFrame) (s : State) : TxFrame :=
  { frame := f, header := s.headerFor f.body.kindCode, body := (s.composeBody f.body).2, stampOpen := true,
    looped := s.inLoopback }

theorem State.beginTransmission_eq (f : QueuedFrame) (s : State) : s.beginTransmission f = { s with
    chan := { s.chan with
      txQueue := withoutHead s.chan.txQueue, contention := none, txFrame := some (s.begun f),
      reception := if inLoop s then s.chan.reception else none },
    link := (s.composeBody f.body).1.link } := by
  have loop : (if s.inLoopback then s.chan.reception else none) = if inLoop s then s.chan.reception else none :=
    ite_of_iff s.inLoopback_iff rfl rfl
  have kept := s.composeBody_state f.body
  rcases composed : s.composeBody f.body with ⟨t, body⟩
  have state : t = { s with link := t.link } := by rwa [composed] at kept
  rw [← loop]
  simp only [State.beginTransmission, State.begun, composed]
  rw [state]
  rfl

theorem execContentionComplete_idle {s : State} (cause : s.chan.contention = none ∨ s.chan.txQueue = [] ∨
    s.chan.txFrame.isSome = true ∨ (s.pins.cd = true ∧ ¬ inLoop s) ∨
    (∀ k, s.chan.contention = some k → k.gapDone = false ∨ k.slots = none)) :
    execContentionComplete s = .next s := by
  rw [execContentionComplete]
  split
  case h_2 => rfl
  case h_1 k f contention head =>
    have shut : ¬ (k.gapDone && k.slots.isSome && !s.carrier && s.chan.txFrame.isNone) = true := by
      intro go
      simp only [Bool.and_eq_true, Bool.not_eq_true', Option.isNone_iff_eq_none] at go
      obtain ⟨⟨⟨gap, slots⟩, low⟩, free⟩ := go
      rcases cause with absent | empty | sends | carrier | unready
      · simp [absent] at contention
      · simp [empty, headOf] at head
      · simp [free] at sends
      · simp [s.carrier_iff.mpr carrier] at low
      · rcases unready k contention with notDone | noSlots
        · simp [gap] at notDone
        · simp [noSlots] at slots
    rw [if_neg shut]

/-- Settles O34: the head of the queue by the split of the list around it, and the body by the kinds of frames. -/
theorem contentionBeginsTheTransmission : Obligations.ContentionBeginsTheTransmission := by
  refine ⟨fun s cause => execContentionComplete_idle cause, ?_⟩
  intro s k before f after contention queue high least gap slots low free
  obtain ⟨head, rest⟩ := head_split high least
  rw [← queue] at head rest
  have go : exec .contentionComplete s = .next (s.beginTransmission f) := by
    change execContentionComplete s = _
    simp only [execContentionComplete, contention, head, gap, slots, State.carrier_low low, free, Option.isNone_none,
      Bool.not_false, Bool.and_self, if_true]
  rw [State.beginTransmission_eq, rest] at go
  refine ⟨s.begun f, _, go, rfl, rfl, s.inLoopback_iff, ?_, fun presence => ?_, fun other sound => ?_,
    fun kind pending => ?_⟩
  · simp only [State.begun, State.headerFor, kindCode_eq]
    rfl
  · simp only [State.begun, presence, State.composeBody_presence]
    exact ⟨trivial, State.presenceBody_player, State.presenceBody_element, State.presenceBody_referee⟩
  · simp only [State.begun, State.composeBody_plain other sound]
    exact ⟨trivial, trivial⟩
  · simp only [State.begun, State.composeBody_inserts kind pending]
    exact ⟨fun b rest body => by rw [body]; rfl, rfl⟩

end Sys2Proof.Machine
end

section
/-! The end of a transmission (R155, R160, R161, R170, R171). -/

namespace Sys2Proof.Machine

/-- What the work of an element leaves as it was of the radio: the frame in transmission, the test, the node state, the pins
and the local ms. -/
def KeepsLine (s t : State) : Prop :=
  t.chan.txFrame = s.chan.txFrame ∧ t.link.testKind = s.link.testKind ∧ t.port.nodeState = s.port.nodeState ∧
    t.pins = s.pins ∧ t.localMs = s.localMs

theorem keepsLine_refl (s : State) : KeepsLine s s := ⟨rfl, rfl, rfl, rfl, rfl⟩

theorem KeepsLine.trans {s t u : State} (h : KeepsLine s t) (k : KeepsLine t u) : KeepsLine s u := by
  obtain ⟨frame, test, node, pins, ms⟩ := h
  obtain ⟨frame', test', node', pins', ms'⟩ := k
  exact ⟨frame'.trans frame, test'.trans test, node'.trans node, pins'.trans pins, ms'.trans ms⟩

theorem KeepsLine.inLoop {s t : State} (h : KeepsLine s t) : inLoop t ↔ inLoop s := by
  obtain ⟨-, test, node, -, -⟩ := h
  rw [Machine.inLoop, Machine.inLoop, test, node]

theorem State.setFlag_keepsLine (f : EventFlag) (s : State) : KeepsLine s (s.setFlag f) := ⟨rfl, rfl, rfl, rfl, rfl⟩

theorem keepsLine_keptByElement : KeptByElement KeepsLine where
  refl := keepsLine_refl
  trans := KeepsLine.trans
  enterQueue f s := by
    obtain ⟨k, e, queued⟩ := State.enterQueue_eq f s
    rw [queued]
    exact ⟨rfl, rfl, rfl, rfl, rfl⟩
  setQueue _ _ := ⟨rfl, rfl, rfl, rfl, rfl⟩
  countDrop _ := ⟨rfl, rfl, rfl, rfl, rfl⟩
  postNotice k i c d s := by
    unfold State.postNotice
    split <;> exact ⟨rfl, rfl, rfl, rfl, rfl⟩
  mapReq _ _ _ := ⟨rfl, rfl, rfl, rfl, rfl⟩
  mapArb _ _ := ⟨rfl, rfl, rfl, rfl, rfl⟩
  mapSeat _ _ := ⟨rfl, rfl, rfl, rfl, rfl⟩
  mapViews _ _ := ⟨rfl, rfl, rfl, rfl, rfl⟩

/-- R160: whether a contention begins where no frame is in transmission. -/
def State.contends (s : State) : Bool :=
  decide (s.port.nodeState = .running ∨ s.port.nodeState = .test) && s.chan.contention.isNone && !s.chan.txQueue.isEmpty

theorem NodeState.sends_eq (n : NodeState) : n.sends = decide (n = .running ∨ n = .test) := by cases n <;> rfl

theorem State.beginContention_contends {s : State} (free : s.chan.txFrame = none) :
    s.beginContention = { s with chan := { s.chan with
      contention := if s.contends then some { gapDone := false, gapCount := 0, slots := none, passed := 0 }
        else s.chan.contention,
      exponent := if s.contends = true ∧ s.pins.cd = true ∧ ¬ inLoop s then min (s.chan.exponent + 1) 7
        else s.chan.exponent } } := by
  have contends : (s.port.nodeState.sends && s.chan.txFrame.isNone && s.chan.contention.isNone &&
      !s.chan.txQueue.isEmpty) = s.contends := by
    rw [State.contends, free, NodeState.sends_eq, Option.isNone_none, Bool.and_true]
  rw [State.beginContention, contends]
  rcases begins : s.contends with _ | _
  · simp only [Bool.false_eq_true, if_false, false_and]
  · by_cases loud : s.pins.cd = true ∧ ¬ inLoop s
    · simp only [if_true, true_and, if_pos loud, s.carrier_iff.mpr loud]
      rfl
    · simp only [if_true, true_and, if_neg loud, (Bool.not_eq_true _).mp (mt s.carrier_iff.mp loud)]
      rfl

/-- R155, R171: the frame counted and judged, and a resolution where a transmit fault has cleared. -/
def State.judged (f : TxFrame) (seen : Bool) (s : State) : State :=
  let told : State := withFlagIf (!f.looped && decide (s.link.txFault = seen)) .txFault { s with
    chan := { s.chan with txFrame := none, exponent := 3 },
    link := { s.link with
      txFault := if f.looped then s.link.txFault else !seen,
      lastPower := if f.looped then s.link.lastPower else some (if seen then .seen else .notSeen),
      window := { s.link.window with sent := min (s.link.window.sent + 1) 65535 } } }
  if f.looped = false ∧ s.link.txFault = true ∧ seen = true then told.resolve else told

/-- The frame counted as sent, before its power is judged. -/
def State.countSent (s : State) : State :=
  (s.mapChan fun c => { c with txFrame := none, exponent := 3 }).mapLink fun l =>
    { l with window := { l.window with sent := inc16 l.window.sent } }

theorem State.judged_eq (f : TxFrame) (seen : Bool) (s : State) :
    s.judged f seen = if f.looped then s.countSent else s.countSent.judgePower seen := by
  have fault : s.countSent.link.txFault = s.link.txFault := rfl
  rw [State.judged, State.judgePower, fault]
  rcases f.looped with _ | _
  · rcases s.link.txFault with _ | _ <;> rcases seen with _ | _ <;> rfl
  · rfl

theorem State.judged_keeps (f : TxFrame) (seen : Bool) (s : State) :
    (s.judged f seen).chan.txFrame = none ∧ ((inLoop (s.judged f seen)) ↔ inLoop s) ∧
      (s.judged f seen).port.nodeState = s.port.nodeState ∧ (s.judged f seen).pins = s.pins ∧
      (s.judged f seen).localMs = s.localMs := by
  have resolved (b : Prop) [Decidable b] (t : State) : KeepsLine t (if b then t.resolve else t) := by
    split
    · exact keepsLine_keptByElement.resolve t
    · exact keepsLine_refl t
  have flagged (b : Bool) (t : State) : KeepsLine t (withFlagIf b .txFault t) := by
    cases b
    · exact keepsLine_refl t
    · exact t.setFlag_keepsLine _
  have kept := (flagged (!f.looped && decide (s.link.txFault = seen)) { s with
    chan := { s.chan with txFrame := none, exponent := 3 },
    link := { s.link with
      txFault := if f.looped then s.link.txFault else !seen,
      lastPower := if f.looped then s.link.lastPower else some (if seen then .seen else .notSeen),
      window := { s.link.window with sent := min (s.link.window.sent + 1) 65535 } } }).trans
        (resolved (f.looped = false ∧ s.link.txFault = true ∧ seen = true) _)
  have loop := kept.inLoop
  obtain ⟨frame, -, node, pins, ms⟩ := kept
  exact ⟨frame, loop, node, pins, ms⟩

/-- Settles O35: the frame is counted and judged, its wait opens, and the next contention begins. -/
theorem transmissionEndIsCountedAndJudged : Obligations.TransmissionEndIsCountedAndJudged := by
  refine ⟨fun s seen idle => ?_, fun s seen f sends => ?_⟩
  · change execTransmissionEnd seen s = _
    simp only [execTransmissionEnd, idle]
  · intro told w x begins
    obtain ⟨free, loop, node, pins, ms⟩ := s.judged_keeps f seen
    have go : exec (.transmissionEnd seen) s = .next ((w.openWait f.frame).beginContention) := by
      change execTransmissionEnd seen s = _
      have judged := s.judged_eq f seen
      simp only [execTransmissionEnd, sends]
      exact congrArg (fun t : State => Host.Outcome.next ((t.openWait f.frame).beginContention)) judged.symm
    have opened : w.openWait f.frame = x ∧ x.chan = w.chan ∧ x.port = w.port ∧ x.pins = w.pins ∧
        (inLoop x ↔ inLoop w) := by
      have same : w.localMs = s.localMs := ms
      simp only [x, State.openWait, requestOfFrame_eq, same]
      rcases f.frame.request w with _ | r <;> exact ⟨rfl, rfl, rfl, rfl, Iff.rfl⟩
    obtain ⟨open', chan, port, samePins, sameLoop⟩ := opened
    have begins_eq : begins = x.contends := by
      have here : x.port.nodeState = s.port.nodeState := (congrArg Port.nodeState port).trans node
      rw [State.contends, here]
    have cd : x.pins.cd = s.pins.cd := congrArg Pins.cd (samePins.trans pins)
    have looping : inLoop x ↔ inLoop s := sameLoop.trans loop
    rw [go, open', State.beginContention_contends (chan ▸ free), begins_eq, cd]
    simp only [looping]

end Sys2Proof.Machine
end

section
/-! The bodies of the frames read back (R190, R192). -/

namespace Sys2Proof.Machine

/-! ## Fields read at a place -/

theorem byteAt_append (pre rest : List Byte) (k : Nat) : byteAt (pre ++ rest) (pre.length + k) = byteAt rest k := by
  rw [byteAt_append_right _ _ _ (by omega), Nat.add_sub_cancel_left]

theorem halfAt_append (pre rest : List Byte) (k : Nat) : halfAt (pre ++ rest) (pre.length + k) = halfAt rest k := by
  rw [halfAt, byteAt_append, Nat.add_assoc, byteAt_append, halfAt]

theorem quadAt_append (pre rest : List Byte) (k : Nat) : quadAt (pre ++ rest) (pre.length + k) = quadAt rest k := by
  rw [quadAt, halfAt_append, Nat.add_assoc, halfAt_append, quadAt]

theorem halfAt_field (h : Half) (rest : List Byte) : halfAt (h.extractLsb' 8 8 :: h.extractLsb' 0 8 :: rest) 0 = h :=
  half_of_bytes h

theorem quadAt_field (q : Quad) (rest : List Byte) :
    quadAt (q.extractLsb' 24 8 :: q.extractLsb' 16 8 :: q.extractLsb' 8 8 :: q.extractLsb' 0 8 :: rest) 0 = q :=
  quad_of_bytes q

theorem id_of_byte (n : NodeId) : (n.setWidth 8).setWidth 6 = n := by
  apply BitVec.eq_of_toNat_eq
  have := n.isLt
  simp only [BitVec.toNat_setWidth]
  omega

theorem byteAt_take (bs : List Byte) (n i : Nat) : byteAt (bs.take n) i = if i < n then byteAt bs i else 0 := by
  rw [byteAt, byteAt, List.getD_eq_getElem?_getD, List.getD_eq_getElem?_getD, List.getElem?_take]
  split <;> rfl

/-! ## The bodies -/

/-- R192: the flags of an ASK read back. -/
theorem askByte_read (renew : Bool) (offer : Nat) :
    let b : Byte := BitVec.ofNat 8 ((if renew then 128 else 0) + offer % 4)
    b.getLsbD 7 = renew ∧ b.toNat % 4 = offer % 4 := by
  have small : offer % 4 < 4 := Nat.mod_lt _ (by omega)
  generalize offer % 4 = r at small
  have all : ∀ (b : Bool) (r : Fin 4), (BitVec.ofNat 8 ((if b then 128 else 0) + r.val)).getLsbD 7 = b ∧
      (BitVec.ofNat 8 ((if b then 128 else 0) + r.val)).toNat % 4 = r.val := by decide
  exact all renew ⟨r, small⟩

theorem ask_read (extra : List Byte) (element : NodeId) (claim : Byte) (renew : Bool) (offer : Nat) (hold : Half) :
    let b := bodyOf (.ask element claim renew offer hold) ++ extra
    5 ≤ b.length ∧ idAt b 0 = element ∧ byteAt b 1 = claim ∧ (byteAt b 2).getLsbD 7 = renew ∧
      (byteAt b 2).toNat % 4 = offer % 4 ∧ halfAt b 3 = hold := by
  intro b
  obtain ⟨flag, slot⟩ := askByte_read renew offer
  exact ⟨by simp [b, bodyOf], id_of_byte element, rfl, flag, slot, half_of_bytes hold⟩

theorem answerLength_body (player : NodeId) (claim : Byte) (a : AnswerBody) :
    answerLength (byteAt (bodyOf (.answer player claim a)) 2).toNat = some (bodyOf (.answer player claim a)).length := by
  cases a <;> rfl

theorem answerLength_none {n : Nat} (h : n = 0 ∨ 6 < n) : answerLength n = none := by
  rcases h with rfl | beyond
  · rfl
  · obtain ⟨k, rfl⟩ : ∃ k, n = k + 7 := ⟨n - 7, by omega⟩
    rfl

theorem answerOf_unnamed {b : List Byte} (h : (byteAt b 2).toNat = 0 ∨ 6 < (byteAt b 2).toNat) : answerOf b = none := by
  simp only [answerOf, answerLength_none h]

theorem answerOf_short {b : List Byte} {len : Nat} (needs : answerLength (byteAt b 2).toNat = some len)
    (short : b.length < len) : answerOf b = none := by
  simp only [answerOf, needs, short, if_true]

/-- R192: an answer that is cut short is not used. -/
theorem answerOf_take (player : NodeId) (claim : Byte) (a : AnswerBody) (extra : List Byte) (n : Nat)
    (cut : n < (bodyOf (.answer player claim a)).length) :
    answerOf ((bodyOf (.answer player claim a) ++ extra).take n) = none := by
  have kind := byteAt_take (bodyOf (.answer player claim a) ++ extra) n 2
  by_cases low : 2 < n
  · rw [if_pos low, byteAt_append_left _ _ _ (by omega)] at kind
    refine answerOf_short (kind ▸ answerLength_body player claim a) ?_
    rw [List.length_take]
    omega
  · rw [if_neg low] at kind
    exact answerOf_unnamed (.inl (by rw [kind]; rfl))

theorem answerOf_granted (x y seat : Byte) (hold mark : Half) (extra : List Byte) :
    answerOf (x :: y :: answerBytes (.granted seat hold mark) ++ extra) =
      if seat.toNat < 4 then some (.granted seat hold mark) else none := by
  have long : ¬ (x :: y :: answerBytes (.granted seat hold mark) ++ extra).length < 8 := by simp [answerBytes]
  have row : answerOf (x :: y :: answerBytes (.granted seat hold mark) ++ extra) =
      if (x :: y :: answerBytes (.granted seat hold mark) ++ extra).length < 8 then none
      else if seat.toNat < 4 then some (.granted seat (hold.extractLsb' 8 8 ++ hold.extractLsb' 0 8)
        (mark.extractLsb' 8 8 ++ mark.extractLsb' 0 8)) else none := rfl
  rw [row, if_neg long, half_of_bytes, half_of_bytes]

theorem answerOf_body (x y : Byte) (a : AnswerBody) (extra : List Byte)
    (named : ∀ seat hold mark, a = .granted seat hold mark → seat.toNat < 4) :
    answerOf (x :: y :: answerBytes a ++ extra) = some a := by
  have long (n : Nat) (read : AnswerBody) (bound : n ≤ 2 + (answerBytes a).length) :
      (if (x :: y :: answerBytes a ++ extra).length < n then none else some read) = some read := by
    refine if_neg ?_
    simp only [List.cons_append, List.length_cons, List.length_append]
    omega
  cases a with
  | granted seat hold mark => rw [answerOf_granted, if_pos (named seat hold mark rfl)]
  | waiting position count => exact long 5 _ (by simp [answerBytes])
  | refused reason => exact long 4 _ (by simp [answerBytes])
  | ended reason => exact long 4 _ (by simp [answerBytes])
  | renewed hold =>
    exact (long 5 _ (by simp [answerBytes])).trans
      (congrArg (fun h => some (AnswerBody.renewed h)) (half_of_bytes hold))
  | renewDenied reason => exact long 4 _ (by simp [answerBytes])

theorem answer_read (extra : List Byte) (player : NodeId) (claim : Byte) (a : AnswerBody) :
    let b := bodyOf (.answer player claim a) ++ extra
    idAt b 0 = player ∧ byteAt b 1 = claim ∧
      ((∀ seat hold mark, a = .granted seat hold mark → seat.toNat < 4) → answerOf b = some a) ∧
      (∀ seat hold mark, a = .granted seat hold mark → 4 ≤ seat.toNat → answerOf b = none) ∧
      (∀ n, n < (bodyOf (.answer player claim a)).length → answerOf (b.take n) = none) := by
  refine ⟨id_of_byte player, rfl, answerOf_body _ _ a extra, fun seat hold mark granted beyond => ?_,
    answerOf_take player claim a extra⟩
  subst granted
  exact (answerOf_granted _ _ seat hold mark extra).trans (if_neg (by omega))

theorem pattern_read (extra bits : List Byte) (seq : Half) (full : bits.length = 32) :
    let b := bodyOf (.pattern bits seq) ++ extra
    34 ≤ b.length ∧ b.take 32 = bits ∧ halfAt b 32 = seq := by
  intro b
  have split : b = bits ++ (seq.extractLsb' 8 8 :: seq.extractLsb' 0 8 :: extra) := by simp [b, bodyOf]
  refine ⟨?_, ?_, ?_⟩
  · simp [split, full]
    omega
  · rw [split, ← full, List.take_left]
  · rw [split, ← full]
    exact (halfAt_append bits _ 0).trans (halfAt_field seq extra)

theorem bodiesAreReadBack : BodiesAreReadBack := by
  intro extra
  refine ⟨ask_read extra, fun element claim => ⟨?_, id_of_byte element, rfl⟩, answer_read extra,
    fun b => answerOf_unnamed,
    fun seq phase boundary => ⟨?_, rfl, ?_, quad_of_bytes boundary⟩,
    fun seq player kind duration => ⟨?_, rfl, id_of_byte player, ?_, half_of_bytes duration⟩,
    fun seq element player => ⟨?_, rfl, id_of_byte element, id_of_byte player⟩,
    fun bits seq => pattern_read extra bits seq⟩
  · simp [bodyOf]
  · simp [bodyOf]
  · cases phase <;> rfl
  · simp [bodyOf]
  · cases kind <;> rfl
  · simp [bodyOf]

end Sys2Proof.Machine
end

section
/-! The bodies of a PRESENCE read back (R23, R92, R142, R192). -/

namespace Sys2Proof.Machine

/-! ## The rows of an element's PRESENCE -/

/-- R192: the four bytes of a seat. -/
def seatBytes (x : Seat) : List Byte :=
  match x with
  | .free => [0, 255, 0, 0]
  | .guard c _ _ => [1, c.player.setWidth 8] ++ bytesOf 2 c.mark.toNat
  | .held c _ _ _ => [2, c.player.setWidth 8] ++ bytesOf 2 c.mark.toNat
  | .clearing _ => [3, 255, 0, 0]

/-- R192: the four bytes of an offer. -/
def offerBytes (s : State) (i : Nat) : List Byte :=
  let o := s.port.cfg.offer i
  [BitVec.ofNat 8 (o.kind.toNat % 4 * 64 + (if inPhaseSet o.openPhases (phaseForOffers s) then 32 else 0)
    + o.restriction.toNat % 4 * 8), o.cost] ++ bytesOf 2 o.maxHold.toNat

theorem elementBody_eq (s : State) : elementBody s = [countByte s.seat.table] ++ s.seat.table.flatMap seatBytes ++
    [countByte s.arb.waiting, s.port.cfg.offerCount] ++
      (List.range s.port.cfg.offerCount.toNat).flatMap (offerBytes s) := rfl

/-- R192: the seat that four bytes show. -/
def viewSeatAt (b : List Byte) (i : Nat) : ViewSeat :=
  { state := byteAt b i, holder := holderOf (byteAt b (i + 1)), mark := halfAt b (i + 2), claim := none }

/-- R192: the offer that four bytes show. -/
def viewOfferAt (b : List Byte) (i : Nat) : ViewOffer :=
  { kind := (byteAt b i).extractLsb' 6 2, openNow := (byteAt b i).getLsbD 5,
    restriction := (byteAt b i).extractLsb' 3 2, cost := byteAt b (i + 1), maxHold := halfAt b (i + 2) }

theorem viewSeatAt_append (pre rest : List Byte) : viewSeatAt (pre ++ rest) pre.length = viewSeatAt rest 0 := by
  have first := byteAt_append pre rest 0
  rw [Nat.add_zero] at first
  simp only [viewSeatAt, first, byteAt_append, halfAt_append, Nat.zero_add]

theorem viewOfferAt_append (pre rest : List Byte) : viewOfferAt (pre ++ rest) pre.length = viewOfferAt rest 0 := by
  have first := byteAt_append pre rest 0
  rw [Nat.add_zero] at first
  simp only [viewOfferAt, first, byteAt_append, halfAt_append, Nat.zero_add]

theorem holderOf_id (n : NodeId) : holderOf (n.setWidth 8) = some n := by
  have other : n.setWidth 8 ≠ (255 : Byte) := by
    intro same
    have nat := congrArg BitVec.toNat same
    have := n.isLt
    rw [BitVec.toNat_setWidth, show (255 : Byte).toNat = 255 from rfl] at nat
    omega
  rw [holderOf, if_neg other, id_of_byte]

theorem seatBytes_length (x : Seat) : (seatBytes x).length = 4 := by
  cases x <;> simp [seatBytes]

theorem offerBytes_length (s : State) (i : Nat) : (offerBytes s i).length = 4 := by
  simp [offerBytes]

theorem viewSeatAt_seatBytes (x : Seat) (rest : List Byte) : viewSeatAt (seatBytes x ++ rest) 0 = shownSeat x := by
  have row (code holder : Byte) (o : Option NodeId) (m : Half) (shown : holderOf holder = o) :
      viewSeatAt (code :: holder :: m.extractLsb' 8 8 :: m.extractLsb' 0 8 :: rest) 0 =
        { state := code, holder := o, mark := m, claim := none } :=
    congr (congrArg (fun h k => ({ state := code, holder := h, mark := k, claim := none } : ViewSeat)) shown)
      (half_of_bytes m)
  cases x with
  | free => exact row 0 255 none 0 rfl
  | clearing _ => exact row 3 255 none 0 rfl
  | guard c _ _ =>
    rw [seatBytes, bytesOf_half]
    exact row 1 _ _ c.mark (holderOf_id c.player)
  | held c _ _ _ =>
    rw [seatBytes, bytesOf_half]
    exact row 2 _ _ c.mark (holderOf_id c.player)

/-- R192: the first byte of an offer read back. -/
theorem offerByte_read (k r : Byte) (o : Bool) :
    let b := BitVec.ofNat 8 (k.toNat % 4 * 64 + (if o then 32 else 0) + r.toNat % 4 * 8)
    b.extractLsb' 6 2 = k.setWidth 2 ∧ b.getLsbD 5 = o ∧ b.extractLsb' 3 2 = r.setWidth 2 := by
  have all : ∀ (o : Bool) (k r : BitVec 2), (k ++ BitVec.ofBool o ++ r ++ (0 : BitVec 3)).extractLsb' 6 2 = k ∧
      (k ++ BitVec.ofBool o ++ r ++ (0 : BitVec 3)).getLsbD 5 = o ∧
      (k ++ BitVec.ofBool o ++ r ++ (0 : BitVec 3)).extractLsb' 3 2 = r := by decide
  rw [← offerByte_eq]
  exact all o _ _

theorem viewOfferAt_offerBytes (s : State) (i : Nat) (rest : List Byte) :
    viewOfferAt (offerBytes s i ++ rest) 0 = shownOffer s (s.port.cfg.offer i) := by
  obtain ⟨kind, openNow, restriction⟩ := offerByte_read (s.port.cfg.offer i).kind (s.port.cfg.offer i).restriction
    (inPhaseSet (s.port.cfg.offer i).openPhases (phaseForOffers s))
  rw [offerBytes, bytesOf_half, shownOffer, ViewOffer.mk.injEq]
  exact ⟨kind, openNow, restriction, rfl, half_of_bytes _⟩

theorem viewSeatsOf_flatMap (rows : List Seat) (pre post : List Byte) :
    viewSeatsOf (pre ++ (rows.flatMap seatBytes ++ post)) pre.length rows.length = rows.map shownSeat := by
  induction rows generalizing pre with
  | nil => rfl
  | cons x rows ih =>
    have next := ih (pre ++ seatBytes x)
    rw [List.length_append, seatBytes_length, List.append_assoc] at next
    rw [List.flatMap_cons, List.append_assoc, List.length_cons, List.map_cons, ← viewSeatAt_seatBytes x, ← next,
      ← viewSeatAt_append]
    rfl

theorem viewOffersOf_flatMap (s : State) (rows : List Nat) (pre post : List Byte) :
    viewOffersOf (pre ++ (rows.flatMap (offerBytes s) ++ post)) pre.length rows.length =
      rows.map fun i => shownOffer s (s.port.cfg.offer i) := by
  induction rows generalizing pre with
  | nil => rfl
  | cons i rows ih =>
    have next := ih (pre ++ offerBytes s i)
    rw [List.length_append, offerBytes_length, List.append_assoc] at next
    rw [List.flatMap_cons, List.append_assoc, List.length_cons, List.map_cons, ← viewOfferAt_offerBytes s i, ← next,
      ← viewOfferAt_append]
    rfl

theorem flatMap_seatBytes_length (rows : List Seat) : (rows.flatMap seatBytes).length = 4 * rows.length := by
  induction rows with
  | nil => rfl
  | cons x rows ih =>
    rw [List.flatMap_cons, List.length_append, ih, seatBytes_length, List.length_cons]
    omega

theorem flatMap_offerBytes_length (s : State) (rows : List Nat) :
    (rows.flatMap (offerBytes s)).length = 4 * rows.length := by
  induction rows with
  | nil => rfl
  | cons i rows ih =>
    rw [List.flatMap_cons, List.length_append, ih, offerBytes_length, List.length_cons]
    omega

/-! ## An element's PRESENCE -/

theorem elementPresenceOf_seats {b : List Byte} (h : byteAt b 0 = 0 ∨ 4 < (byteAt b 0).toNat) :
    elementPresenceOf b = none := by
  refine if_neg ?_
  rintro ⟨low, high, -⟩
  rcases h with zero | beyond
  · simp [zero] at low
  · omega

theorem elementPresenceOf_offers {b : List Byte} (h : byteAt b (4 * (byteAt b 0).toNat + 2) = 0 ∨
    4 < (byteAt b (4 * (byteAt b 0).toNat + 2)).toNat) : elementPresenceOf b = none := by
  refine if_neg ?_
  rintro ⟨-, -, low, high, -⟩
  rcases h with zero | beyond
  · simp [zero] at low
  · omega

section Element

variable {s : State} (few : s.seat.table.length ≤ 4)
include few

theorem countByte_table : (countByte s.seat.table).toNat = s.seat.table.length := by
  rw [countByte, BitVec.toNat_ofNat, Nat.mod_eq_of_lt (by omega)]

theorem elementBody_seats (extra : List Byte) : (byteAt (elementBody s ++ extra) 0).toNat = s.seat.table.length :=
  countByte_table few

omit few in
/-- An element's PRESENCE, the bytes before its counts set apart. -/
theorem elementBody_split (extra : List Byte) : elementBody s ++ extra =
    ([countByte s.seat.table] ++ s.seat.table.flatMap seatBytes) ++ (countByte s.arb.waiting :: s.port.cfg.offerCount ::
      ((List.range s.port.cfg.offerCount.toNat).flatMap (offerBytes s) ++ extra)) := by
  rw [elementBody_eq]
  simp

omit few in
theorem beforeCounts_length :
    ([countByte s.seat.table] ++ s.seat.table.flatMap seatBytes).length = 4 * s.seat.table.length + 1 := by
  rw [List.length_append, flatMap_seatBytes_length, List.length_singleton]
  omega

omit few in
theorem elementBody_length :
    (elementBody s).length = 3 + 4 * s.seat.table.length + 4 * s.port.cfg.offerCount.toNat := by
  have split := congrArg List.length (elementBody_split (s := s) [])
  rw [List.append_nil, List.length_append, beforeCounts_length] at split
  simp only [List.append_nil, List.length_cons, flatMap_offerBytes_length, List.length_range] at split
  omega

omit few in
theorem elementBody_waiting (extra : List Byte) :
    byteAt (elementBody s ++ extra) (4 * s.seat.table.length + 1) = countByte s.arb.waiting := by
  rw [elementBody_split, ← beforeCounts_length]
  exact byteAt_append _ _ 0

omit few in
theorem elementBody_offerCount (extra : List Byte) :
    byteAt (elementBody s ++ extra) (4 * s.seat.table.length + 2) = s.port.cfg.offerCount := by
  rw [elementBody_split, show 4 * s.seat.table.length + 2 = (4 * s.seat.table.length + 1) + 1 from rfl,
    ← beforeCounts_length]
  exact byteAt_append _ _ 1

theorem elementPresence_read (extra : List Byte) (seats : 1 ≤ s.seat.table.length)
    (offers : 1 ≤ s.port.cfg.offerCount.toNat) (offersFew : s.port.cfg.offerCount.toNat ≤ 4) :
    elementPresenceOf (elementBody s ++ extra) = some (s.seat.table.map shownSeat, countByte s.arb.waiting,
      (List.range s.port.cfg.offerCount.toNat).map fun i => shownOffer s (s.port.cfg.offer i)) := by
  have seatRows : viewSeatsOf (elementBody s ++ extra) 1 s.seat.table.length = s.seat.table.map shownSeat := by
    have rows := viewSeatsOf_flatMap s.seat.table [countByte s.seat.table]
      (countByte s.arb.waiting :: s.port.cfg.offerCount ::
        ((List.range s.port.cfg.offerCount.toNat).flatMap (offerBytes s) ++ extra))
    rwa [← List.append_assoc, ← elementBody_split] at rows
  have offerRows : viewOffersOf (elementBody s ++ extra) (4 * s.seat.table.length + 3) s.port.cfg.offerCount.toNat =
      (List.range s.port.cfg.offerCount.toNat).map fun i => shownOffer s (s.port.cfg.offer i) := by
    have rows := viewOffersOf_flatMap s (List.range s.port.cfg.offerCount.toNat)
      (([countByte s.seat.table] ++ s.seat.table.flatMap seatBytes) ++ [countByte s.arb.waiting, s.port.cfg.offerCount])
      extra
    rw [List.length_append, beforeCounts_length, List.length_range, List.append_assoc] at rows
    rw [elementBody_split]
    exact rows
  have total := elementBody_length (s := s)
  simp only [elementPresenceOf, elementBody_seats few, elementBody_offerCount, elementBody_waiting, seatRows, offerRows]
  refine if_pos ⟨seats, few, offers, offersFew, ?_⟩
  rw [List.length_append]
  omega

/-- R192: an element's PRESENCE that is cut short is not used. -/
theorem elementPresence_take (n : Nat) (cut : n < (elementBody s).length) :
    elementPresenceOf ((elementBody s).take n) = none := by
  have total := elementBody_length (s := s)
  have seats := byteAt_take (elementBody s) n 0
  have first := elementBody_seats few []
  have offers := elementBody_offerCount (s := s) []
  rw [List.append_nil] at first offers
  by_cases zero : n = 0
  · exact elementPresenceOf_seats (.inl (by rw [seats, zero]; rfl))
  · rw [if_pos (by omega)] at seats
    by_cases counted : 4 * s.seat.table.length + 2 < n
    · refine if_neg ?_
      rw [seats, first, byteAt_take, if_pos counted, offers, List.length_take]
      omega
    · refine elementPresenceOf_offers (.inl ?_)
      rw [seats, first, byteAt_take, if_neg counted]

end Element

/-! ## A player's and a referee's PRESENCE -/

/-- R92: the byte of a player's PRESENCE read back. -/
theorem playerByte_read (benched ejected : Bool) (n : Nat) :
    let b : Byte := BitVec.ofNat 8 ((if benched then 128 else 0) + (if ejected then 64 else 0) + n % 8)
    b.getLsbD 7 = benched ∧ b.getLsbD 6 = ejected ∧ b.toNat % 8 = n % 8 := by
  have small : n % 8 < 8 := Nat.mod_lt _ (by omega)
  generalize n % 8 = r at small
  have all : ∀ (b e : Bool) (r : Fin 8),
      (BitVec.ofNat 8 ((if b then 128 else 0) + (if e then 64 else 0) + r.val)).getLsbD 7 = b ∧
      (BitVec.ofNat 8 ((if b then 128 else 0) + (if e then 64 else 0) + r.val)).getLsbD 6 = e ∧
      (BitVec.ofNat 8 ((if b then 128 else 0) + (if e then 64 else 0) + r.val)).toNat % 8 = r.val := by decide
  exact all benched ejected ⟨r, small⟩

theorem playerPresence_read (s : State) (extra : List Byte) : let b := playerBody s ++ extra
    ((byteAt b 0).getLsbD 7 = true ↔ 0 < s.req.bench) ∧ (byteAt b 0).getLsbD 6 = s.req.ejected ∧
      (byteAt b 0).toNat % 8 = s.req.list.length % 8 := by
  intro b
  obtain ⟨benched, ejected, count⟩ := playerByte_read (decide (0 < s.req.bench)) s.req.ejected s.req.list.length
  simp only [decide_eq_true_eq] at benched ejected count
  exact ⟨(Bool.eq_iff_iff.mp benched).trans decide_eq_true_iff, ejected, count⟩

theorem refereePresence_read (s : State) (extra : List Byte) : let b := refereeBody s ++ extra
    ((byteAt b 0).getLsbD 7 = true ↔ s.port.cfg.source ≠ 0) ∧ byteAt b 1 = s.ref.orderSeq := by
  intro b
  have first : byteAt b 0 = if s.port.cfg.source ≠ 0 then 128 else 0 := rfl
  refine ⟨?_, rfl⟩
  rw [first]
  split
  · next flag => exact ⟨fun _ => flag, fun _ => rfl⟩
  · next bare => exact ⟨fun set => absurd set (by decide), fun flag => absurd flag bare⟩

theorem presencesAreReadBack : PresencesAreReadBack :=
  ⟨fun _ extra seats few offers offersFew =>
      ⟨elementPresence_read few extra seats offers offersFew, elementPresence_take few⟩,
    fun _ => elementPresenceOf_seats, fun _ => elementPresenceOf_offers, playerPresence_read, refereePresence_read⟩

end Sys2Proof.Machine
end

section
/-! Headers and frames as they are laid out and received (R154, R163, R164, R168, R190, R191). -/

namespace Sys2Proof.Machine

/-! ## The header (R191) -/

theorem headerByte0 (kind : BitVec 4) (level : BitVec 3) (halted : Bool) :
    kind ++ level ++ BitVec.ofBool halted =
      BitVec.ofNat 8 (16 * kind.toNat + 2 * level.toNat + (if halted then 1 else 0)) := by
  revert kind level halted
  decide

theorem headerByte1 (sender : BitVec 6) (role : BitVec 2) :
    sender ++ role = BitVec.ofNat 8 (4 * sender.toNat + role.toNat) := by
  revert sender role
  decide

theorem headerByte2 (alliance : BitVec 2) (phase : BitVec 3) (align : BitVec 2) (test : Bool) :
    alliance ++ phase ++ align ++ BitVec.ofBool test = BitVec.ofNat 8
      (64 * alliance.toNat + 8 * phase.toNat + 2 * align.toNat + (if test then 1 else 0)) := by
  revert alliance phase align test
  decide

theorem Header.bytes_eq (h : Header) : h.bytes =
    [BitVec.ofNat 8 (16 * h.kind.toNat + 2 * h.level.toNat + (if h.halted then 1 else 0)),
      BitVec.ofNat 8 (4 * h.sender.toNat + h.role.toNat),
      BitVec.ofNat 8 (64 * h.alliance.toNat + 8 * h.phase.toNat + 2 * h.align.toNat + (if h.test then 1 else 0)), h.seq,
      h.stamp.extractLsb' 24 8, h.stamp.extractLsb' 16 8, h.stamp.extractLsb' 8 8, h.stamp.extractLsb' 0 8] := by
  rw [Header.bytes, bytesOf_quad, headerByte0, headerByte1, headerByte2]
  rfl

theorem headerByte0_read (kind : BitVec 4) (level : BitVec 3) (halted : Bool) :
    let b := kind ++ level ++ BitVec.ofBool halted
    b.extractLsb' 4 4 = kind ∧ b.extractLsb' 1 3 = level ∧ b.getLsbD 0 = halted := by
  revert kind level halted
  decide

theorem headerByte1_read (sender : BitVec 6) (role : BitVec 2) :
    (sender ++ role).extractLsb' 2 6 = sender ∧ (sender ++ role).extractLsb' 0 2 = role := by
  revert sender role
  decide

theorem headerByte2_read (alliance : BitVec 2) (phase : BitVec 3) (align : BitVec 2) (test : Bool) :
    let b := alliance ++ phase ++ align ++ BitVec.ofBool test
    b.extractLsb' 6 2 = alliance ∧ b.extractLsb' 3 3 = phase ∧ b.extractLsb' 1 2 = align ∧ b.getLsbD 0 = test := by
  revert alliance phase align test
  decide

/-- R191: no bit of a header is dropped. -/
theorem headerOf_bytes (h : Header) (rest : List Byte) : headerOf (h.bytes ++ rest) = h := by
  obtain ⟨kind, level, halted⟩ := headerByte0_read h.kind h.level h.halted
  obtain ⟨sender, role⟩ := headerByte1_read h.sender h.role
  obtain ⟨alliance, phase, align, test⟩ := headerByte2_read h.alliance h.phase h.align h.test
  rw [Header.bytes, bytesOf_quad]
  rcases h with ⟨_, _, _, _, _, _, _, _, _, _, stamp⟩
  rw [headerOf, Header.mk.injEq]
  exact ⟨kind, level, halted, sender, role, alliance, phase, align, test, rfl, quad_of_bytes stamp⟩

theorem Header.bytes_length (h : Header) : h.bytes.length = 8 := by
  rw [Header.bytes_eq]
  rfl

/-! ## The bytes of a frame (R190) -/

/-- R190: the length byte, the header and the body, over which the CRC goes. -/
def coveredBytes (h : Header) (body : List Byte) : List Byte := BitVec.ofNat 8 (8 + body.length) :: (h.bytes ++ body)

theorem frameBytes_eq (h : Header) (body : List Byte) : frameBytes h body = coveredBytes h body ++
    [(crc16 (coveredBytes h body)).extractLsb' 8 8, (crc16 (coveredBytes h body)).extractLsb' 0 8] := by
  rw [← bytesOf_half]
  rfl

theorem coveredBytes_length (h : Header) (body : List Byte) : (coveredBytes h body).length = 9 + body.length := by
  rw [coveredBytes, List.length_cons, List.length_append, Header.bytes_length]
  omega

theorem framesAreLaidOut : FramesAreLaidOut :=
  ⟨frameBytes_eq, Header.bytes_eq, fun b => ⟨b.bytes_eq, kindCode_eq b⟩⟩

section Frame

variable {h : Header} {body : List Byte} (short : body.length ≤ 48)
include short

theorem frameBytes_lengthByte : (byteAt (frameBytes h body) 0).toNat = 8 + body.length := by
  change (BitVec.ofNat 8 (8 + body.length)).toNat = _
  rw [BitVec.toNat_ofNat, Nat.mod_eq_of_lt (by omega)]

omit short in
theorem frameBytes_take : (frameBytes h body).take (8 + body.length + 1) = coveredBytes h body := by
  rw [frameBytes_eq, show 8 + body.length + 1 = (coveredBytes h body).length by rw [coveredBytes_length]; omega,
    List.take_left]

omit short in
theorem frameBytes_crc : halfAt (frameBytes h body) (8 + body.length + 1) = crc16 (coveredBytes h body) := by
  rw [frameBytes_eq, show 8 + body.length + 1 = (coveredBytes h body).length + 0 by rw [coveredBytes_length]; omega,
    halfAt_append]
  exact halfAt_field _ []

omit short in
theorem frameBytes_length : (frameBytes h body).length = 11 + body.length := by
  rw [frameBytes_eq, List.length_append, coveredBytes_length]
  simp only [List.length_cons, List.length_nil]
  omega

omit short in
theorem namesKind_iff (k : BitVec 4) : namesKind k = true ↔ 1 ≤ k.toNat ∧ k.toNat ≤ 9 := decide_eq_true_iff

/-- R163: a whole frame of a named kind is taken as it was laid out. -/
theorem State.receive_frame (stamp : Quad) (s : State) (low : 1 ≤ h.kind.toNat) (high : h.kind.toNat ≤ 9) :
    s.receive (frameBytes h body) stamp =
      (s.setReception none).takeGood { header := h, body := body, stamp := stamp } := by
  have some' : frameBytes h body ≠ [] := List.cons_ne_nil _ _
  have header : headerOf ((coveredBytes h body).drop 1) = h := headerOf_bytes h body
  have rest : (coveredBytes h body).drop 9 = body := by
    rw [coveredBytes, List.drop_succ_cons, ← Header.bytes_length h, List.drop_left]
  simp only [State.receive, frameBytes_lengthByte short, frameBytes_take, frameBytes_crc, frameBytes_length, header, rest,
    if_neg some', if_neg (show ¬ (8 + body.length < 8 ∨ 56 < 8 + body.length) by omega),
    if_neg (show ¬ 11 + body.length < 8 + body.length + 3 by omega), ne_eq, not_true_eq_false, if_false,
    (namesKind_iff h.kind).mpr ⟨low, high⟩, Bool.not_true, Bool.false_eq_true]

end Frame

/-! ## What is read (R177) -/

theorem State.receivedBytes_of {s : State} {r : Reception} {rxd bs : List Byte} (reads : Reads s r rxd bs) :
    s.receivedBytes r rxd = bs := by
  rcases reads with ⟨outside, rfl⟩ | ⟨loop, looped⟩
  · rw [State.receivedBytes, if_neg (mt s.inLoopback_iff.mp outside)]
  · rw [State.receivedBytes, if_pos (s.inLoopback_iff.mpr loop), looped]
    rfl

theorem exec_frameReceived {s : State} {r : Reception} {rxd bs : List Byte} (receives : s.chan.reception = some r)
    (reads : Reads s r rxd bs) : exec (.frameReceived rxd) s = .next (s.receive bs r.stamp) := by
  change execFrameReceived rxd s = _
  simp only [execFrameReceived, receives, State.receivedBytes_of reads]

/-- R172: a good frame counted. -/
def State.countGood (s : State) : State :=
  s.mapLink fun l => { l with window := { l.window with good := inc16 l.window.good } }

theorem State.takeGood_own {f : RxFrame} {s : State} (own : f.header.sender = s.port.cfg.nodeId.setWidth 6) :
    s.takeGood f = s.countGood.enterRx f := congrArg (State.enterRx f) (if_pos own)

theorem State.takeGood_other {f : RxFrame} {s : State} (other : f.header.sender ≠ s.port.cfg.nodeId.setWidth 6) :
    s.takeGood f = s.countGood.linkHeard.enterRx f := congrArg (State.enterRx f) (if_neg other)

theorem State.enterRx_room {f : RxFrame} {s : State} (room : s.chan.rxQueue.length < 4) :
    s.enterRx f = s.mapChan fun c => { c with rxQueue := c.rxQueue ++ [f] } := if_pos room

theorem State.enterRx_full {f : RxFrame} {s : State} (full : 4 ≤ s.chan.rxQueue.length) :
    s.enterRx f = s.mapLink fun l => { l with window := { l.window with overflow := inc16 l.window.overflow } } :=
  if_neg (by omega)

/-- R168: a frame heard while the link is not lost. -/
theorem State.linkHeard_kept {s : State} (kept : s.link.lost = false) :
    s.linkHeard = s.mapLink fun l => { l with remaining := 2000 } := by
  have same : (s.mapLink fun l => { l with remaining := 2000, lost := false }) =
      s.mapLink fun l => { l with remaining := 2000 } := by
    rw [State.mapLink, ← kept]
    rfl
  exact (if_neg (by rw [kept]; decide)).trans same

/-- R164: a good frame with room, from the node itself or while the link is not lost. -/
theorem State.takeGood_eq {f : RxFrame} {s : State} (room : s.chan.rxQueue.length < 4)
    (heard : s.link.lost = false ∨ f.header.sender = s.port.cfg.nodeId.setWidth 6) :
    s.takeGood f = { s with
      chan := { s.chan with rxQueue := s.chan.rxQueue ++ [f] },
      link := { s.link with
        remaining := if f.header.sender = s.port.cfg.nodeId.setWidth 6 then s.link.remaining else 2000,
        window := { s.link.window with good := min (s.link.window.good + 1) 65535 } } } := by
  by_cases own : f.header.sender = s.port.cfg.nodeId.setWidth 6
  · rw [State.takeGood_own own, State.enterRx_room (s := s.countGood) room, if_pos own]
    rfl
  · rw [State.takeGood_other own, State.linkHeard_kept (s := s.countGood) (heard.resolve_right own), if_neg own]
    exact State.enterRx_room (f := f) (s := s.countGood.mapLink fun l => { l with remaining := 2000 }) room

theorem framesAreReceivedWhole : FramesAreReceivedWhole := by
  intro s h body rxd r receives reads low high short room heard
  rw [exec_frameReceived receives reads, State.receive_frame short r.stamp s low high]
  exact congrArg Host.Outcome.next (State.takeGood_eq (s := s.setReception none) room heard)

/-- Settles O36: each layout is read back field by field. -/
theorem frameBytesRoundTrip : Obligations.FrameBytesRoundTrip :=
  ⟨framesAreReceivedWhole, framesAreLaidOut, bodiesAreReadBack, presencesAreReadBack⟩

end Sys2Proof.Machine
end

section
/-! The receiver from the sync word to the end of a frame (R163, R164, R168, R176, R177), and the stages of dispatch
(R165). -/

namespace Sys2Proof.Machine

/-! ## The sync word (R163) -/

theorem execSyncWord_deaf {s : State} (deaf : s.port.nodeState = .config ∨ s.chan.reception.isSome = true) :
    execSyncWordFound s = .next s := by
  refine congrArg Host.Outcome.next (if_pos ?_)
  rw [Bool.or_eq_true, Bool.not_eq_true', ← Bool.not_eq_true, NodeState.started_iff, Classical.not_not]
  exact deaf

section Hunting

variable {s : State} (started : s.port.nodeState ≠ .config) (hunts : s.chan.reception = none)
include started hunts

theorem hunting : ¬ (!s.port.nodeState.isStarted || s.chan.reception.isSome) = true := by
  rw [Bool.or_eq_true, Bool.not_eq_true', ← Bool.not_eq_true, NodeState.started_iff, Classical.not_not, hunts]
  exact fun h => h.elim started (fun absent => by simp at absent)

theorem execSyncWord_sending (outside : ¬ inLoop s) (high : s.txen = true) : execSyncWordFound s = .next s := by
  rw [execSyncWordFound, if_neg (hunting started hunts), if_neg (mt s.inLoopback_iff.mp outside), if_pos high]

theorem execSyncWord_takes (outside : ¬ inLoop s) (low : ¬ s.txen = true) :
    execSyncWordFound s = .next (s.setReception (some { stamp := s.ftStamp, looped := none })) := by
  rw [execSyncWordFound, if_neg (hunting started hunts), if_neg (mt s.inLoopback_iff.mp outside), if_neg low]

end Hunting

section Looping

variable {s : State} (loop : inLoop s) (hunts : s.chan.reception = none)
include loop hunts

omit hunts in
theorem inLoop_started : s.port.nodeState ≠ .config := by
  rw [loop.1]
  decide

theorem execSyncWord_looped {f : TxFrame} (sends : s.chan.txFrame = some f) (looped : f.looped = true)
    (open' : f.stampOpen = true) : execSyncWordFound s = .next (s.loopSync f) := by
  rw [execSyncWordFound, if_neg (hunting (inLoop_started loop) hunts), if_pos (s.inLoopback_iff.mpr loop)]
  simp only [sends, looped, open', Bool.and_self, if_true]

theorem execSyncWord_unlooped
    (stands : ∀ f, s.chan.txFrame = some f → f.looped = false ∨ f.stampOpen = false) :
    execSyncWordFound s = .next s := by
  rw [execSyncWordFound, if_neg (hunting (inLoop_started loop) hunts), if_pos (s.inLoopback_iff.mpr loop)]
  rcases sends : s.chan.txFrame with _ | f
  · rfl
  · have shut : ¬ (f.looped && f.stampOpen) = true := by
      rw [Bool.and_eq_true, Classical.not_and_iff_not_or_not, Bool.not_eq_true, Bool.not_eq_true]
      exact stands f sends
    exact congrArg Host.Outcome.next (if_neg shut)

end Looping

theorem NodeState.sends_of {n : NodeState} (started : n ≠ .config) (other : n ≠ .listening) :
    n = .running ∨ n = .test := by
  cases n
  · exact absurd rfl started
  · exact absurd rfl other
  · exact .inl rfl
  · exact .inr rfl

theorem syncWordTakesTheStamp : SyncWordTakesTheStamp := by
  intro s now
  refine ⟨execSyncWord_deaf, fun started hunts outside => ⟨fun f sends live other => ?_, fun silent => ?_⟩,
    fun loop hunts => ⟨fun f sends looped open' => execSyncWord_looped loop hunts sends looped open',
      execSyncWord_unlooped loop hunts⟩⟩
  · exact execSyncWord_sending started hunts outside
      ((txen_iff s).mpr ⟨NodeState.sends_of started other, f, sends, live⟩)
  · refine execSyncWord_takes started hunts outside fun high => ?_
    obtain ⟨node, f, sends, live⟩ := (txen_iff s).mp high
    rcases silent with listening | looped
    · simp [listening] at node
    · simp [looped f sends] at live

/-! ## The checks of a frame (R163) -/

theorem unfinishedFramesWait : UnfinishedFramesWait := by
  refine ⟨fun s rxd idle => ?_, fun s rxd bs r receives reads cut => ?_⟩
  · change execFrameReceived rxd s = _
    simp only [execFrameReceived, idle]
  · rw [exec_frameReceived receives reads]
    congr 1
    rcases cut with empty | ⟨low, high, short⟩
    · exact if_pos empty
    · by_cases empty : bs = []
      · exact if_pos empty
      · rw [State.receive, if_neg empty, if_neg (by omega), if_pos short]

section Checked

variable {bs : List Byte} {stamp : Quad} {s : State}

theorem State.receive_format (some' : bs ≠ []) (wrong : (byteAt bs 0).toNat < 8 ∨ 56 < (byteAt bs 0).toNat) :
    s.receive bs stamp =
      (s.setReception none).mapLink fun l => { l with window := { l.window with format := inc16 l.window.format } } := by
  rw [State.receive, if_neg some', if_pos wrong]

variable (low : 8 ≤ (byteAt bs 0).toNat) (high : (byteAt bs 0).toNat ≤ 56)
  (whole : (byteAt bs 0).toNat + 3 ≤ bs.length)
include low high whole

theorem State.receive_crc (wrong : crc16 (bs.take ((byteAt bs 0).toNat + 1)) ≠ halfAt bs ((byteAt bs 0).toNat + 1)) :
    s.receive bs stamp =
      (s.setReception none).mapLink fun l => { l with window := { l.window with crc := inc16 l.window.crc } } := by
  have some' : bs ≠ [] := by
    rintro rfl
    simp at whole
  rw [State.receive, if_neg some', if_neg (by omega), if_neg (by omega), if_pos wrong]

variable (crc : crc16 (bs.take ((byteAt bs 0).toNat + 1)) = halfAt bs ((byteAt bs 0).toNat + 1))
include crc

theorem State.receive_named : s.receive bs stamp =
    if !namesKind (headerOf ((bs.take ((byteAt bs 0).toNat + 1)).drop 1)).kind then
      (s.setReception none).mapLink fun l => { l with window := { l.window with kind := inc16 l.window.kind } }
    else (s.setReception none).takeGood {
      header := headerOf ((bs.take ((byteAt bs 0).toNat + 1)).drop 1)
      body := (bs.take ((byteAt bs 0).toNat + 1)).drop 9
      stamp := stamp } := by
  have some' : bs ≠ [] := by
    rintro rfl
    simp at whole
  rw [State.receive, if_neg some', if_neg (by omega), if_neg (by omega), if_neg (not_not_intro crc)]

end Checked

/-! ## A good frame (R164, R168) -/

/-- What the work of an element leaves as it was of the receiver. -/
def KeepsReceiver (s t : State) : Prop :=
  t.link.lost = s.link.lost ∧ t.link.remaining = s.link.remaining ∧ t.chan.reception = s.chan.reception

theorem keepsReceiver_keptByElement : KeptByElement KeepsReceiver where
  refl _ := ⟨rfl, rfl, rfl⟩
  trans := by
    rintro s t u ⟨lost, remaining, reception⟩ ⟨lost', remaining', reception'⟩
    exact ⟨lost'.trans lost, remaining'.trans remaining, reception'.trans reception⟩
  enterQueue f s := by
    obtain ⟨k, e, queued⟩ := State.enterQueue_eq f s
    rw [queued]
    exact ⟨rfl, rfl, rfl⟩
  setQueue _ _ := ⟨rfl, rfl, rfl⟩
  countDrop _ := ⟨rfl, rfl, rfl⟩
  postNotice k i c d s := by
    unfold State.postNotice
    split <;> exact ⟨rfl, rfl, rfl⟩
  mapReq _ _ _ := ⟨rfl, rfl, rfl⟩
  mapArb _ _ := ⟨rfl, rfl, rfl⟩
  mapSeat _ _ := ⟨rfl, rfl, rfl⟩
  mapViews _ _ := ⟨rfl, rfl, rfl⟩

/-- R9: no event flag is cleared by the work of an element. -/
theorem keepsFlags_keptByElement : KeptByElement KeepsFlags where
  toKeptByPlacing := keepsFlags_keptByPlacing
  mapArb _ _ _ h := h
  mapSeat _ _ _ h := h
  mapViews _ _ _ h := h

theorem State.enterRx_keeps (f : RxFrame) (s : State) :
    SameOutsideElement s (s.enterRx f) ∧ KeepsReceiver s (s.enterRx f) ∧ (s.enterRx f).port = s.port := by
  unfold State.enterRx
  split <;> exact ⟨⟨rfl, rfl, rfl, rfl, rfl, rfl, rfl, rfl, rfl, rfl, rfl, rfl, rfl⟩, ⟨rfl, rfl, rfl⟩, rfl⟩

/-- R168: a frame from another node while the link is lost. -/
theorem State.takeGood_linkBack {f : RxFrame} {s : State} (lost : s.link.lost = true)
    (other : f.header.sender ≠ s.port.cfg.nodeId.setWidth 6) :
    (s.takeGood f).link.lost = false ∧ (s.takeGood f).link.remaining = 2000 ∧
      (s.takeGood f).hasFlag .linkBack = true ∧ (s.takeGood f).chan.reception = s.chan.reception ∧
      SameOutsideElement s (s.takeGood f) := by
  let back := (s.countGood.mapLink fun l => { l with remaining := 2000, lost := false }).setFlag .linkBack
  have run : s.takeGood f = back.resolve.enterRx f :=
    (State.takeGood_other other).trans (congrArg (State.enterRx f) (if_pos lost))
  have flag : back.hasFlag .linkBack = true := by simp [back, State.setFlag_hasFlag]
  have same : SameOutsideElement s back := ⟨rfl, rfl, rfl, rfl, rfl, rfl, rfl, rfl, rfl, rfl, rfl, rfl, rfl⟩
  obtain ⟨element, ⟨lost', remaining, reception⟩, port⟩ := back.resolve.enterRx_keeps f
  obtain ⟨lost'', remaining', reception'⟩ := keepsReceiver_keptByElement.resolve back
  rw [run]
  refine ⟨lost'.trans lost'', remaining.trans remaining', ?_, reception.trans reception', ?_⟩
  · rw [State.hasFlag, port]
    exact keepsFlags_keptByElement.resolve back _ flag
  · exact (same.trans back.resolve_element).trans element

/-- R164: a good frame at a full queue while the link is not lost. -/
theorem State.takeGood_full {f : RxFrame} {s : State} (kept : s.link.lost = false) (full : 4 ≤ s.chan.rxQueue.length) :
    ∃ l, s.takeGood f = { s with link := l } ∧ l.window = { s.link.window with
      good := min (s.link.window.good + 1) 65535
      overflow := min (s.link.window.overflow + 1) 65535 } := by
  by_cases own : f.header.sender = s.port.cfg.nodeId.setWidth 6
  · rw [State.takeGood_own own, State.enterRx_full (s := s.countGood) full]
    exact ⟨_, rfl, rfl⟩
  · rw [State.takeGood_other own, State.linkHeard_kept (s := s.countGood) kept]
    exact ⟨_, State.enterRx_full (f := f) (s := s.countGood.mapLink fun l => { l with remaining := 2000 }) full, rfl⟩

theorem receptionChecks : ReceptionChecks := by
  intro s rxd bs r receives reads n head window
  rw [exec_frameReceived receives reads]
  refine ⟨fun some' wrong => congrArg Host.Outcome.next (State.receive_format some' wrong), fun low high whole =>
    ⟨fun wrong => congrArg Host.Outcome.next (State.receive_crc low high whole wrong), fun crc => ?_⟩⟩
  rw [State.receive_named low high whole crc]
  refine ⟨fun wrong => ?_, fun least most kept full => ?_, fun least most lost other => ?_⟩
  · rw [if_pos]
    · rfl
    · rw [Bool.not_eq_true', ← Bool.not_eq_true, namesKind_iff]
      change ¬ (1 ≤ head.kind.toNat ∧ head.kind.toNat ≤ 9)
      omega
  all_goals
    have named : namesKind head.kind = true := (namesKind_iff _).mpr ⟨least, most⟩
    rw [if_neg (by rw [Bool.not_eq_true', Bool.not_eq_false]; exact named)]
  · obtain ⟨l, taken, counted⟩ := State.takeGood_full (s := s.setReception none)
      (f := { header := head, body := (bs.take (n + 1)).drop 9, stamp := r.stamp }) kept full
    exact ⟨_, rfl, by rw [taken]; rfl, by rw [taken]; rfl, by rw [taken]; exact counted⟩
  · obtain ⟨back, reload, flag, reception, same⟩ := State.takeGood_linkBack (s := s.setReception none)
      (f := { header := head, body := (bs.take (n + 1)).drop 9, stamp := r.stamp }) lost other
    exact ⟨_, rfl, back, reload, flag, reception, same⟩

end Sys2Proof.Machine
end

section
/-! The dispatch of a frame stage by stage (R144, R146, R165, R176, R177). -/

namespace Sys2Proof.Machine

/-! ## The stages of dispatch (R165) -/

section Dispatch

variable {kind : BitVec 4} {own body : RxFrame → State → State} {s : State}

theorem State.dispatch_empty (empty : s.chan.rxQueue = []) : s.dispatch kind own body = s := by
  simp only [State.dispatch, empty]

variable {f : RxFrame} {rest : List RxFrame} (oldest : s.chan.rxQueue = f :: rest)
include oldest

theorem frameTaken_of : frameTaken s = s.mapChan fun c => { c with rxQueue := rest } := by
  rw [frameTaken, oldest]
  rfl

theorem State.dispatch_other (other : f.header.kind ≠ kind) : s.dispatch kind own body = s := by
  simp only [State.dispatch, oldest, if_neg other]

variable (named : f.header.kind = kind)
include named

theorem State.dispatch_looped (sender : f.header.sender = s.port.cfg.nodeId.setWidth 6) (loop : inLoop s) :
    s.dispatch kind own body = own f (frameTaken s) := by
  rw [frameTaken_of oldest]
  simp only [State.dispatch, oldest, if_pos named, State.ownId, if_pos sender, s.inLoopback_iff.mpr loop, if_true]

theorem State.dispatch_clash (sender : f.header.sender = s.port.cfg.nodeId.setWidth 6) (outside : ¬ inLoop s) :
    s.dispatch kind own body = (frameTaken s).idClash := by
  rw [frameTaken_of oldest]
  simp only [State.dispatch, oldest, if_pos named, State.ownId, if_pos sender,
    if_neg (mt s.inLoopback_iff.mp outside)]

theorem State.dispatch_rejected (sender : f.header.sender ≠ s.port.cfg.nodeId.setWidth 6)
    (wrong : f.header.role = 3 ∨ f.header.alliance = 3) : s.dispatch kind own body = (frameTaken s).countReject := by
  rw [frameTaken_of oldest]
  simp only [State.dispatch, oldest, if_pos named, State.ownId, if_neg sender, Header.rejected, decide_eq_true wrong,
    if_true]

/-- R165: an accepted header goes through its stages before the body is used. -/
theorem State.dispatch_taken (sender : f.header.sender ≠ s.port.cfg.nodeId.setWidth 6)
    (role : f.header.role ≠ 3) (alliance : f.header.alliance ≠ 3) :
    s.dispatch kind own body = body f (afterHeader f s) := by
  have accepted : f.header.rejected = false := decide_eq_false (not_or.mpr ⟨role, alliance⟩)
  simp only [State.dispatch, oldest, if_pos named, State.ownId, if_neg sender, accepted, Bool.false_eq_true, if_false]
  rw [← frameTaken_of oldest]
  rfl

end Dispatch

theorem State.dispatch_arrives {kind : BitVec 4} {own body : RxFrame → State → State} {s : State} {f : RxFrame}
    (arrives : Arrives s f kind) : s.dispatch kind own body = body f (afterHeader f s) := by
  obtain ⟨⟨rest, oldest⟩, named, sender, role, alliance⟩ := arrives
  exact State.dispatch_taken oldest named sender role alliance

/-! ## A looped PATTERN (R176, R177) -/

theorem State.checksPatterns_loop {s : State} (loop : inLoop s) : s.checksPatterns = true := by
  rw [State.checksPatterns, loop.1, loop.2]
  rfl

/-- R176 case 1: the seed frame. -/
theorem patternBody_seeds {f : RxFrame} {s : State} (long : 34 ≤ f.body.length) (checks : s.checksPatterns = true)
    (fresh : s.link.checkGen = none) :
    patternBody f s = s.mapLink (Link.seed f.header.sender (f.body.take 32) (halfAt f.body 32)) := by
  have run : patternBody f s = s.mapLink (Link.check f.header.sender (f.body.take 32) (halfAt f.body 32)) :=
    if_neg (not_or.mpr ⟨by omega, by simp [checks]⟩)
  rw [run]
  simp only [State.mapLink, Link.check, fresh]

theorem patternBody_pattern {h : Header} {bits : List Byte} {seq : Half} {stamp : Quad} {s : State}
    (full : bits.length = 32) (checks : s.checksPatterns = true) (fresh : s.link.checkGen = none) :
    patternBody { header := h, body := bodyOf (.pattern bits seq), stamp := stamp } s =
      s.mapLink (Link.seed h.sender bits seq) := by
  obtain ⟨long, front, back⟩ := pattern_read [] bits seq full
  rw [List.append_nil] at long front back
  rw [patternBody_seeds long checks fresh]
  dsimp only
  rw [front, back]

theorem loopedPatternIsChecked : LoopedPatternIsChecked := by
  intro s h bits seq r rxd loop receives empty kind sender full looped fresh
  have size : (bodyOf (.pattern bits seq)).length = 34 := by simp [bodyOf, full]
  have nine : h.kind.toNat = 9 := by
    rw [kind]
    rfl
  have taken := framesAreReceivedWhole s h (bodyOf (.pattern bits seq)) rxd r receives (.inr ⟨loop, looped⟩) (by omega)
    (by omega) (by omega) (by simp [empty]) (.inr sender)
  have queue : ({ s.chan with reception := none, rxQueue := [] } : Channel) = { s.chan with reception := none } := by
    rw [← empty]
  rw [empty, List.nil_append, if_pos sender] at taken
  have seeds (t : State) (test : inLoop t) (gen : t.link.checkGen = none) :
      patternBody { header := h, body := bodyOf (.pattern bits seq), stamp := r.stamp } t =
        t.mapLink (Link.seed h.sender bits seq) := patternBody_pattern full (State.checksPatterns_loop test) gen
  refine ⟨_, _, taken, congrArg Host.Outcome.next (State.dispatch_looped rfl kind sender loop), ?_⟩
  refine (seeds _ ?test ?gen).trans ?_
  case test => exact loop
  case gen => exact fresh
  exact congrArg (fun c : Channel => { s with chan := c, link := Link.seed h.sender bits seq s.countGood.link }) queue

/-- Settles O37: each check of the receiver ends the reception, waits for more bytes or gives the next check. -/
theorem receptionOfFrames : Obligations.ReceptionOfFrames :=
  ⟨syncWordTakesTheStamp, receptionChecks, unfinishedFramesWait, loopedPatternIsChecked⟩

end Sys2Proof.Machine
end

section
/-! Relations that the stages of dispatch keep, said once for each operation (R100 to R109, R117 to R131, R149, R165). -/

namespace Sys2Proof.Machine

theorem related_ite {R : State → State → Prop} (p : Prop) [Decidable p] {s t u : State} (yes : R s t) (no : R s u) :
    R s (if p then t else u) := by
  split
  · exact yes
  · exact no

/-! ## Marks, the halt latch and the reports -/

/-- A relation that the work of an element keeps, and so does every change of the request unit, the phase unit, link
supervision, the flags, the node state and the channel outside its receive queue. -/
structure KeptByMarks (R : State → State → Prop) : Prop extends KeptByElement R where
  setFlag : ∀ f (s : State), R s (s.setFlag f)
  mapRequests : ∀ f (s : State), R s (s.mapReq f)
  mapPhase : ∀ f (s : State), R s (s.mapPhase f)
  mapLink : ∀ f (s : State), R s (s.mapLink f)
  setNode : ∀ n (s : State), R s (s.mapPort fun p => { p with nodeState := n })
  mapChan : ∀ f (s : State), (∀ c, (f c).rxQueue = c.rxQueue) → R s (s.mapChan f)

namespace KeptByMarks

variable {R : State → State → Prop} (kept : KeptByMarks R)
include kept

theorem send (b : TxBody) (s : State) : R s (s.send b) := kept.place _ s

theorem endAllRequests (k : NoticeKind) (d : Half) (s : State) : R s (s.endAllRequests k d) := by
  have all (l : List Request) : ∀ s, R s (State.endRequests k d l s) := by
    induction l with
    | nil => exact kept.refl
    | cons r rest ih => exact fun s => kept.trans (kept.closeRequest r k d s) (ih _)
  exact all _ s

theorem startPresence (s : State) : R s s.startPresence := by
  rw [State.startPresence_eq, State.presenceAt_eq]
  refine kept.trans (kept.send .presence s) ?_
  exact kept.mapChan (fun c => { c with
    backoff := backoffStep s.chan.backoff
    presenceDue := some (s.localMs + s.chan.presencePeriod + (backoffStep s.chan.backoff).toNat % 16) }) _ fun _ => rfl

theorem endTest (cause : EndCause) (s : State) : R s (s.endTest cause) :=
  kept.trans (kept.trans (kept.setNode .running s) (kept.mapLink ..)) (kept.startPresence _)

theorem endTestByPhase (s : State) : R s s.endTestByPhase := related_ite _ (kept.endTest .phase s) (kept.refl s)

theorem closeSeats (s : State) : R s s.closeSeats := kept.endSeatsWhere ..

theorem reload (s : State) : R s s.reload := related_ite _ (kept.mapArb _ s) (kept.refl s)

theorem matchEnd (s : State) : R s s.matchEnd :=
  kept.trans (kept.trans (kept.endSeatsWhere ..) (kept.mapArb ..)) (kept.endAllRequests ..)

theorem matchReset (s : State) : R s s.matchReset := by
  unfold State.matchReset
  exact kept.trans (kept.trans (kept.trans (kept.mapSeat ..) (kept.mapArb ..)) (kept.endAllRequests ..))
    (kept.mapRequests ..)

theorem deliver (k : MarkKind) (s : State) : R s (s.deliver k) := by
  cases k with
  | confirming => exact kept.refl s
  | pause => exact kept.refl s
  | resume => exact kept.trans (kept.endTestByPhase s) (kept.closeSeats _)
  | entry => exact kept.trans (kept.trans (kept.endTestByPhase s) (kept.closeSeats _)) (kept.reload _)
  | finish => exact kept.matchEnd s
  | matchReset => exact kept.matchReset s

theorem clearLatch (s : State) : R s s.clearLatch :=
  related_ite _ (kept.trans (kept.mapPhase _ s) (kept.setFlag ..)) (kept.refl s)

theorem applyMark (seq : Byte) (new : Phase) (carried : Option Quad) (s : State) : R s (s.applyMark seq new carried) := by
  have adopted : R s ((s.mapPhase fun u => u.adopt seq new carried).clearLatch) :=
    kept.trans (kept.mapPhase _ s) (kept.clearLatch _)
  unfold State.applyMark
  dsimp only
  refine related_ite _ (kept.trans ?_ (kept.resolve _)) ?_ <;>
    exact kept.trans (related_ite _ (kept.trans adopted (kept.setFlag ..)) adopted) (kept.deliver ..)

theorem countMarkIgnore (s : State) : R s s.countMarkIgnore := kept.mapPhase _ s

theorem testPending (s : State) : R s s.testPending := by
  unfold State.testPending
  split
  · exact kept.refl s
  · exact related_ite _ (kept.refl s) (related_ite _ (kept.applyMark ..)
      (kept.trans (kept.mapPhase _ s) (kept.countMarkIgnore _)))

theorem markConflict (s : State) : R s s.markConflict := kept.trans (kept.mapPhase _ s) (kept.setFlag ..)

theorem judgeCurrent (seq : Byte) (new : Phase) (carried : Quad) (s : State) : R s (s.judgeCurrent seq new carried) :=
  related_ite _ (related_ite _ (kept.refl s) (kept.markConflict s)) (kept.countMarkIgnore s)

theorem judgeMark (seq : Byte) (new : Phase) (carried : Quad) (s : State) : R s (s.judgeMark seq new carried) := by
  unfold State.judgeMark
  refine related_ite _ (kept.trans (kept.mapPhase _ s) (kept.testPending _)) ?_
  split
  · exact related_ite _ (related_ite _ (kept.refl s) (kept.markConflict s)) (kept.judgeCurrent ..)
  · exact kept.judgeCurrent ..

theorem setLatch (s : State) : R s s.setLatch :=
  related_ite _ (kept.refl s) (kept.trans (kept.mapPhase _ s) (kept.setFlag ..))

theorem catchUp (h : Header) (s : State) : R s (s.catchUp h) := by
  unfold State.catchUp
  split
  · exact kept.refl s
  · exact related_ite _ (kept.applyMark ..) (kept.refl s)

theorem markView (id : NodeId) (silent : Bool) (s : State) : R s (s.markView id silent) := kept.mapRequests ..

theorem arbiterOnHeard (id : NodeId) (s : State) : R s (s.arbiterOnHeard id) := by
  unfold State.arbiterOnHeard
  split
  · exact related_ite _ (kept.trans (kept.mapArb _ s) (kept.resolve _)) (kept.refl s)
  · exact kept.refl s

theorem reportHeard (id : NodeId) (s : State) : R s (s.reportHeard id) :=
  kept.trans (kept.trans (kept.trans (kept.mapSeat _ s) (kept.arbiterOnHeard ..)) (kept.updateView ..)) (kept.markView ..)

theorem countArbiterIgnore (s : State) : R s s.countArbiterIgnore := kept.mapArb _ s

theorem ensureRecord (p : NodeId) (s : State) : R s (s.ensureRecord p) := related_ite _ (kept.refl s) (kept.mapArb _ s)

theorem endEntry (e : Entry) (reason : Reason) (s : State) : R s (s.endEntry e reason) :=
  kept.trans (kept.trans (kept.mapArb _ s) (kept.mapArb ..)) (kept.answer ..)

theorem endSeatAndResolve (n : Nat) (reason : Reason) (s : State) : R s (s.endSeatAndResolve n reason) := by
  unfold State.endSeatAndResolve
  exact related_ite _ (kept.trans (kept.endSeat ..) (kept.resolve _)) (kept.endSeat ..)

end KeptByMarks

/-! ## Field time -/

/-- A relation that field time keeps as well. -/
structure KeptByTime (R : State → State → Prop) : Prop extends KeptByMarks R where
  mapTime : ∀ f (s : State), R s (s.mapTime f)
  setFree : ∀ n (s : State), R s { s with freeIndex := n }

namespace KeptByTime

variable {R : State → State → Prop} (kept : KeptByTime R)
include kept

theorem setAlign (a : AlignState) (level : Nat) (cause : AlignCause) (s : State) : R s (s.setAlign a level cause) :=
  kept.trans (kept.mapTime _ s) (kept.setFlag ..)

theorem countField (k : Nat) (s : State) : R s (s.countField k) :=
  related_ite _ (kept.trans (kept.trans (kept.trans (kept.mapSeat _ s) (kept.mapTime ..)) (kept.mapArb ..))
    (kept.mapRequests ..)) (kept.trans (kept.mapSeat _ s) (kept.mapTime ..))

theorem restamp (s : State) : R s s.restamp := by
  unfold State.restamp
  split
  · exact kept.refl s
  · refine related_ite _ (kept.trans (kept.mapChan _ s ?_) (kept.setFree ..)) (kept.refl s)
    exact fun _ => rfl

theorem moveFt (ft : Nat) (s : State) : R s (s.moveFt ft) :=
  kept.trans (kept.trans (kept.countField _ s) (kept.mapTime ..)) (kept.restamp _)

theorem writeTrim (v : Int) (s : State) : R s (s.writeTrim v) :=
  related_ite _ (kept.mapTime _ s) (kept.trans (kept.mapTime _ s) (kept.setFlag ..))

theorem trimUpdate (e : Int) (s : State) : R s (s.trimUpdate e) := related_ite _ (kept.writeTrim ..) (kept.refl s)

theorem correctBy (e : Int) (s : State) : R s (s.correctBy e) :=
  related_ite _ (kept.trans (kept.moveFt _ s) (kept.testPending _)) (related_ite _ (kept.mapTime _ s) (kept.refl s))

theorem followLock (inside : Bool) (ref : NodeId) (s : State) : R s (s.followLock inside ref) := by
  unfold State.followLock
  split
  · exact related_ite _ (related_ite _ (kept.trans (kept.trans (kept.mapTime _ s) (kept.setAlign ..)) (kept.resolve _))
      (kept.mapTime _ s)) (kept.mapTime _ s)
  · exact related_ite _ (kept.refl s) (kept.trans (kept.mapTime _ s) (kept.setAlign ..))
  all_goals exact kept.refl s

theorem takeSample (ref : NodeId) (a b : Quad) (s : State) : R s (s.takeSample ref a b) := by
  have noted (kind : SampleKind) : R s (s.mapTime fun t => { t with
      stall := 0
      lastSample := some { offset := s.offsetOf a b, kind := kind } }) := kept.mapTime _ s
  unfold State.takeSample
  dsimp only
  generalize (if s.time.stepLimit < (s.offsetOf a b).natAbs then SampleKind.step else SampleKind.slew) = kind
  refine kept.trans ?_ (kept.followLock ..)
  cases kind with
  | step => exact kept.trans (noted _) (kept.correctBy ..)
  | slew => exact kept.trans (kept.trans (noted _) (kept.correctBy ..)) (kept.trimUpdate ..)

theorem referenceLost (s : State) : R s s.referenceLost := by
  have left := kept.mapTime (fun t => { t with reference := none, lockCount := 0 }) s
  unfold State.referenceLost
  split
  · exact kept.trans (kept.trans left (kept.mapTime ..)) (kept.setAlign ..)
  · exact kept.trans left (kept.setAlign ..)
  all_goals exact left

theorem timeStage (sender : NodeId) (a b : Quad) (s : State) : R s (s.timeStage sender a b) := by
  have chosen (id : NodeId) : R s (s.chooseReference id) := kept.trans (kept.mapTime _ s) (kept.setAlign ..)
  have followed : R s (s.followLevel sender) := related_ite _ (kept.mapTime _ s) (kept.refl s)
  unfold State.timeStage
  refine related_ite _ (kept.refl s) (related_ite _
    (related_ite _ (kept.trans followed (kept.takeSample ..)) (kept.referenceLost s)) (related_ite _ ?_ (kept.refl s)))
  split
  · exact kept.refl s
  · exact related_ite _ (kept.trans (chosen _) (kept.takeSample ..)) (chosen _)

end KeptByTime

end Sys2Proof.Machine
end

section
/-! What the bodies of the frames keep, and the stages of dispatch on the receive queue and the peer table (R142 to R149,
R165, R166). -/

namespace Sys2Proof.Machine

/-! ## The bodies -/

/-- A slot of the peer table without the advertised player state, which a PRESENCE of its node writes (R143). -/
def PeerSlot.bare (p : PeerSlot) : PeerSlot := { p with ad := none }

/-- The peer table shows the same headers, and outside a node's slot it is the same. -/
def Peers.SameHeaders (id : NodeId) (p q : Peers) : Prop :=
  (lookupId id q.slots).map PeerSlot.bare = (lookupId id p.slots).map PeerSlot.bare ∧
    ∀ j, j ≠ id → lookupId j q.slots = lookupId j p.slots

theorem Peers.sameHeaders_of {id : NodeId} {p q : Peers} (same : q.slots = p.slots) : p.SameHeaders id q :=
  ⟨by rw [same], fun j _ => by rw [same]⟩

/-- A relation that the bodies of a node's frames keep: the work of a mark keeps it, and every change of the peer table that
leaves the headers and the slots of other nodes. -/
structure KeptByBodies (id : NodeId) (R : State → State → Prop) : Prop extends KeptByMarks R where
  mapPeers : ∀ f (s : State), s.peers.SameHeaders id (f s.peers) → R s (s.mapPeers f)

namespace KeptByBodies

variable {id : NodeId} {R : State → State → Prop} (kept : KeptByBodies id R)
include kept

/-! ### PRESENCE -/

theorem takeView (e : NodeId) (seats : List ViewSeat) (waiting : Byte) (offers : List ViewOffer) (s : State) :
    R s (s.takeView e seats waiting offers) := by
  have checked (v : ViewEntry) (t : State) : R t (t.checkSeat e v) := by
    unfold State.checkSeat
    split
    · exact related_ite _ (kept.closeRequest ..) (kept.refl t)
    · exact kept.refl t
  unfold State.takeView
  split
  · exact kept.trans (kept.mapRequests _ s) (checked ..)
  · exact related_ite _ (kept.trans (kept.mapRequests _ s) (checked ..)) (kept.mapRequests _ s)

theorem presenceBodyTaken (f : RxFrame) (own : f.header.sender = id) (s : State) : R s (presenceBodyTaken f s) := by
  have element : R s (s.elementSeen f) := by
    unfold State.elementSeen
    split
    · exact kept.refl s
    · exact related_ite _ (kept.takeView ..) (related_ite _ (kept.updateView ..) (kept.refl s))
  have referee : R s (s.refereeSeen f) := related_ite _ (kept.refl s) (kept.mapPeers _ s (Peers.sameHeaders_of rfl))
  have player : R s (s.playerSeen f) := by
    refine related_ite _ (kept.refl s) ?_
    split
    · next p known =>
      refine kept.mapPeers _ s ⟨?_, fun j other => lookupId_insertId_other _ _ (own ▸ other)⟩
      rw [← own, lookupId_insertId_same, known]
      rfl
    · exact kept.refl s
  exact related_ite _ (kept.refl s) (related_ite _ element (related_ite _ referee player))

/-! ### ASK and YIELD -/

theorem resolveThenWait (a : AskFields) (s : State) : R s (s.resolveThenWait a) :=
  related_ite _ (kept.trans (kept.resolve s) (kept.answer ..)) (kept.resolve s)

theorem renewSeat (a : AskFields) (n : Nat) (c : Claim) (s : State) : R s (s.renewSeat a n c) := by
  have denied (reason : Reason) : R s (s.denyRenew a reason) := kept.answer ..
  unfold State.renewSeat
  refine related_ite _ (denied _) ?_
  split
  · exact kept.refl s
  · exact related_ite _ (denied _) (related_ite _ (denied _) (related_ite _ (denied _)
      (kept.trans (kept.trans (kept.mapArb _ s) (kept.mapSeat ..)) (kept.answer ..))))

theorem admitAsk (a : AskFields) (s : State) : R s (s.admitAsk a) := by
  have refused (reason : Reason) : R s (s.refuseAsk a reason) := kept.answer ..
  have replaced : R s (s.replaceEntry a) := kept.trans (kept.mapArb _ s) (kept.resolveThenWait ..)
  have appended : R s (s.appendEntry a) :=
    kept.trans (kept.trans (kept.mapArb _ s) (kept.mapArb ..)) (kept.resolveThenWait ..)
  exact related_ite _ (refused _) (related_ite _ replaced (related_ite _ (refused _) appended))

theorem newClaim (a : AskFields) (s : State) : R s (s.newClaim a) := by
  have refused (reason : Reason) (t : State) : R t (t.refuseAsk a reason) := kept.answer ..
  have standing (t : State) : R t (t.askStanding a) := by
    unfold State.askStanding
    split
    · exact kept.refl t
    · exact related_ite _ (refused ..) (related_ite _ (refused ..) (related_ite _ (refused ..) (kept.admitAsk ..)))
  exact related_ite _ (refused ..) (related_ite _ (refused ..) (related_ite _ (refused ..) (related_ite _ (refused ..)
    (related_ite _ (refused ..) (kept.trans (kept.ensureRecord ..) (standing _))))))

theorem checkAsk (a : AskFields) (s : State) : R s (s.checkAsk a) := by
  have denied : R s (s.denyRenew a .notHeld) := kept.answer ..
  unfold State.checkAsk
  split
  · exact related_ite _ (kept.renewSeat ..) (kept.answer ..)
  · split
    · exact kept.trans (kept.mapArb _ s) (kept.answer ..)
    · unfold State.pastClaim
      split
      · exact related_ite _ (kept.answer ..) (related_ite _ denied (kept.newClaim ..))
      · exact related_ite _ denied (kept.newClaim ..)

theorem askBody (f : RxFrame) (s : State) : R s (askBody f s) :=
  related_ite _ (kept.refl s) (related_ite _ (kept.refl s) (related_ite _ (kept.checkAsk ..) (kept.countArbiterIgnore s)))

theorem checkYield (p : NodeId) (claim : Byte) (s : State) : R s (s.checkYield p claim) := by
  unfold State.checkYield
  split
  · exact kept.endSeatAndResolve ..
  · split
    · exact kept.endEntry ..
    · unfold State.pastYield
      split
      · exact related_ite _ (kept.answer ..) (kept.countArbiterIgnore s)
      · exact kept.countArbiterIgnore s

theorem yieldBody (f : RxFrame) (s : State) : R s (yieldBody f s) :=
  related_ite _ (kept.refl s) (related_ite _ (kept.refl s)
    (related_ite _ (kept.checkYield ..) (kept.countArbiterIgnore s)))

/-! ### ANSWER -/

theorem countStray (s : State) : R s s.countStray := kept.mapRequests _ s

theorem setRequests (e : NodeId) (f : Request → Request) (s : State) : R s (s.setRequest e f) := kept.mapRequests _ s

theorem strayAnswer (sender : NodeId) (element : Bool) (claim : Byte) (a : AnswerBody) (s : State) :
    R s (s.strayAnswer sender element claim a) := by
  unfold State.strayAnswer
  split
  · exact related_ite _ (kept.send ..) (kept.countStray s)
  all_goals exact kept.countStray s

theorem answerOpen (r : Request) (a : AnswerBody) (s : State) : R s (s.answerOpen r a) := by
  unfold State.answerOpen
  split
  · exact kept.trans (kept.setRequests _ _ s) (kept.postNotice ..)
  · exact related_ite _ (kept.trans (kept.setRequests _ _ s) (kept.postNotice ..)) (kept.setRequests _ _ s)
  · exact kept.closeRequest ..
  · exact kept.closeRequest ..
  all_goals exact kept.countStray s

theorem answerSeated (r : Request) (a : AnswerBody) (s : State) : R s (s.answerSeated r a) := by
  unfold State.answerSeated
  split
  · exact kept.setRequests _ _ s
  · exact kept.trans (kept.setRequests _ _ s) (kept.postNotice ..)
  · exact kept.trans (kept.setRequests _ _ s) (kept.postNotice ..)
  · exact kept.closeRequest ..
  all_goals exact kept.countStray s

theorem answerYielding (r : Request) (a : AnswerBody) (s : State) : R s (s.answerYielding r a) := by
  unfold State.answerYielding
  split
  · exact kept.closeRequest ..
  · exact kept.refl s
  all_goals exact kept.countStray s

theorem takeAnswer (sender : NodeId) (element : Bool) (claim : Byte) (a : AnswerBody) (s : State) :
    R s (s.takeAnswer sender element claim a) := by
  unfold State.takeAnswer
  refine related_ite _ (kept.strayAnswer ..) ?_
  split
  · exact kept.strayAnswer ..
  · split
    · exact kept.answerOpen ..
    · exact kept.answerOpen ..
    · exact kept.answerSeated ..
    · exact kept.answerYielding ..

theorem answerBodyTaken (f : RxFrame) (s : State) : R s (answerBodyTaken f s) := by
  unfold Machine.answerBodyTaken
  refine related_ite _ (kept.refl s) ?_
  split
  · exact kept.refl s
  · exact related_ite _ (related_ite _ (kept.takeAnswer ..) (kept.refl s))
      (related_ite _ (kept.updateView ..) (kept.refl s))

/-! ### MARK, HALT, orders and PATTERN -/

theorem markBody (f : RxFrame) (s : State) : R s (markBody f s) := by
  unfold Machine.markBody
  refine related_ite _ (kept.refl s) ?_
  split
  · exact kept.countMarkIgnore s
  · exact related_ite _ (kept.judgeMark ..) (kept.countMarkIgnore s)

theorem haltBody (f : RxFrame) (s : State) : R s (haltBody f s) :=
  kept.trans (kept.setLatch s) (kept.mapPhase (fun u => { u with lastHalt := some s.setLatch.time.ft }) _)

theorem countOrderIgnore (s : State) : R s s.countOrderIgnore := kept.mapPeers _ s (Peers.sameHeaders_of rfl)

theorem testOrder (h : Header) (seq : Byte) (take : State → State) (taken : ∀ u, R u (take u)) (s : State) :
    R s (s.testOrder h seq take) := by
  have adopted : R s (take (s.adoptOrder h.sender seq)) :=
    kept.trans (kept.mapPeers _ s (Peers.sameHeaders_of rfl)) (taken _)
  unfold State.testOrder
  refine related_ite _ (kept.countOrderIgnore s) ?_
  split
  · exact kept.countOrderIgnore s
  · split
    · exact adopted
    · exact related_ite _ adopted (related_ite _ (kept.refl s) (kept.countOrderIgnore s))

theorem applySanction (p : NodeId) (kind : SanctionKind) (duration : Half) (s : State) :
    R s (s.applySanction p kind duration) := by
  cases kind with
  | bench =>
    exact kept.mapArb (fun a => { a with
      ring := a.ring.map fun r => if r.player = p then { r with bench := benchMs duration } else r }) s
  | eject =>
    change R s (s.eject p)
    unfold State.eject
    dsimp only
    split
    · exact kept.trans (kept.mapArb _ s) (kept.endSeatAndResolve ..)
    · split
      · exact kept.trans (kept.mapArb _ s) (kept.endEntry ..)
      · exact kept.mapArb _ s
  | clear =>
    change R s (s.clearBench p)
    unfold State.clearBench
    dsimp only
    split
    · exact related_ite _ (kept.trans (kept.mapArb _ s) (kept.resolve _)) (kept.mapArb _ s)
    · exact kept.mapArb _ s

theorem sanctionSelf (kind : SanctionKind) (duration : Half) (s : State) : R s (s.sanctionSelf kind duration) := by
  cases kind with
  | bench => exact kept.mapRequests (fun u => { u with bench := benchMs duration }) s
  | eject => exact kept.trans (kept.mapRequests _ s) (kept.endAllRequests ..)
  | clear => exact kept.mapRequests (fun u => { u with bench := 0 }) s

theorem takeSanction (referee : NodeId) (seq : Byte) (p : NodeId) (kind : SanctionKind) (duration : Half) (s : State) :
    R s (s.takeSanction referee seq p kind duration) := by
  unfold State.takeSanction
  split
  · exact related_ite _ (kept.countOrderIgnore s) (related_ite _ (kept.countOrderIgnore s)
      (kept.trans (kept.trans (kept.ensureRecord ..) (kept.applySanction ..)) (kept.postNotice ..)))
  · exact related_ite _ (kept.trans (kept.sanctionSelf ..) (kept.postNotice ..)) (kept.refl s)
  all_goals exact kept.refl s

theorem sanctionBody (f : RxFrame) (s : State) : R s (sanctionBody f s) := by
  unfold Machine.sanctionBody
  refine related_ite _ (kept.refl s) ?_
  split
  · exact kept.refl s
  · exact kept.testOrder _ _ _ (fun _ => kept.takeSanction ..) s

theorem takeTurn (referee : NodeId) (seq : Byte) (element p : NodeId) (s : State) :
    R s (s.takeTurn referee seq element p) :=
  related_ite _ (kept.refl s) (related_ite _
    (kept.trans (kept.trans (kept.mapArb _ s) (kept.postNotice ..)) (kept.resolve _)) (kept.countArbiterIgnore s))

theorem turnBody (f : RxFrame) (s : State) : R s (turnBody f s) :=
  related_ite _ (kept.refl s) (kept.testOrder _ _ _ (fun _ => kept.takeTurn ..) s)

theorem patternBody (f : RxFrame) (s : State) : R s (patternBody f s) := related_ite _ (kept.refl s) (kept.mapLink _ s)

end KeptByBodies

/-! ## What dispatch leaves of the state -/

/-- What the stages of dispatch after the peer table leave: the receive queue, the headers of the peer table, the
configuration, the pins, the referee unit and the local ms. -/
def KeepsHeaders (id : NodeId) (s t : State) : Prop :=
  t.chan.rxQueue = s.chan.rxQueue ∧ s.peers.SameHeaders id t.peers ∧ t.port.cfg = s.port.cfg ∧ t.pins = s.pins ∧
    t.ref = s.ref ∧ t.localMs = s.localMs

theorem keepsHeaders_of {id : NodeId} {s t : State} (queue : t.chan.rxQueue = s.chan.rxQueue) (peers : t.peers = s.peers)
    (cfg : t.port.cfg = s.port.cfg) (pins : t.pins = s.pins) (ref : t.ref = s.ref) (ms : t.localMs = s.localMs) :
    KeepsHeaders id s t := ⟨queue, Peers.sameHeaders_of (by rw [peers]), cfg, pins, ref, ms⟩

theorem KeepsHeaders.trans {id : NodeId} {s t u : State} (h : KeepsHeaders id s t) (k : KeepsHeaders id t u) :
    KeepsHeaders id s u := by
  obtain ⟨queue, ⟨own, others⟩, cfg, pins, ref, ms⟩ := h
  obtain ⟨queue', ⟨own', others'⟩, cfg', pins', ref', ms'⟩ := k
  exact ⟨queue'.trans queue, ⟨own'.trans own, fun j other => (others' j other).trans (others j other)⟩, cfg'.trans cfg,
    pins'.trans pins, ref'.trans ref, ms'.trans ms⟩

theorem keepsHeaders_keptByMarks (id : NodeId) : KeptByMarks (KeepsHeaders id) where
  refl _ := keepsHeaders_of rfl rfl rfl rfl rfl rfl
  trans := KeepsHeaders.trans
  enterQueue f s := by
    obtain ⟨k, e, queued⟩ := State.enterQueue_eq f s
    rw [queued]
    exact keepsHeaders_of rfl rfl rfl rfl rfl rfl
  setQueue _ _ := keepsHeaders_of rfl rfl rfl rfl rfl rfl
  countDrop _ := keepsHeaders_of rfl rfl rfl rfl rfl rfl
  postNotice k i c d s := by
    unfold State.postNotice
    split <;> exact keepsHeaders_of rfl rfl rfl rfl rfl rfl
  mapReq _ _ _ := keepsHeaders_of rfl rfl rfl rfl rfl rfl
  mapArb _ _ := keepsHeaders_of rfl rfl rfl rfl rfl rfl
  mapSeat _ _ := keepsHeaders_of rfl rfl rfl rfl rfl rfl
  mapViews _ _ := keepsHeaders_of rfl rfl rfl rfl rfl rfl
  setFlag _ _ := keepsHeaders_of rfl rfl rfl rfl rfl rfl
  mapRequests _ _ := keepsHeaders_of rfl rfl rfl rfl rfl rfl
  mapPhase _ _ := keepsHeaders_of rfl rfl rfl rfl rfl rfl
  mapLink _ _ := keepsHeaders_of rfl rfl rfl rfl rfl rfl
  setNode _ _ := keepsHeaders_of rfl rfl rfl rfl rfl rfl
  mapChan _ _ same := keepsHeaders_of (same _) rfl rfl rfl rfl rfl

theorem keepsHeaders_keptByTime (id : NodeId) : KeptByTime (KeepsHeaders id) where
  toKeptByMarks := keepsHeaders_keptByMarks id
  mapTime _ _ := keepsHeaders_of rfl rfl rfl rfl rfl rfl
  setFree _ _ := keepsHeaders_of rfl rfl rfl rfl rfl rfl

theorem keepsHeaders_keptByBodies (id : NodeId) : KeptByBodies id (KeepsHeaders id) where
  toKeptByMarks := keepsHeaders_keptByMarks id
  mapPeers _ _ same := ⟨rfl, same, rfl, rfl, rfl, rfl⟩

end Sys2Proof.Machine
end

section
/-! The peer table, the reports and catch-up at a header (R54, R126, R144 to R149, R165). -/

namespace Sys2Proof.Machine

/-! ## The peer table (R144, R145) -/

theorem keepsPeers_keptByTime : KeptByTime fun s t => t.peers = s.peers where
  refl _ := rfl
  trans h k := k.trans h
  enterQueue f s := by
    obtain ⟨k, e, queued⟩ := State.enterQueue_eq f s
    rw [queued]
  setQueue _ _ := rfl
  countDrop _ := rfl
  postNotice k i c d s := State.postNotice_peers ..
  mapReq _ _ _ := rfl
  mapArb _ _ := rfl
  mapSeat _ _ := rfl
  mapViews _ _ := rfl
  setFlag _ _ := rfl
  mapRequests _ _ := rfl
  mapPhase _ _ := rfl
  mapLink _ _ := rfl
  setNode _ _ := rfl
  mapChan _ _ _ := rfl
  mapTime _ _ := rfl
  setFree _ _ := rfl

theorem State.setSlot_new {h : Header} {s : State} (unknown : lookupId h.sender s.peers.slots = none) :
    s.setSlot h.sender (slotFrom h s.fieldMs s.peers.silenceTime 1 none) = headerRecorded h s := by
  simp only [headerRecorded, showsAChange, slotAfter, unknown]
  rfl

theorem State.setSlot_known {h : Header} {s : State} {p : PeerSlot} (known : lookupId h.sender s.peers.slots = some p) :
    (if p.role = h.role ∧ p.alliance = h.alliance then
        s.setSlot h.sender (slotFrom h s.fieldMs s.peers.silenceTime (inc16 p.frames) p.ad)
      else (s.setSlot h.sender (slotFrom h s.fieldMs s.peers.silenceTime (inc16 p.frames) p.ad)).peerChanged h.sender) =
      headerRecorded h s := by
  by_cases same : p.role = h.role ∧ p.alliance = h.alliance
  · simp only [headerRecorded, showsAChange, slotAfter, known, if_pos same, decide_eq_true same]
    rfl
  · simp only [headerRecorded, showsAChange, slotAfter, known, if_neg same, decide_eq_false same]
    rfl

theorem State.takeHeader_heard {h : Header} {s : State} {p : PeerSlot} (known : lookupId h.sender s.peers.slots = some p)
    (heard : p.heard = true) : s.takeHeader h = headerRecorded h s := by
  simp only [State.takeHeader, known, heard, if_true, State.setSlot_known known]

theorem State.takeHeader_reports {h : Header} {s : State}
    (silent : ∀ old, lookupId h.sender s.peers.slots = some old → old.heard = false) :
    s.takeHeader h = (headerRecorded h s).reportHeard h.sender := by
  rcases known : lookupId h.sender s.peers.slots with _ | p
  · simp only [State.takeHeader, known, State.setSlot_new known]
  · simp only [State.takeHeader, known, silent p known, Bool.false_eq_true, if_false, State.setSlot_known known]

theorem State.fillReferee_eq (h : Header) (s : State) : s.fillReferee h = refereesFilled h s := by
  have none' : s.peers.referees.any (fun r => decide (r.id = h.sender)) = false ↔
      ∀ r ∈ s.peers.referees, r.id ≠ h.sender := by simp
  rw [State.fillReferee, refereesFilled, refereesAfter]
  simp only [none']
  split <;> rfl

theorem takeHeader_peers (h : Header) (s : State) : (s.takeHeader h).peers = (headerRecorded h s).peers := by
  by_cases heard : ∃ p, lookupId h.sender s.peers.slots = some p ∧ p.heard = true
  · obtain ⟨p, known, hears⟩ := heard
    rw [State.takeHeader_heard known hears]
  · rw [State.takeHeader_reports fun old known => (Bool.not_eq_true _).mp fun hears => heard ⟨old, known, hears⟩]
    exact keepsPeers_keptByTime.reportHeard _ _

theorem headerSlotted_peers (f : RxFrame) (s : State) :
    (headerSlotted f s).peers = (refereesFilled f.header (headerRecorded f.header (frameTaken s))).peers := by
  rw [headerSlotted, State.fillReferee_eq, refereesFilled, refereesFilled, takeHeader_peers]

theorem headerTimed_peers (f : RxFrame) (s : State) : (headerTimed f s).peers = (headerSlotted f s).peers :=
  keepsPeers_keptByTime.timeStage ..

theorem afterHeader_peers (f : RxFrame) (s : State) : (afterHeader f s).peers = (headerSlotted f s).peers :=
  (keepsPeers_keptByTime.catchUp ..).trans (headerTimed_peers f s)

theorem headerRecorded_slots (h : Header) (s : State) :
    (headerRecorded h s).peers.slots = insertId h.sender (slotAfter h s) s.peers.slots := by
  rw [headerRecorded, withFlagIf_eq]
  split <;> rfl

theorem afterHeader_slots (f : RxFrame) (s : State) : (afterHeader f s).peers.slots =
    insertId f.header.sender (slotAfter f.header s) s.peers.slots := by
  rw [afterHeader_peers, headerSlotted_peers]
  exact headerRecorded_slots f.header (frameTaken s)

/-! ## The HEARD report (R149) -/

theorem State.arbiterOnHeard_silent {id : NodeId} {s : State} (silent : ∃ r, s.record id = some r ∧ r.silent = true) :
    s.arbiterOnHeard id = (s.setRecord id fun r => { r with silent := false }).resolve := by
  obtain ⟨r, known, flag⟩ := silent
  simp only [State.arbiterOnHeard, known, flag, if_true]

theorem State.arbiterOnHeard_other {id : NodeId} {s : State} (other : ¬ ∃ r, s.record id = some r ∧ r.silent = true) :
    s.arbiterOnHeard id = s := by
  rcases known : s.record id with _ | r
  · simp only [State.arbiterOnHeard, known]
  · have clear : r.silent = false := (Bool.not_eq_true _).mp fun flag => other ⟨r, known, flag⟩
    simp only [State.arbiterOnHeard, known, clear, Bool.false_eq_true, if_false]

theorem State.reportHeard_report (id : NodeId) (s : State) : HeardReport id s (s.reportHeard id) := by
  have seats : (s.mapSeat fun u => { u with table := u.table.map (Seat.withSilentHeld id false) }) =
      { s with seat := { s.seat with table := s.seat.table.map (markedSilent id false) } } := by
    rw [Seat.withSilentHeld_eq]
    rfl
  rw [State.reportHeard, seats]
  refine ⟨_, _, fun silent => ?wasSilent, fun other => ?notSilent, updateView_updated .., rfl⟩
  case wasSilent => exact State.arbiterOnHeard_silent silent
  case notSilent => exact State.arbiterOnHeard_other other

/-! ## Catch-up (R126) -/

theorem allowedIn_iff (now new : Phase) : allowedIn now new = true ↔ now ≠ .ended ∨ new = .prematch :=
  decide_eq_true_iff

theorem State.catchUp_applied {h : Header} {s : State} {new : Phase} (named : phaseOfCode h.phase.toNat = some new)
    (newer : MarkIsNewer s h.seq) (allowed : s.phase.phase ≠ .ended ∨ new = .prematch) :
    s.catchUp h = s.applyMark h.seq new none := by
  simp only [State.catchUp, named, (MarkIsNewer_iff s h.seq).mp newer, (allowedIn_iff _ _).mpr allowed, Bool.and_self,
    if_true]

theorem State.catchUp_idle {h : Header} {s : State} (idle : 6 ≤ h.phase.toNat ∨ ¬ MarkIsNewer s h.seq ∨
    (s.phase.phase = .ended ∧ phaseOfCode h.phase.toNat ≠ some .prematch)) : s.catchUp h = s := by
  rcases named : phaseOfCode h.phase.toNat with _ | new
  · simp only [State.catchUp, named]
  · have shut : ¬ ((s.seqNewer h.seq && s.newerThanPending h.seq) && allowedIn s.phase.phase new) = true := by
      rw [Bool.and_eq_true, ← MarkIsNewer_iff, allowedIn_iff]
      rintro ⟨newer, allowed⟩
      rcases idle with beyond | old | ⟨ended, other⟩
      · simp [(phaseOfCode_none _).mpr (by omega : 5 < h.phase.toNat)] at named
      · exact old newer
      · rw [named] at other
        exact allowed.elim (fun h => h ended) fun reset => other (by rw [reset])
    simp only [State.catchUp, named]
    exact if_neg shut

/-- Settles O39: the stages of dispatch before the body, each by its own lemma. -/
theorem headersAreReportedAndCaughtUp : Obligations.HeadersAreReportedAndCaughtUp := by
  intro s f kind _ h recorded
  refine ⟨fun old known heard => ?_, fun silent => ?_, ?_, fun new named newer allowed => ?_, fun idle => ?_⟩
  · rw [headerSlotted, State.fillReferee_eq, State.takeHeader_heard (s := frameTaken s) known heard]
  · refine ⟨recorded.reportHeard h.sender, recorded.reportHeard_report h.sender, ?_⟩
    rw [headerSlotted, State.fillReferee_eq, State.takeHeader_reports (s := frameTaken s) silent]
  · exact (afterHeader_peers f s).trans (headerSlotted_peers f s)
  · rw [afterHeader, State.catchUp_applied named newer allowed]
    exact State.applyMark_applied ..
  · exact State.catchUp_idle idle

/-! ## The frame commands -/

theorem frameCommand_dispatch {c : Instr} {kind : BitVec 4} (member : (c, kind) ∈ frameCommands) :
    ∃ own body : RxFrame → State → State, (∀ s, exec c s = .next (s.dispatch kind own body)) ∧
      (kind ≠ 9 → own = discardOwn) ∧
      (∀ f s, (own f s).peers = s.peers ∧ (own f s).time = s.time ∧ (own f s).phase = s.phase ∧
        (own f s).port = s.port) ∧
      ∀ (f : RxFrame) (R : State → State → Prop), KeptByBodies f.header.sender R → ∀ s, R s (body f s) := by
  have discards (f : RxFrame) (s : State) : (discardOwn f s).peers = s.peers ∧ (discardOwn f s).time = s.time ∧
      (discardOwn f s).phase = s.phase ∧ (discardOwn f s).port = s.port := ⟨rfl, rfl, rfl, rfl⟩
  have checks (f : RxFrame) (s : State) : (patternBody f s).peers = s.peers ∧ (patternBody f s).time = s.time ∧
      (patternBody f s).phase = s.phase ∧ (patternBody f s).port = s.port := by
    unfold patternBody
    split <;> exact ⟨rfl, rfl, rfl, rfl⟩
  simp only [frameCommands, List.mem_cons, Prod.mk.injEq, List.not_mem_nil, or_false] at member
  rcases member with ⟨rfl, rfl⟩ | ⟨rfl, rfl⟩ | ⟨rfl, rfl⟩ | ⟨rfl, rfl⟩ | ⟨rfl, rfl⟩ | ⟨rfl, rfl⟩ |
    ⟨rfl, rfl⟩ | ⟨rfl, rfl⟩ | ⟨rfl, rfl⟩
  · exact ⟨discardOwn, presenceBodyTaken, fun _ => rfl, fun _ => rfl, discards,
      fun f _ kept => kept.presenceBodyTaken f rfl⟩
  · exact ⟨discardOwn, askBody, fun _ => rfl, fun _ => rfl, discards, fun f _ kept => kept.askBody f⟩
  · exact ⟨discardOwn, yieldBody, fun _ => rfl, fun _ => rfl, discards, fun f _ kept => kept.yieldBody f⟩
  · exact ⟨discardOwn, answerBodyTaken, fun _ => rfl, fun _ => rfl, discards, fun f _ kept => kept.answerBodyTaken f⟩
  · exact ⟨discardOwn, markBody, fun _ => rfl, fun _ => rfl, discards, fun f _ kept => kept.markBody f⟩
  · exact ⟨discardOwn, sanctionBody, fun _ => rfl, fun _ => rfl, discards, fun f _ kept => kept.sanctionBody f⟩
  · exact ⟨discardOwn, turnBody, fun _ => rfl, fun _ => rfl, discards, fun f _ kept => kept.turnBody f⟩
  · exact ⟨discardOwn, haltBody, fun _ => rfl, fun _ => rfl, discards, fun f _ kept => kept.haltBody f⟩
  · exact ⟨patternBody, patternBody, fun _ => rfl, fun nine => absurd rfl nine, checks,
      fun f _ kept => kept.patternBody f⟩

theorem slotAfter_records (h : Header) (s : State) : Records h s (slotAfter h s) :=
  ⟨rfl, rfl, rfl, rfl, rfl, rfl, rfl, rfl, rfl, rfl, rfl, rfl⟩

theorem records_of_bare {h : Header} {s : State} {x y : PeerSlot} (records : Records h s y) (same : x.bare = y.bare) :
    Records h s x := by
  obtain ⟨_, _, _, _, _, _, _, _, _, _, _, _, _⟩ := x
  obtain ⟨_, _, _, _, _, _, _, _, _, _, _, _, _⟩ := y
  simp only [PeerSlot.bare, PeerSlot.mk.injEq] at same
  obtain ⟨rfl, rfl, rfl, rfl, rfl, rfl, rfl, rfl, rfl, rfl, rfl, rfl, -⟩ := same
  exact records

/-- What every stage before the body leaves outside the peer table. -/
def KeepsQueue (s t : State) : Prop :=
  t.chan.rxQueue = s.chan.rxQueue ∧ t.port.cfg = s.port.cfg ∧ t.pins = s.pins ∧ t.ref = s.ref ∧ t.localMs = s.localMs

theorem KeepsQueue.trans {s t u : State} (h : KeepsQueue s t) (k : KeepsQueue t u) : KeepsQueue s u := by
  obtain ⟨queue, cfg, pins, ref, ms⟩ := h
  obtain ⟨queue', cfg', pins', ref', ms'⟩ := k
  exact ⟨queue'.trans queue, cfg'.trans cfg, pins'.trans pins, ref'.trans ref, ms'.trans ms⟩

theorem KeepsHeaders.queue {id : NodeId} {s t : State} (h : KeepsHeaders id s t) : KeepsQueue s t := by
  obtain ⟨queue, -, cfg, pins, ref, ms⟩ := h
  exact ⟨queue, cfg, pins, ref, ms⟩

theorem takeHeader_keepsQueue (h : Header) (s : State) : KeepsQueue s (s.takeHeader h) := by
  have recorded : KeepsQueue s (headerRecorded h s) := by
    rw [headerRecorded, withFlagIf_eq]
    split <;> exact ⟨rfl, rfl, rfl, rfl, rfl⟩
  by_cases heard : ∃ p, lookupId h.sender s.peers.slots = some p ∧ p.heard = true
  · obtain ⟨p, known, hears⟩ := heard
    rw [State.takeHeader_heard known hears]
    exact recorded
  · rw [State.takeHeader_reports fun old known => (Bool.not_eq_true _).mp fun hears => heard ⟨old, known, hears⟩]
    exact recorded.trans ((keepsHeaders_keptByTime h.sender).reportHeard _ _).queue

theorem headerSlotted_keepsQueue (f : RxFrame) (s : State) : KeepsQueue (frameTaken s) (headerSlotted f s) := by
  rw [headerSlotted, State.fillReferee_eq]
  exact (takeHeader_keepsQueue ..).trans ⟨rfl, rfl, rfl, rfl, rfl⟩

theorem afterHeader_keepsQueue (f : RxFrame) (s : State) : KeepsQueue (frameTaken s) (afterHeader f s) :=
  have kept := keepsHeaders_keptByTime f.header.sender
  ((headerSlotted_keepsQueue f s).trans (kept.timeStage ..).queue).trans (kept.catchUp ..).queue

/-- R144: a frame's slot stands in the peer table after its dispatch. -/
theorem slot_after_body {f : RxFrame} {s t : State} (kept : KeepsHeaders f.header.sender (afterHeader f s) t) :
    (∃ x, lookupId f.header.sender t.peers.slots = some x ∧ x.bare = (slotAfter f.header s).bare) ∧
      ∀ j, j ≠ f.header.sender → lookupId j t.peers.slots = lookupId j s.peers.slots := by
  obtain ⟨-, ⟨own, others⟩, -⟩ := kept
  rw [afterHeader_slots, lookupId_insertId_same] at own
  refine ⟨Option.map_eq_some_iff.mp own, fun j other => (others j other).trans ?_⟩
  rw [afterHeader_slots, lookupId_insertId_other _ _ other]

/-- Settles O38: the branches of dispatch, and its last one by what the stages and the bodies keep. -/
theorem headersReachThePeerTable : Obligations.HeadersReachThePeerTable := by
  intro c kind member s
  obtain ⟨own, body, run, discards, owned, bodies⟩ := frameCommand_dispatch member
  rw [run s]
  refine ⟨fun empty => by rw [State.dispatch_empty empty], fun f rest oldest => ⟨fun other => ?_, fun named =>
    ⟨fun sender outside => ?_, fun sender loop => ⟨fun other => ?_, ?_⟩, fun sender wrong => ?_,
      fun sender role alliance => ?_⟩⟩⟩
  · rw [State.dispatch_other oldest other]
  · rw [State.dispatch_clash oldest named sender outside]
    rfl
  · rw [State.dispatch_looped oldest named sender loop, discards other]
    rfl
  · rw [State.dispatch_looped oldest named sender loop]
    exact ⟨_, rfl, owned f (frameTaken s)⟩
  · rw [State.dispatch_rejected oldest named sender wrong]
    rfl
  · rw [State.dispatch_taken oldest named sender role alliance]
    have kept := bodies f _ (keepsHeaders_keptByBodies f.header.sender) (afterHeader f s)
    obtain ⟨queue, cfg, pins, ref, ms⟩ := (afterHeader_keepsQueue f s).trans kept.queue
    obtain ⟨⟨x, known, same⟩, others⟩ := slot_after_body kept
    refine ⟨_, rfl, queue.trans ?_, ⟨x, known, records_of_bare (slotAfter_records ..) same⟩, others, cfg,
      pins, ref, ms⟩
    rw [frameTaken, oldest]
    rfl

end Sys2Proof.Machine
end

section
/-! A sample of the reference at field time and at the other blocks (R97, R98, R106 to R109). -/

namespace Sys2Proof.Machine

/-! ## The correction (R107, R108) -/

/-- The state after FT has been corrected, before a pending mark is tested. -/
def State.sampleMoved (e : Int) (s : State) : State :=
  if 0 < correction s.time e then
    (s.mapTime fun t => { t with
      stall := 0
      lastSample := some { offset := e, kind := if isStep s.time e then .step else .slew } }).moveFt
        (min (s.time.ft + (correction s.time e).toNat) ftMax)
  else { s with time := correctedTime s.time e }

/-- The state after a forward correction has applied a pending mark whose boundary it reaches (R120). -/
def State.sampleApplied (e : Int) (s : State) : State :=
  if 0 < correction s.time e then (s.sampleMoved e).testPending else s.sampleMoved e

theorem State.sampleMoved_time (e : Int) (s : State) : (s.sampleMoved e).time = correctedTime s.time e := by
  unfold State.sampleMoved
  split
  · next forward =>
    have back : (-correction s.time e).toNat = 0 := by omega
    rw [(State.moveFt_eq _ _).1]
    simp only [correctedTime, if_pos forward, back]
    rfl
  · rfl

theorem State.sampleApplied_time (e : Int) (s : State) : (s.sampleApplied e).time = correctedTime s.time e := by
  unfold State.sampleApplied
  split
  · rw [(State.testPending_mark _).time, State.sampleMoved_time]
  · exact State.sampleMoved_time e s

theorem State.sampleApplied_peers (e : Int) (s : State) : (s.sampleApplied e).peers = s.peers := by
  have moved : (s.sampleMoved e).peers = s.peers := by
    unfold State.sampleMoved
    split
    · exact keepsPeers_keptByTime.moveFt ..
    · rfl
  unfold State.sampleApplied
  split
  · exact (keepsPeers_keptByTime.testPending _).trans moved
  · exact moved

/-- The correction of a sample is that of the statements. -/
theorem State.correctBy_eq (e : Int) (s : State) :
    (s.mapTime fun t => { t with
      stall := 0
      lastSample := some { offset := e, kind := if isStep s.time e then .step else .slew } }).correctBy
        (correction s.time e) = s.sampleApplied e := by
  rcases Int.lt_trichotomy (correction s.time e) 0 with back | still | forward
  · have stay : ¬ 0 < correction s.time e := by omega
    simp only [State.correctBy, if_neg stay, if_pos back, State.sampleApplied, State.sampleMoved, correctedTime,
      Nat.sub_self, Nat.sub_zero]
    rfl
  · have stay : ¬ 0 < correction s.time e := by omega
    simp only [State.correctBy, State.sampleApplied, State.sampleMoved, correctedTime, still, Int.lt_irrefl, if_false,
      Nat.sub_self, Nat.sub_zero]
    rfl
  · simp only [State.correctBy, State.sampleApplied, State.sampleMoved, if_pos forward]
    rfl

/-! ## The trim (R97, R98, R108) -/

/-- Field time after the correction and the trim of a sample, before its lock. -/
def trimmedTime (b : FieldTime) (e : Int) : FieldTime :=
  let d := trimStep b e
  let trim := max (-512) (min 511 (b.trim + d))
  if d = 0 then correctedTime b e
  else { correctedTime b e with trim := trim, alarm := decide (trim ≤ -510 ∨ 509 ≤ trim) }

theorem correctedTime_keeps (b : FieldTime) (e : Int) : (correctedTime b e).trim = b.trim ∧
    (correctedTime b e).alarm = b.alarm ∧ (correctedTime b e).mode = b.mode ∧ (correctedTime b e).align = b.align ∧
    (correctedTime b e).lockCount = b.lockCount := ⟨rfl, rfl, rfl, rfl, rfl⟩

theorem trimmedTime_keeps (b : FieldTime) (e : Int) : (trimmedTime b e).align = b.align ∧
    (trimmedTime b e).lockCount = b.lockCount := by
  unfold trimmedTime
  dsimp only
  split <;> exact ⟨rfl, rfl⟩

theorem State.writeTrim_eq (v : Int) (s : State) :
    s.writeTrim v = withFlagIf (decide (trimAlarm (clampTrim v) ≠ s.time.alarm)) .trimLimit { s with
      time := { s.time with trim := clampTrim v, alarm := trimAlarm (clampTrim v) } } := by
  by_cases same : trimAlarm (clampTrim v) = s.time.alarm
  · simp only [State.writeTrim, if_pos same, withFlagIf_eq, decide_eq_false (not_not_intro same),
      Bool.false_eq_true, if_false]
    rfl
  · simp only [State.writeTrim, if_neg same, withFlagIf_eq, decide_eq_true same, if_true]
    rfl

/-- A SLEW in TRACK moves the trim; a STEP leaves it. -/
theorem State.trimUpdate_eq {b : FieldTime} {e : Int} {s : State} (time : s.time = correctedTime b e) :
    (if isStep b e then s else s.trimUpdate e) =
      withFlagIf (decide ((trimmedTime b e).alarm ≠ b.alarm)) .trimLimit { s with time := trimmedTime b e } := by
  obtain ⟨trim, alarm, mode, -, -⟩ := correctedTime_keeps b e
  have still (same : trimStep b e = 0) :
      s = withFlagIf (decide ((trimmedTime b e).alarm ≠ b.alarm)) .trimLimit { s with time := trimmedTime b e } := by
    have kept : trimmedTime b e = s.time := by rw [trimmedTime, if_pos same, time]
    rw [kept, time, alarm, withFlagIf_eq, decide_eq_false (not_not_intro rfl), ← time]
    rfl
  by_cases step : isStep b e = true
  · rw [if_pos step]
    exact still (by simp [trimStep, step])
  · rw [if_neg step, State.trimUpdate, time, mode, trim]
    have moves : trimStep b e = if b.mode = .track then max (-8) (min 8 (e.tdiv 16)) else 0 := by
      simp only [trimStep, (Bool.not_eq_true _).mp step, true_and]
    by_cases track : b.mode = .track ∧ max (-8) (min 8 (e.tdiv 16)) ≠ 0
    · have d : trimStep b e = max (-8) (min 8 (e.tdiv 16)) := by rw [moves, if_pos track.1]
      rw [if_pos track, State.writeTrim_eq, time, alarm, trimmedTime, d, if_neg track.2]
      rfl
    · rw [if_neg track]
      refine still ?_
      rw [moves]
      split
      · next tracks => exact Classical.not_not.mp fun other => track ⟨tracks, other⟩
      · rfl

/-! ## The lock (R109) -/

theorem insideWindow_eq (b : FieldTime) (e : Int) :
    insideWindow e (if isStep b e then .step else .slew) = insideLock b e := by
  rw [insideWindow, insideLock]
  cases isStep b e <;> simp

theorem sampledTime_eq (b : FieldTime) (level : Nat) (e : Int) : sampledTime b level e = match b.align with
    | .acquiring =>
      if insideLock b e then
        if 3 ≤ b.lockCount then { trimmedTime b e with
          lockCount := b.lockCount + 1
          align := .locked
          level := level + 1
          lastCause := .lockReached }
        else { trimmedTime b e with lockCount := b.lockCount + 1 }
      else { trimmedTime b e with lockCount := 0 }
    | .locked => if insideLock b e then trimmedTime b e
      else { trimmedTime b e with lockCount := 0, align := .acquiring, level := 7, lastCause := .lockLost }
    | .unaligned | .holdover | .source => trimmedTime b e := by
  unfold sampledTime trimmedTime
  rfl

/-- R109: the lock count, the align state and, where the lock is reached, the resolution. -/
theorem State.followLock_eq {b : FieldTime} {e : Int} {s : State} (ref : NodeId) (time : s.time = trimmedTime b e) :
    s.followLock (insideLock b e) ref =
      (fun w : State => if reachesLock b e then w.resolve else w)
        (withFlagIf (decide ((sampledTime b (s.recordedLevel ref) e).align ≠ b.align)) .alignChanged
          { s with time := sampledTime b (s.recordedLevel ref) e }) := by
  obtain ⟨align, count⟩ := trimmedTime_keeps b e
  have stays : ({ s with time := trimmedTime b e } : State) = s := by rw [← time]
  rw [State.followLock, time, align, count, sampledTime_eq, reachesLock, withFlagIf_eq]
  rcases state : b.align with _ | _ | _ | _ | _
  case acquiring =>
    rcases inside : insideLock b e with _ | _
    · simp [align, state, State.mapTime, time]
    · by_cases enough : 3 ≤ b.lockCount
      · simp [enough, State.setAlign, State.mapTime, time]
      · simp [enough, align, state, State.mapTime, time]
  case locked =>
    rcases inside : insideLock b e with _ | _
    · simp [State.setAlign, State.mapTime, time]
    · simp [align, state, stays]
  all_goals simp [align, state, stays]

/-! ## A sample (R106) -/

/-- The state after a sample, before the resolution of a lock that is reached. -/
def State.sampled (level : Nat) (e : Int) (s : State) : State :=
  let after := sampledTime s.time level e
  withFlagIf (decide (after.align ≠ s.time.align)) .alignChanged
    (withFlagIf (decide (after.alarm ≠ s.time.alarm)) .trimLimit { s.sampleApplied e with time := after })

theorem sampledTime_alarm (b : FieldTime) (level : Nat) (e : Int) :
    (sampledTime b level e).alarm = (trimmedTime b e).alarm := by
  rw [sampledTime_eq]
  repeat' split
  all_goals rfl

theorem withFlagIf_time (b : Bool) (f : EventFlag) (t : FieldTime) (s : State) :
    { withFlagIf b f s with time := t } = withFlagIf b f { s with time := t } := by
  cases b <;> rfl

theorem State.takeSample_eq (ref : NodeId) (sender stamp : Quad) (s : State) :
    s.takeSample ref sender stamp =
      (fun w : State => if reachesLock s.time (s.offsetOf sender stamp) then w.resolve else w)
        (s.sampled (s.recordedLevel ref) (s.offsetOf sender stamp)) := by
  let e := s.offsetOf sender stamp
  have split : s.takeSample ref sender stamp = State.followLock (insideLock s.time e) ref
      (if isStep s.time e then s.sampleApplied e else (s.sampleApplied e).trimUpdate e) := by
    rw [← insideWindow_eq, ← State.correctBy_eq]
    by_cases step : s.time.stepLimit < e.natAbs
    · have is : isStep s.time e = true := decide_eq_true step
      simp only [correction, is, if_true]
      simp only [State.takeSample]
      rw [if_pos step]
    · have is : isStep s.time e = false := decide_eq_false step
      simp only [correction, is, Bool.false_eq_true, if_false]
      simp only [State.takeSample]
      rw [if_neg step]
  have level (t : State) (peers : t.peers = s.peers) : t.recordedLevel ref = s.recordedLevel ref := by
    rw [State.recordedLevel, peers, State.recordedLevel]
  rw [split, State.trimUpdate_eq (s.sampleApplied_time e)]
  generalize flagged : withFlagIf (decide ((trimmedTime s.time e).alarm ≠ s.time.alarm)) .trimLimit
    { s.sampleApplied e with time := trimmedTime s.time e } = w
  have time : w.time = trimmedTime s.time e := by
    rw [← flagged, withFlagIf_eq]
    split <;> rfl
  have peers : w.peers = s.peers := by
    rw [← s.sampleApplied_peers e, ← flagged, withFlagIf_eq]
    split <;> rfl
  rw [State.followLock_eq ref time, level w peers, ← flagged, withFlagIf_time,
    ← sampledTime_alarm _ (s.recordedLevel ref)]
  rfl

end Sys2Proof.Machine
end

section
/-! A header of the reference at dispatch: the sample, and what it does to the other blocks (R94, R96, R102, R106 to R109,
R120, R154). -/

namespace Sys2Proof.Machine

/-! ## The movement of FT -/

theorem Seat.counted_zero (run away : Bool) (x : Seat) : countedSeat run away 0 x = x := by
  cases x with
  | held c p r h => cases run <;> cases away <;> cases h <;> cases p <;> rfl
  | _ => rfl

theorem Request.countDown_zero (r : Request) : r.countDown 0 = r := by
  obtain ⟨_, _, _, _, _, _, _, _, _, _, _, _, _, _, margin, _⟩ := r
  unfold Request.countDown
  split
  · cases margin <;> rfl
  · rfl

theorem countedStanding_zero (s : State) : countedStanding 0 s = s := by
  have never (n : Nat) : decide (0 < n ∧ n ≤ 0) = false := decide_eq_false (by omega)
  have records : StandingRecord.count 0 = id := by
    funext r
    simp only [StandingRecord.count, never, Bool.or_false, Nat.sub_zero, id]
  have requests : s.req.count 0 = s.req := by
    have each : Request.countDown 0 = id := funext Request.countDown_zero
    simp only [RequestUnit.count, each, never, Bool.or_false, Nat.sub_zero, List.map_id]
  have row : countedStanding 0 s =
      { s with arb := { s.arb with ring := s.arb.ring.map (StandingRecord.count 0) }, req := s.req.count 0 } := rfl
  rw [row, records, requests, List.map_id]

theorem fieldCounted_zero (s : State) : fieldCounted 0 s = s := by
  have seats (run : Bool) (away : Nat → Bool) :
      s.seat.table.mapIdx (fun n x => countedSeat run (away n) 0 x) = s.seat.table := by
    simp only [Seat.counted_zero]
    exact List.ext_getElem (by simp) (by simp)
  simp only [fieldCounted, seats, countedStanding_zero, ite_self]

theorem fieldCounted_time (k : Nat) (t : FieldTime) (s : State) :
    fieldCounted k { s with time := t } = { fieldCounted k s with time := t } := by
  unfold fieldCounted
  dsimp only
  split <;> rfl

theorem State.sampleMoved_still {e : Int} {s : State} (still : ¬ 0 < correction s.time e) :
    s.sampleMoved e = { s with time := correctedTime s.time e } := if_neg still

theorem correctedTime_still {b : FieldTime} {e : Int} (still : ¬ 0 < correction b e) : (correctedTime b e).ft = b.ft :=
  if_neg still

/-- R96: the correction counts the boundaries it crosses. -/
theorem State.sampleMoved_eq (e : Int) (s : State) :
    s.sampleMoved e = { fieldCounted ((correctedTime s.time e).ft / 1000 - s.time.ft / 1000) s with
      time := correctedTime s.time e
      chan := (s.sampleMoved e).chan
      freeIndex := (s.sampleMoved e).freeIndex } := by
  by_cases forward : 0 < correction s.time e
  · have ft : (correctedTime s.time e).ft = min (s.time.ft + (correction s.time e).toNat) ftMax := if_pos forward
    have time := s.sampleMoved_time e
    have moved := (State.moveFt_eq (min (s.time.ft + (correction s.time e).toNat) ftMax) (s.mapTime fun t => { t with
      stall := 0
      lastSample := some { offset := e, kind := if isStep s.time e then .step else .slew } })).1
    have run : s.sampleMoved e = _ := (if_pos forward).trans moved
    rw [ft, ← time, run]
    simp only [State.mapTime, fieldCounted_time]
  · rw [correctedTime_still forward, Nat.sub_self, fieldCounted_zero, State.sampleMoved_still forward]

/-- R154: the stamp of a frame in transmission at a sample. -/
theorem State.sampleMoved_stamp (e : Int) (s : State) :
    (s.sampleMoved e).chan = { s.chan with txFrame := (s.sampleMoved e).chan.txFrame } ∧
    (correction s.time e ≤ 0 ∨ s.chan.txFrame = none →
      (s.sampleMoved e).chan = s.chan ∧ (s.sampleMoved e).freeIndex = s.freeIndex) ∧
    ∀ g, s.chan.txFrame = some g → ∃ stamp : Quad,
      (s.sampleMoved e).chan.txFrame = some { g with header := { g.header with stamp := stamp } } ∧
      (g.stampOpen = false ∨ g.looped = true →
        stamp = g.header.stamp ∧ (s.sampleMoved e).freeIndex = s.freeIndex) ∧
      (0 < correction s.time e → g.stampOpen = true → g.looped = false →
        (s.sampleMoved e).freeIndex = s.freeIndex + 1) ∧
      (stamp = g.header.stamp ∨ stamp = BitVec.ofNat 32 (correctedTime s.time e).ft) := by
  by_cases forward : 0 < correction s.time e
  · have ft : (correctedTime s.time e).ft = min (s.time.ft + (correction s.time e).toNat) ftMax := if_pos forward
    obtain ⟨chan, idle, sent⟩ := (State.moveFt_eq (min (s.time.ft + (correction s.time e).toNat) ftMax)
      (s.mapTime fun t => { t with
        stall := 0
        lastSample := some { offset := e, kind := if isStep s.time e then .step else .slew } })).2
    rw [State.sampleMoved, if_pos forward, ft]
    refine ⟨chan, fun h => idle (h.resolve_left (by omega)), fun g held => ?_⟩
    obtain ⟨stamp, shown, closed, opened, either⟩ := sent g held
    exact ⟨stamp, shown, closed, fun _ => opened, either⟩
  · rw [State.sampleMoved_still forward]
    exact ⟨rfl, fun _ => ⟨rfl, rfl⟩, fun g held => ⟨g.header.stamp, held, fun _ => ⟨rfl, rfl⟩,
      fun h => absurd h forward, .inl rfl⟩⟩

/-! ## Field time of the stages before the sample -/

theorem keepsTime_keptByMarks : KeptByMarks fun s t => t.time = s.time where
  refl _ := rfl
  trans h k := k.trans h
  enterQueue f s := by
    obtain ⟨k, e, queued⟩ := State.enterQueue_eq f s
    rw [queued]
  setQueue _ _ := rfl
  countDrop _ := rfl
  postNotice k i c d s := State.postNotice_time ..
  mapReq _ _ _ := rfl
  mapArb _ _ := rfl
  mapSeat _ _ := rfl
  mapViews _ _ := rfl
  setFlag _ _ := rfl
  mapRequests _ _ := rfl
  mapPhase _ _ := rfl
  mapLink _ _ := rfl
  setNode _ _ := rfl
  mapChan _ _ _ := rfl

theorem headerRecorded_time (h : Header) (s : State) : (headerRecorded h s).time = s.time := by
  rw [headerRecorded, withFlagIf_eq]
  split <;> rfl

theorem headerSlotted_time (f : RxFrame) (s : State) : (headerSlotted f s).time = s.time := by
  rw [headerSlotted, State.fillReferee_eq]
  change ((frameTaken s).takeHeader f.header).time = _
  by_cases heard : ∃ p, lookupId f.header.sender s.peers.slots = some p ∧ p.heard = true
  · obtain ⟨p, known, hears⟩ := heard
    rw [State.takeHeader_heard (s := frameTaken s) known hears]
    exact headerRecorded_time ..
  · rw [State.takeHeader_reports (s := frameTaken s) fun old known =>
      (Bool.not_eq_true _).mp fun hears => heard ⟨old, known, hears⟩]
    exact (keepsTime_keptByMarks.reportHeard _ _).trans (headerRecorded_time ..)

theorem headerSlotted_slots (f : RxFrame) (s : State) : (headerSlotted f s).peers.slots =
    insertId f.header.sender (slotAfter f.header s) s.peers.slots := by
  rw [headerSlotted_peers]
  exact headerRecorded_slots f.header (frameTaken s)

theorem headerSlotted_candidate (f : RxFrame) (s : State) :
    (headerSlotted f s).candidate f.header.sender = true ↔
      (f.header.align = 2 ∨ f.header.align = 3) ∧ f.header.level.toNat ≤ 5 := by
  rw [State.candidate, headerSlotted_slots, lookupId_insertId_same]
  simp only [slotAfter, PeerSlot.candidate, Bool.true_and, Bool.and_eq_true]
  exact and_congr decide_eq_true_iff decide_eq_true_iff

theorem headerSlotted_level (f : RxFrame) (s : State) :
    (headerSlotted f s).recordedLevel f.header.sender = f.header.level.toNat := by
  rw [State.recordedLevel, headerSlotted_slots, lookupId_insertId_same]
  rfl

theorem headerSlotted_offset (f : RxFrame) (s : State) :
    (headerSlotted f s).offsetOf f.header.stamp f.stamp = sampleOffset s.port.cfg.linkDelay f := by
  obtain ⟨-, cfg, -⟩ := headerSlotted_keepsQueue f s
  rw [State.offsetOf, cfg]
  rfl

theorem State.followLevel_eq (ref : NodeId) (h : Header) (s : State) (level : s.recordedLevel ref = h.level.toNat) :
    s.followLevel ref = { s with time := followedTime h s.time } := by
  rw [State.followLevel, followedTime, level]
  split <;> rfl

/-- R102, R106: a header of the reference that is a candidate is sampled. -/
theorem headerTimed_samples {f : RxFrame} {s : State} (moves : s.time.align ≠ .source) (free : s.time.mode ≠ .fixed)
    (reference : s.time.reference = some f.header.sender) (aligned : f.header.align = 2 ∨ f.header.align = 3)
    (level : f.header.level.toNat ≤ 5) :
    headerTimed f s = State.takeSample f.header.sender f.header.stamp f.stamp
      { headerSlotted f s with time := followedTime f.header s.time } := by
  have candidate := (headerSlotted_candidate f s).mpr ⟨aligned, level⟩
  have time := headerSlotted_time f s
  rw [headerTimed, State.timeStage, time, if_neg (not_or.mpr ⟨moves, free⟩), if_pos reference, if_pos candidate,
    State.followLevel_eq _ f.header _ (headerSlotted_level f s), time]

/-- Settles O41: the sample is `State.takeSample`, the movement of FT that of `State.sampleMoved`. -/
theorem samplesReachTheOtherBlocks : Obligations.SamplesReachTheOtherBlocks := by
  intro s f kind _ moves free reference aligned level v b e moved after
  let u : State := { v with time := b }
  have sample := headerTimed_samples moves free reference aligned level
  have lvl : u.recordedLevel f.header.sender = f.header.level.toNat := headerSlotted_level f s
  have offset : u.offsetOf f.header.stamp f.stamp = e := headerSlotted_offset f s
  have row : u.sampleMoved e = _ := u.sampleMoved_eq e
  have phase : (u.sampleMoved e).phase = v.phase := by
    rw [row, fieldCounted_eq]
  have time : (u.sampleMoved e).time = moved := u.sampleMoved_time e
  obtain ⟨chan, idle, sent⟩ := u.sampleMoved_stamp e
  refine ⟨u.sampleMoved e, u.sampleApplied e, ?_, chan, idle, sent, fun h => ?_,
    fun forward m held reached => ⟨fun allowed => ?_, fun ended other => ?_⟩, ?_⟩
  · refine row.trans ?_
    rw [show u = { v with time := b } from rfl, fieldCounted_time]
  · by_cases forward : 0 < correction b e
    · have early := h.resolve_left (by omega)
      refine (if_pos forward).trans ?_
      rcases pending : (u.sampleMoved e).phase.pending with _ | m
      · exact State.testPending_none _ pending
      · exact State.testPending_early _ pending (time ▸ early m (phase ▸ pending))
    · exact if_neg forward
  · have applied : u.sampleApplied e = _ := (if_pos forward).trans
      (State.testPending_applied (u.sampleMoved e) (phase ▸ held) (time ▸ reached) (phase ▸ allowed))
    rw [applied]
    exact State.applyMark_applied ..
  · exact (if_pos forward).trans
      (State.testPending_refused (u.sampleMoved e) (phase ▸ held) (time ▸ reached) (phase ▸ ended) other)
  · rw [sample, State.takeSample_eq, lvl, offset]
    rfl

end Sys2Proof.Machine
end

section
/-! The choice and the loss of the reference at dispatch (R99 to R102). -/

namespace Sys2Proof.Machine

/-! ## The best candidate (R99) -/

/-- A candidate of the lowest level, and among equal levels of the lowest id. -/
def IsBest (l : List (NodeId × PeerSlot)) (id : NodeId) (level : Nat) : Prop :=
  (∃ p, lookupId id l = some p ∧ p.candidate = true ∧ p.level.toNat = level) ∧
    ∀ j q, lookupId j l = some q → q.candidate = true → level < q.level.toNat ∨ (level = q.level.toNat ∧ id ≤ j)

theorem lookupId_cons {α : Type} (j k : NodeId) (a : α) (l : List (NodeId × α)) :
    lookupId k ((j, a) :: l) = if j = k then some a else lookupId k l := rfl

theorem key_above {α : Type} {id j : NodeId} {a b : α} {l : List (NodeId × α)}
    (rising : (((id, a) :: l).map (·.1)).Pairwise (· < ·)) (known : lookupId j l = some b) : id < j := by
  rw [List.map_cons, List.pairwise_cons] at rising
  exact rising.1 j ((lookupId_isSome j l).mp (by rw [known]; rfl))

theorem bestCandidate_spec (l : List (NodeId × PeerSlot)) (rising : (l.map (·.1)).Pairwise (· < ·)) :
    match bestCandidate l with
    | none => ∀ j q, lookupId j l = some q → q.candidate = false
    | some (id, level) => IsBest l id level := by
  induction l with
  | nil => exact fun j q known => absurd known (by simp [lookupId])
  | cons x l ih =>
    obtain ⟨id, p⟩ := x
    have later := ih (List.Pairwise.of_cons rising)
    rcases best : bestCandidate l with _ | ⟨j, level⟩
    · rw [best] at later
      by_cases candidate : p.candidate = true
      · simp only [bestCandidate, best, if_pos candidate]
        refine ⟨⟨p, by simp [lookupId], candidate, rfl⟩, fun k q known able => ?_⟩
        rw [lookupId_cons] at known
        split at known
        · next same =>
          obtain rfl := Option.some.inj known
          exact .inr ⟨rfl, same ▸ BitVec.le_refl id⟩
        · simp [later k q known] at able
      · simp only [bestCandidate, best, if_neg candidate]
        intro k q known
        rw [lookupId_cons] at known
        split at known
        · obtain rfl := Option.some.inj known
          exact (Bool.not_eq_true _).mp candidate
        · exact later k q known
    · rw [best] at later
      obtain ⟨⟨r, held, able, rank⟩, least⟩ := later
      have above := key_above rising held
      by_cases better : p.candidate = true ∧ p.level.toNat ≤ level
      · simp only [bestCandidate, best, if_pos better]
        refine ⟨⟨p, by simp [lookupId], better.1, rfl⟩, fun k q known qualifies => ?_⟩
        rw [lookupId_cons] at known
        split at known
        · next same =>
          obtain rfl := Option.some.inj known
          exact .inr ⟨rfl, same ▸ BitVec.le_refl id⟩
        · have beyond := key_above rising known
          have under := least k q known qualifies
          have bound := better.2
          by_cases equal : p.level.toNat = q.level.toNat
          · exact .inr ⟨equal, BitVec.le_of_lt beyond⟩
          · exact .inl (by omega)
      · simp only [bestCandidate, best, if_neg better]
        have other : id ≠ j := fun same => by
          rw [same] at above
          exact absurd above (BitVec.lt_irrefl j)
        refine ⟨⟨r, by rw [lookupId_cons, if_neg other, held], able, rank⟩, fun k q known qualifies => ?_⟩
        rw [lookupId_cons] at known
        split at known
        · obtain rfl := Option.some.inj known
          have higher : ¬ p.level.toNat ≤ level := fun low => better ⟨qualifies, low⟩
          exact .inl (by omega)
        · exact least k q known qualifies

theorem PeerSlot.candidate_iff (p : PeerSlot) : p.candidate = true ↔ isCandidate p := by
  rw [PeerSlot.candidate, Bool.and_eq_true, Bool.and_eq_true, isCandidate, and_assoc]
  exact and_congr Iff.rfl (and_congr decide_eq_true_iff decide_eq_true_iff)

/-! ## What the stages after field time keep -/

theorem keepsTime_keptByBodies (id : NodeId) : KeptByBodies id fun s t => t.time = s.time where
  toKeptByMarks := keepsTime_keptByMarks
  mapPeers _ _ _ := rfl

theorem keepsFlags_keptByBodies (id : NodeId) : KeptByBodies id KeepsFlags where
  toKeptByElement := keepsFlags_keptByElement
  setFlag := State.setFlag_keepsFlags
  mapRequests _ _ _ h := h
  mapPhase _ _ _ h := h
  mapLink _ _ _ h := h
  setNode _ _ _ h := h
  mapChan _ _ _ _ h := h
  mapPeers _ _ _ _ h := h

/-- What catch-up and the body keep of the state after the field time stage: field time, the flags and the headers. -/
def KeepsTimed (id : NodeId) (s t : State) : Prop := t.time = s.time ∧ KeepsFlags s t ∧ s.peers.SameHeaders id t.peers

theorem afterTimed {c : Instr} {kind : BitVec 4} (member : (c, kind) ∈ frameCommands) {s : State} {f : RxFrame}
    (arrives : Arrives s f kind) : ∃ t, exec c s = .next t ∧ KeepsTimed f.header.sender (headerTimed f s) t := by
  obtain ⟨own, body, run, -, -, bodies⟩ := frameCommand_dispatch member
  have headers := keepsHeaders_keptByBodies f.header.sender
  refine ⟨_, (run s).trans (congrArg Host.Outcome.next (State.dispatch_arrives arrives)), ?_, ?_, ?_⟩
  · exact (bodies f _ (keepsTime_keptByBodies _) _).trans (keepsTime_keptByMarks.catchUp ..)
  · have caught := (keepsFlags_keptByBodies f.header.sender).catchUp f.header (headerTimed f s)
    exact fun flag set => bodies f _ (keepsFlags_keptByBodies _) _ flag (caught flag set)
  · obtain ⟨-, same, -⟩ := (headers.catchUp f.header (headerTimed f s)).trans (bodies f _ headers (afterHeader f s))
    exact same

theorem Peers.SameHeaders.bare {id : NodeId} {p q : Peers} (h : p.SameHeaders id q) (j : NodeId) :
    (lookupId j q.slots).map PeerSlot.bare = (lookupId j p.slots).map PeerSlot.bare := by
  obtain ⟨own, others⟩ := h
  by_cases same : j = id
  · exact same ▸ own
  · rw [others j same]

theorem Peers.SameHeaders.slot {id : NodeId} {p q : Peers} (h : p.SameHeaders id q) {j : NodeId} {x : PeerSlot}
    (known : lookupId j q.slots = some x) : ∃ y, lookupId j p.slots = some y ∧ y.bare = x.bare := by
  have bare := h.bare j
  rw [known, Option.map_some] at bare
  exact Option.map_eq_some_iff.mp bare.symm

theorem Peers.SameHeaders.slot' {id : NodeId} {p q : Peers} (h : p.SameHeaders id q) {j : NodeId} {x : PeerSlot}
    (known : lookupId j p.slots = some x) : ∃ y, lookupId j q.slots = some y ∧ y.bare = x.bare := by
  have bare := h.bare j
  rw [known, Option.map_some] at bare
  exact Option.map_eq_some_iff.mp bare

theorem isCandidate_bare {x y : PeerSlot} (same : x.bare = y.bare) :
    (isCandidate x ↔ isCandidate y) ∧ x.level = y.level := by
  have heard : x.bare.heard = y.bare.heard := congrArg PeerSlot.heard same
  have align : x.bare.align = y.bare.align := congrArg PeerSlot.align same
  have level : x.bare.level = y.bare.level := congrArg PeerSlot.level same
  simp only [PeerSlot.bare] at heard align level
  exact ⟨by rw [isCandidate, isCandidate, heard, align, level], level⟩

/-! ## The choice and the loss (R100, R101) -/

theorem State.referenceLost_eq (s : State) :
    s.referenceLost = withFlagIf (decide (s.time.align = .locked ∨ s.time.align = .acquiring)) .alignChanged
      { s with time := lostTime s.time } := by
  rcases align : s.time.align with _ | _ | _ | _ | _ <;>
    simp [State.referenceLost, align, withFlagIf_eq, lostTime, State.setAlign, State.mapTime]

theorem State.chooseReference_eq (id : NodeId) (s : State) :
    s.chooseReference id = withFlag .alignChanged { s with time := chosenTime id s.time } := by
  rcases align : s.time.align with _ | _ | _ | _ | _ <;>
    simp only [State.chooseReference, chosenTime, align, choiceCause] <;> rfl

/-- R106: field time after a sample. -/
theorem State.takeSample_time (ref : NodeId) (a b : Quad) (s : State) :
    (s.takeSample ref a b).time = sampledTime s.time (s.recordedLevel ref) (s.offsetOf a b) := by
  have sampled : (s.sampled (s.recordedLevel ref) (s.offsetOf a b)).time =
      sampledTime s.time (s.recordedLevel ref) (s.offsetOf a b) := by
    simp only [State.sampled, withFlagIf_eq]
    split <;> split <;> rfl
  rw [State.takeSample_eq]
  dsimp only
  split
  · rw [← sampled]
    exact keepsTime_keptByMarks.resolve _
  · exact sampled

theorem keepsFlags_keptByTime : KeptByTime KeepsFlags where
  toKeptByMarks := (keepsFlags_keptByBodies 0).toKeptByMarks
  mapTime _ _ _ h := h
  setFree _ _ _ h := h

section Stage

variable {s : State} {f : RxFrame} (moves : s.time.align ≠ .source) (free : s.time.mode ≠ .fixed)

/-- R100: the header is from a candidate whose level has a reference chosen. -/
def headerChooses (f : RxFrame) (s : State) : Prop :=
  ((f.header.align = 2 ∨ f.header.align = 3) ∧ f.header.level.toNat ≤ 5) ∧
    (headerSlotted f s).choosesAt f.header.sender = true

include moves free

theorem headerTimed_lost (reference : s.time.reference = some f.header.sender)
    (other : ¬ ((f.header.align = 2 ∨ f.header.align = 3) ∧ f.header.level.toNat ≤ 5)) :
    headerTimed f s = (headerSlotted f s).referenceLost := by
  have time := headerSlotted_time f s
  rw [headerTimed, State.timeStage, time, if_neg (not_or.mpr ⟨moves, free⟩), if_pos reference,
    if_neg (mt (headerSlotted_candidate f s).mp other)]

theorem headerTimed_keeps (other : s.time.reference ≠ some f.header.sender) (stays : ¬ headerChooses f s) :
    headerTimed f s = headerSlotted f s := by
  have time := headerSlotted_time f s
  rw [headerTimed, State.timeStage, time, if_neg (not_or.mpr ⟨moves, free⟩), if_neg other, if_neg]
  rwa [Bool.and_eq_true, headerSlotted_candidate]

theorem headerTimed_chooses (law : PeerLaw s) (other : s.time.reference ≠ some f.header.sender)
    (chooses : headerChooses f s) : ∃ id level, IsBest (headerSlotted f s).peers.slots id level ∧
      headerTimed f s = if id = f.header.sender then
        ((headerSlotted f s).chooseReference id).takeSample f.header.sender f.header.stamp f.stamp
      else (headerSlotted f s).chooseReference id := by
  have time := headerSlotted_time f s
  have rising : ((headerSlotted f s).peers.slots.map (·.1)).Pairwise (· < ·) := by
    rw [headerSlotted_slots]
    exact insertId_rising _ _ _ law.1
  have spec := bestCandidate_spec _ rising
  have go : ((headerSlotted f s).candidate f.header.sender && (headerSlotted f s).choosesAt f.header.sender) = true := by
    rw [Bool.and_eq_true, headerSlotted_candidate]
    exact chooses
  have able := (headerSlotted_candidate f s).mpr chooses.1
  rw [headerTimed, State.timeStage, time, if_neg (not_or.mpr ⟨moves, free⟩), if_neg other, if_pos go]
  rcases best : bestCandidate (headerSlotted f s).peers.slots with _ | ⟨id, level⟩
  · rw [best] at spec
    rw [State.candidate] at able
    rcases known : lookupId f.header.sender (headerSlotted f s).peers.slots with _ | x
    · simp [known] at able
    · rw [known] at able
      simp [spec _ x known] at able
  · rw [best] at spec
    exact ⟨id, level, spec, rfl⟩

end Stage

/-- R100: the level of a reference that is not the sender. -/
theorem headerSlotted_otherLevel {f : RxFrame} {s : State} {r : NodeId} (other : r ≠ f.header.sender) :
    (headerSlotted f s).recordedLevel r = s.recordedLevel r := by
  rw [State.recordedLevel, headerSlotted_slots, lookupId_insertId_other _ _ other, State.recordedLevel]

theorem headerSlotted_choosesAt {f : RxFrame} {s : State} (other : s.time.reference ≠ some f.header.sender) :
    (headerSlotted f s).choosesAt f.header.sender = true ↔ match s.time.align with
      | .unaligned => True
      | .acquiring | .locked => ∃ r, s.time.reference = some r ∧ f.header.level.toNat < s.recordedLevel r
      | .holdover => f.header.level.toNat < s.time.level
      | .source => False := by
  have compared : (match s.time.reference with
      | some r => decide (f.header.level.toNat < (headerSlotted f s).recordedLevel r)
      | none => false) = true ↔ ∃ r, s.time.reference = some r ∧ f.header.level.toNat < s.recordedLevel r := by
    rcases reference : s.time.reference with _ | r
    · simp
    · have apart : r ≠ f.header.sender := fun same => other (by rw [reference, same])
      simp [headerSlotted_otherLevel apart]
  rw [State.choosesAt, headerSlotted_time, headerSlotted_level]
  rcases s.time.align with _ | _ | _ | _ | _
  · simp
  · exact compared
  · exact compared
  · simp
  · simp

/-- R99: the best candidate of the state at the time stage is that of the state after the body. -/
theorem IsBest.after {id j : NodeId} {level : Nat} {p q : Peers} (best : IsBest p.slots id level)
    (same : p.SameHeaders j q) : ∃ x, lookupId id q.slots = some x ∧ isCandidate x ∧
      ∀ k y, lookupId k q.slots = some y → isCandidate y → x.level < y.level ∨ (x.level = y.level ∧ id ≤ k) := by
  obtain ⟨⟨x, known, able, rank⟩, least⟩ := best
  obtain ⟨x', known', bare⟩ := same.slot' known
  obtain ⟨qualifies, level'⟩ := isCandidate_bare bare
  refine ⟨x', known', qualifies.mpr (x.candidate_iff.mp able), fun k y held candidate => ?_⟩
  obtain ⟨y', held', bare'⟩ := same.slot held
  obtain ⟨qualifies', level''⟩ := isCandidate_bare bare'
  rw [level', ← level'']
  rcases least k y' held' (y'.candidate_iff.mpr (qualifies'.mpr candidate)) with less | ⟨equal, below⟩
  · exact .inl (by rw [BitVec.lt_def]; omega)
  · exact .inr ⟨BitVec.eq_of_toNat_eq (by omega), below⟩

theorem withFlagIf_keepsTime (p : Bool) (g : EventFlag) (s : State) : (withFlagIf p g s).time = s.time := by
  cases p <;> rfl

theorem withFlag_hasFlag (g : EventFlag) (s : State) : (withFlag g s).hasFlag g = true := by
  rw [withFlag_eq, State.setFlag_hasFlag]
  simp

/-- Settles O40: the branches of the time stage, and what catch-up and the bodies keep of it. -/
theorem headersChooseAndLoseTheReference : Obligations.HeadersChooseAndLoseTheReference := by
  intro c kind member s f arrives law h b e candidate recorded chooses
  obtain ⟨t, run, time, flags, same⟩ := afterTimed member arrives
  have slotted := headerSlotted_time f s
  have level := headerSlotted_level f s
  have offset := headerSlotted_offset f s
  refine ⟨t, run, fun idle => ?_, fun moves free => ⟨fun reference => ⟨fun able => ?_, fun unable =>
    ⟨?_, fun was => ?_⟩⟩, fun other => ⟨fun stays => ?_, fun chosen => ?_⟩⟩⟩
  · rw [time, headerTimed, State.timeStage, slotted, if_pos idle, slotted]
  · rw [time, headerTimed_samples moves free reference able.1 able.2, State.takeSample_time]
    exact congr (congrArg (sampledTime (followedTime h b)) level) offset
  · rw [time, headerTimed_lost moves free reference unable, State.referenceLost_eq, withFlagIf_keepsTime, slotted]
  · refine flags _ ?_
    rw [headerTimed_lost moves free reference unable, State.referenceLost_eq, slotted, decide_eq_true was]
    exact withFlag_hasFlag ..
  · have keeps : ¬ headerChooses f s := mt (and_congr Iff.rfl (headerSlotted_choosesAt other)).mp stays
    rw [time, headerTimed_keeps moves free other keeps, slotted]
  · have picks : headerChooses f s := (and_congr Iff.rfl (headerSlotted_choosesAt other)).mpr chosen
    obtain ⟨q, lvl, best, staged⟩ := headerTimed_chooses moves free law other picks
    have choice := (headerSlotted f s).chooseReference_eq q
    have chosenAt : ((headerSlotted f s).chooseReference q).time = chosenTime q b := by
      rw [choice]
      exact congrArg (chosenTime q) slotted
    have flagged : ((headerSlotted f s).chooseReference q).hasFlag .alignChanged = true := by
      rw [choice]
      exact withFlag_hasFlag ..
    obtain ⟨x, known, able, least⟩ := best.after (headerTimed_peers f s ▸ same)
    refine ⟨q, x, known, able, least, flags _ ?_, fun own => ?_, fun apart => ?_⟩
    · rw [staged]
      split
      · exact keepsFlags_keptByTime.takeSample _ _ _ _ _ flagged
      · exact flagged
    · have level' : ((headerSlotted f s).chooseReference q).recordedLevel f.header.sender = h.level.toNat := by
        refine Eq.trans ?_ level
        rw [choice]
        rfl
      have offset' : ((headerSlotted f s).chooseReference q).offsetOf f.header.stamp f.stamp = e := by
        refine Eq.trans ?_ offset
        rw [choice]
        rfl
      rw [time, staged, if_pos own, State.takeSample_time, chosenAt, level', offset']
    · rw [time, staged, if_neg apart, chosenAt]

end Sys2Proof.Machine
end

section
/-! ANSWER frames at a player (R79 to R85). -/

namespace Sys2Proof.Machine

/-- What the stages before the body leave of the configuration. -/
theorem afterHeader_cfg (f : RxFrame) (s : State) : (afterHeader f s).port.cfg = s.port.cfg := by
  obtain ⟨-, cfg, -⟩ := afterHeader_keepsQueue f s
  exact cfg

theorem exec_answerFrame {s : State} {f : RxFrame} (arrives : Arrives s f 4) :
    exec .answerFrame s = .next (answerBodyTaken f (afterHeader f s)) :=
  congrArg Host.Outcome.next (State.dispatch_arrives arrives)

/-- R79: an answer that this player's request unit judges. -/
theorem answerBodyTaken_judged {u : State} {f : RxFrame} {a : AnswerBody} (judged : ForRequests u f)
    (read : answerOf f.body = some a) : answerBodyTaken f u =
      u.takeAnswer f.header.sender (decide (f.header.role = 1)) (byteAt f.body 1) a := by
  obtain ⟨running, role, target⟩ := judged
  have player : u.isPlayer = true := by rw [State.isPlayer_eq, role]; rfl
  simp only [answerBodyTaken, running, ne_eq, not_true_eq_false, if_false, read, player, if_true]
  exact if_pos target

theorem State.takeAnswer_matches {u : State} {f : RxFrame} {r : Request} {a : AnswerBody} (found : Matches u f r)
    (read : answerOf f.body = some a) : answerBodyTaken f u = match r.state with
      | .asking => u.answerOpen r a
      | .waiting => u.answerOpen r a
      | .seated => u.answerSeated r a
      | .yielding => u.answerYielding r a := by
  obtain ⟨judged, element, request⟩ := found
  have known : u.requestOf f.header.sender (byteAt f.body 1) = some r := request
  rw [answerBodyTaken_judged judged read]
  rcases state : r.state with _ | _ | _ | _ <;>
    simp only [State.takeAnswer, element, decide_true, Bool.not_true, Bool.false_eq_true, if_false, known, state]

theorem answerToAnOpenRequest : AnswerToAnOpenRequest := by
  intro s f r a arrives u found read waits
  have body : answerBodyTaken f u = u.answerOpen r a := by
    rw [State.takeAnswer_matches found read]
    rcases waits with state | state <;> rw [state]
  have run := (exec_answerFrame arrives).trans (congrArg Host.Outcome.next body)
  simp only [closed_eq]
  cases a with
  | granted seat hold mark => exact run
  | waiting position count =>
    refine ⟨fun asking => run.trans ?_, fun waiting => run.trans ?_⟩
    · exact congrArg Host.Outcome.next (if_pos asking)
    · exact congrArg Host.Outcome.next (if_neg (by simp [waiting]))
  | refused reason => exact run
  | ended reason => exact run
  | renewed hold => exact run
  | renewDenied reason => exact run

theorem answerToASeatedOrYieldingRequest : AnswerToASeatedOrYieldingRequest := by
  intro s f r a arrives u found read
  have run := exec_answerFrame arrives
  simp only [closed_eq]
  refine ⟨fun state => ?_, fun state => ?_⟩
  · have body : answerBodyTaken f u = u.answerSeated r a := by rw [State.takeAnswer_matches found read, state]
    have seated := run.trans (congrArg Host.Outcome.next body)
    cases a <;> exact seated
  · have body : answerBodyTaken f u = u.answerYielding r a := by rw [State.takeAnswer_matches found read, state]
    have yields := run.trans (congrArg Host.Outcome.next body)
    cases a <;> exact yields

/-- Settles O45: the state of the request chooses the row. -/
theorem answersToRequests : Obligations.AnswersToRequests :=
  ⟨answerToAnOpenRequest, answerToASeatedOrYieldingRequest⟩

/-! ## Answers that match no request, and answers not used (R79, R85, R166) -/

theorem State.requestOf_none {u : State} {p : NodeId} {claim : Byte}
    (absent : ∀ r ∈ u.req.list, r.element ≠ p ∨ r.claim ≠ claim) : u.requestOf p claim = none := by
  refine List.find?_eq_none.mpr fun r member => ?_
  rw [decide_eq_true_eq, Classical.not_and_iff_not_or_not]
  exact absent r member

theorem State.takeAnswer_stray {u : State} {f : RxFrame} {a : AnswerBody} (judged : ForRequests u f)
    (read : answerOf f.body = some a)
    (stray : f.header.role ≠ 1 ∨ ∀ r ∈ u.req.list, r.element ≠ f.header.sender ∨ r.claim ≠ byteAt f.body 1) :
    answerBodyTaken f u = u.strayAnswer f.header.sender (decide (f.header.role = 1)) (byteAt f.body 1) a := by
  rw [answerBodyTaken_judged judged read]
  by_cases element : f.header.role = 1
  · have absent := State.requestOf_none (stray.resolve_left (not_not_intro element))
    simp only [State.takeAnswer, element, decide_true, Bool.not_true, Bool.false_eq_true, if_false, absent]
  · simp only [State.takeAnswer, element, decide_false, Bool.not_false, if_true]

theorem answerBodyTaken_unused {u : State} {f : RxFrame} (unused : u.port.nodeState ≠ .running ∨
    answerOf f.body = none ∨ u.port.cfg.role = 2 ∨
    (u.port.cfg.role = 0 ∧ idAt f.body 0 ≠ u.port.cfg.nodeId.setWidth 6) ∨
    (u.port.cfg.role = 1 ∧ f.header.role ≠ 1)) : answerBodyTaken f u = u := by
  by_cases running : u.port.nodeState = .running
  · rcases read : answerOf f.body with _ | a
    · simp only [answerBodyTaken, running, ne_eq, not_true_eq_false, if_false, read]
    · simp only [answerBodyTaken, running, ne_eq, not_true_eq_false, if_false, read]
      simp only [State.isPlayer_eq, State.isElement_eq, State.ownId]
      rcases unused with idle | unread | referee | ⟨player, other⟩ | ⟨element, other⟩
      · exact absurd running idle
      · simp [read] at unread
      · simp [referee]
      · simp [player, other]
      · rw [element, decide_eq_false other, Bool.and_false]
        rfl
  · exact if_pos running

/-- Settles O46: no request found, and the answers that no block takes. -/
theorem strayAndUnusedAnswers : Obligations.StrayAndUnusedAnswers := by
  intro s f arrives u p claim
  have run := exec_answerFrame arrives
  have cfg : u.port.cfg = s.port.cfg := afterHeader_cfg f s
  refine ⟨fun unused => ?_, fun a read judged stray => ⟨fun seat hold mark granted element => ?_, fun other => ?_⟩⟩
  · rw [run, answerBodyTaken_unused (cfg ▸ unused)]
  · rw [run, State.takeAnswer_stray judged read stray, granted, element]
    rfl
  · have body := State.takeAnswer_stray judged read stray
    rw [run, body]
    congr 1
    cases a with
    | granted seat hold mark =>
      have apart : f.header.role ≠ 1 := other.resolve_right fun none => none seat hold mark rfl
      exact if_neg (mt of_decide_eq_true apart)
    | waiting _ _ => rfl
    | refused _ => rfl
    | ended _ => rfl
    | renewed _ => rfl
    | renewDenied _ => rfl

end Sys2Proof.Machine
end

section
/-! PRESENCE and ANSWER frames of a partner at an element (R62 to R67). -/

namespace Sys2Proof.Machine

/-! ## A PRESENCE in a partner view (R62) -/

theorem keepClaims_eq (olds news : List ViewSeat) (bare : ∀ x ∈ news, x.claim = none) :
    keepClaims olds news = shownSeats olds news := by
  induction news generalizing olds with
  | nil => cases olds <;> rfl
  | cons x news ih =>
    have rest := fun olds => ih olds fun y member => bare y (List.mem_cons_of_mem x member)
    rw [shownSeats, List.mapIdx_cons]
    cases olds with
    | nil =>
      have first : ({ x with claim := none } : ViewSeat) = x := by rw [← bare x List.mem_cons_self]
      have same : news = shownSeats [] news := by
        rw [← rest []]
        cases news <;> rfl
      simp only [keepClaims, List.getElem?_nil, first]
      exact congrArg (x :: ·) same
    | cons o olds =>
      simp only [keepClaims, rest olds, List.getElem?_cons_zero, List.getElem?_cons_succ]
      rfl

theorem viewSeatsOf_bare (b : List Byte) (i n : Nat) : ∀ x ∈ viewSeatsOf b i n, x.claim = none := by
  induction n generalizing i with
  | zero => simp [viewSeatsOf]
  | succ n ih =>
    intro x member
    rcases List.mem_cons.mp member with rfl | later
    · rfl
    · exact ih _ x later

theorem elementPresenceOf_bare {b : List Byte} {seats : List ViewSeat} {waiting : Byte} {offers : List ViewOffer}
    (read : elementPresenceOf b = some (seats, waiting, offers)) : ∀ x ∈ seats, x.claim = none := by
  unfold elementPresenceOf at read
  dsimp only at read
  split at read
  · obtain ⟨rfl, -⟩ := Prod.mk.inj (Option.some.inj read)
    exact viewSeatsOf_bare b 1 _
  · cases read

theorem takePresence_eq {seats : List ViewSeat} (bare : ∀ x ∈ seats, x.claim = none) (now : Nat) :
    PartnerView.takePresence seats now = fun v => { v with seats := shownSeats v.seats seats, lastHeard := now } := by
  funext v
  rw [PartnerView.takePresence, keepClaims_eq _ _ bare]

/-! ## An overheard ANSWER in a partner view (R63) -/

theorem ViewSeat.occupied_eq (x : ViewSeat) : x.occupied = taken x := rfl

theorem set_eq_mapIdx {α : Type} (l : List α) (n : Nat) {x : α} (place : l[n]? = some x) (f : α → α) :
    l.set n (f x) = l.mapIdx fun i y => if i = n then f y else y := by
  refine List.ext_getElem? fun i => ?_
  rw [List.getElem?_set, List.getElem?_mapIdx]
  by_cases same : n = i
  · subst same
    have inside : n < l.length := (List.getElem?_eq_some_iff.mp place).1
    rw [place]
    simp [inside]
  · rcases l[i]? with _ | y <;> simp [same, Ne.symm same]

/-- R63: the other seats of the player cleared, seat n in GUARD, and the seats added below it FREE. -/
theorem grantSeat_seats (v : PartnerView) (p : NodeId) (claim : Byte) (n : Nat) (mark : Half)
    (other : ¬ (v.seats[n]?).any (fun x => taken x && decide (x.holder = some p ∧ x.mark = mark)) = true) :
    (v.grantSeat p claim n mark).seats = grantedSeats p claim n mark v.seats := by
  rw [grantedSeats, if_neg other]
  have size : (v.grantSeat p claim n mark).seats.length = max v.seats.length (n + 1) := by
    simp [PartnerView.grantSeat]
    omega
  refine List.ext_getElem? fun i => ?_
  by_cases inside : i < max v.seats.length (n + 1)
  · rw [List.getElem?_map, List.getElem?_range inside, Option.map_some, PartnerView.grantSeat]
    by_cases here : i = n
    · subst here
      rw [List.getElem?_set_self (by simp; omega), if_pos rfl]
    · rw [List.getElem?_set_ne (Ne.symm here), if_neg here]
      by_cases old : i < v.seats.length
      · rw [List.getElem?_append_left (by simpa using old), List.getElem?_map, List.getElem?_eq_getElem old]
        rfl
      · rw [List.getElem?_append_right (by simpa using old), List.getElem?_replicate_of_lt (by simp; omega),
          List.getElem?_eq_none (by omega : v.seats.length ≤ i)]
        rfl
  · rw [List.getElem?_eq_none (by omega), List.getElem?_eq_none (by simp; omega)]

theorem takeGranted_seats (p : NodeId) (claim : Byte) (n : Nat) (mark : Half) (v : PartnerView) :
    v.takeGranted p claim n mark = { v with seats := grantedSeats p claim n mark v.seats } := by
  have afresh : v.grantSeat p claim n mark = { v with seats := (v.grantSeat p claim n mark).seats } := rfl
  rcases place : v.seats[n]? with _ | x
  · have row : v.takeGranted p claim n mark = v.grantSeat p claim n mark := by simp only [PartnerView.takeGranted, place]
    rw [row, afresh, grantSeat_seats _ _ _ _ _ (by simp [place])]
  · by_cases same : (x.occupied && decide (x.holder = some p ∧ x.mark = mark)) = true
    · have row : v.takeGranted p claim n mark = { v with seats := v.seats.set n { x with claim := some claim } } := by
        simp only [PartnerView.takeGranted, place, same, if_true]
      have shows : (v.seats[n]?).any (fun x => taken x && decide (x.holder = some p ∧ x.mark = mark)) = true := by
        rw [place]
        exact same
      rw [row, grantedSeats, if_pos shows, set_eq_mapIdx _ n place fun y => { y with claim := some claim }]
    · have row : v.takeGranted p claim n mark = v.grantSeat p claim n mark := by
        simp only [PartnerView.takeGranted, place]
        exact if_neg same
      have other : ¬ (v.seats[n]?).any (fun x => taken x && decide (x.holder = some p ∧ x.mark = mark)) = true := by
        rw [place]
        exact same
      rw [row, afresh, grantSeat_seats _ _ _ _ _ other]

theorem takeEnded_seats (p : NodeId) (claim reason : Byte) (v : PartnerView) :
    v.takeEnded p claim reason = { v with seats := endedSeats p claim reason v.seats } := by
  by_cases other : reason = 10 ∨ reason = 11
  · rw [endedSeats, if_pos other]
    exact if_pos other
  · rw [endedSeats, if_neg other]
    exact if_neg other

theorem takeAnswer_viewed (p : NodeId) (claim : Byte) (a : AnswerBody) (now : Nat) :
    PartnerView.takeAnswer p claim a now = viewAnswered p claim a now := by
  funext v
  cases a with
  | granted seat hold mark => exact takeGranted_seats ..
  | ended reason => exact takeEnded_seats ..
  | waiting _ _ => rfl
  | refused _ => rfl
  | renewed _ => rfl
  | renewDenied _ => rfl

/-! ## The frames of a partner -/

theorem exec_presenceFrame {s : State} {f : RxFrame} (arrives : Arrives s f 1) :
    exec .presenceFrame s = .next (presenceBodyTaken f (afterHeader f s)) :=
  congrArg Host.Outcome.next (State.dispatch_arrives arrives)

section Partner

variable {u : State} {f : RxFrame} (running : u.port.nodeState = .running) (element : u.port.cfg.role = 1)
  (partner : f.header.role = 1)
include running element partner

theorem presenceBodyTaken_partner : presenceBodyTaken f u = match elementPresenceOf f.body with
    | none => u
    | some (seats, _, _) => u.updateView f.header.sender (PartnerView.takePresence seats u.fieldMs) := by
  have player : u.isPlayer = false := by rw [State.isPlayer_eq, element]; rfl
  have own : u.isElement = true := by rw [State.isElement_eq, element]; rfl
  rw [presenceBodyTaken, if_neg (not_not_intro running), if_pos partner, State.elementSeen]
  rcases elementPresenceOf f.body with _ | ⟨seats, waiting, offers⟩
  · rfl
  · simp only [player, own, Bool.false_eq_true, if_false, if_true]

theorem answerBodyTaken_partner {a : AnswerBody} (read : answerOf f.body = some a) : answerBodyTaken f u =
    u.updateView f.header.sender (PartnerView.takeAnswer (idAt f.body 0) (byteAt f.body 1) a u.fieldMs) := by
  have player : u.isPlayer = false := by rw [State.isPlayer_eq, element]; rfl
  have own : u.isElement = true := by rw [State.isElement_eq, element]; rfl
  simp only [answerBodyTaken, running, ne_eq, not_true_eq_false, if_false, read, player, own, Bool.false_eq_true, partner,
    decide_true, Bool.and_self, if_true]

end Partner

/-- Settles O47: the view takes the frame, and its change is `State.updateView`. -/
theorem partnerViewsAndInterlock : Obligations.PartnerViewsAndInterlock := by
  intro s f u p now running role partner
  have element : u.port.cfg.role = 1 := (congrArg StoredConfig.role (afterHeader_cfg f s)).trans role
  refine ⟨fun arrives => ⟨fun unread => ?_, fun seats waiting offers read => ?_⟩, fun arrives a read => ?_⟩
  · rw [exec_presenceFrame arrives, presenceBodyTaken_partner running element partner, unread]
  · have body := presenceBodyTaken_partner running element partner
    rw [read] at body
    refine ⟨_, (exec_presenceFrame arrives).trans (congrArg Host.Outcome.next body), ?_⟩
    change ViewUpdated p _ u (u.updateView p (PartnerView.takePresence seats now))
    rw [takePresence_eq (elementPresenceOf_bare read)]
    exact updateView_updated ..
  · rw [exec_answerFrame arrives, answerBodyTaken_partner running element partner read, takeAnswer_viewed]
    exact ⟨_, rfl, updateView_updated ..⟩

end Sys2Proof.Machine
end

section
/-! ASK of a known claim, and YIELD (R9, R34 to R36, R41). -/

namespace Sys2Proof.Machine

/-! ## Claims looked up -/

/-- R3: the seat found is the lowest that the player occupies. -/
theorem findSeatOf_lowest (p : NodeId) (m i : Nat) (c : Claim) (l : List Seat)
    (here : l[i]?.bind Seat.claim? = some c) (own : c.player = p)
    (lowest : ∀ j d, j < i → l[j]?.bind Seat.claim? = some d → d.player ≠ p) :
    findSeatOf p m l = some (m + i, c) := by
  induction l generalizing m i with
  | nil => simp at here
  | cons x l ih =>
    cases i with
    | zero =>
      have claim : x.claim? = some c := by simpa using here
      simp [findSeatOf, claim, own]
    | succ i =>
      have rest := ih (m + 1) i (by simpa using here) fun j d below claim =>
        lowest (j + 1) d (Nat.succ_lt_succ below) (by simpa using claim)
      have shift : m + 1 + i = m + (i + 1) := by omega
      rw [shift] at rest
      rcases claim : x.claim? with _ | d
      · simpa [findSeatOf, claim] using rest
      · have other : d.player ≠ p := lowest 0 d (Nat.zero_lt_succ i) (by simpa using claim)
        simpa [findSeatOf, claim, other] using rest

theorem findSeatOf_first (p : NodeId) (m n : Nat) (c : Claim) (l : List Seat) (found : findSeatOf p m l = some (n, c)) :
    ∀ j d, m + j < n → l[j]?.bind Seat.claim? = some d → d.player ≠ p := by
  induction l generalizing m with
  | nil => simp
  | cons x l ih =>
    intro j d below claim
    have later (h : findSeatOf p (m + 1) l = some (n, c)) (k : Nat) (same : j = k + 1) : d.player ≠ p := by
      subst same
      exact ih (m + 1) h k d (by omega) (by simpa using claim)
    rcases first : x.claim? with _ | e
    · cases j with
      | zero => simp [first] at claim
      | succ k => exact later (by simpa [findSeatOf, first] using found) k rfl
    · by_cases own : e.player = p
      · have place : m = n := by simp [findSeatOf, first, own] at found; exact found.1
        omega
      · cases j with
        | zero =>
          obtain rfl : e = d := by simpa [first] using claim
          exact own
        | succ k => exact later (by simpa [findSeatOf, first, own] using found) k rfl

theorem holdsSeat_iff {u : State} {p : NodeId} {n : Nat} {c : Claim} :
    HoldsSeat u p n c ↔ u.seatOf p = some (n, c) := by
  constructor
  · rintro ⟨here, own, lowest⟩
    rw [claimAt_eq] at here
    have found := findSeatOf_lowest p 0 n c u.seat.table here own fun j d below claim =>
      lowest j d below (by rw [claimAt_eq]; exact claim)
    rwa [Nat.zero_add] at found
  · intro found
    obtain ⟨here, own⟩ := State.claimAt_of_seatOf found
    refine ⟨here, own, fun m d below claim => ?_⟩
    rw [claimAt_eq] at claim
    exact findSeatOf_first p 0 n c _ found m d (by omega) claim

theorem State.seatUnder_holds {u : State} {p : NodeId} {n : Nat} {c : Claim} (holds : HoldsSeat u p n c) :
    u.seatUnder p c.number = some (n, c) := by
  simp only [State.seatUnder, holdsSeat_iff.mp holds, if_true]

theorem State.seatUnder_none {u : State} {p : NodeId} {claim : Byte} (none : ¬ SeatedUnder u p claim) :
    u.seatUnder p claim = Option.none := by
  rcases found : u.seatOf p with _ | ⟨n, c⟩
  · simp only [State.seatUnder, found]
  · have other : c.number ≠ claim := fun same => none ⟨n, c, holdsSeat_iff.mpr found, same⟩
    simp only [State.seatUnder, found, if_neg other]

theorem State.entryUnder_waits {u : State} {p : NodeId} {e : Entry} (waits : entryOf u p = some e) :
    u.entryUnder p e.claim = some e := by
  have found : u.entry p = some e := waits
  simp only [State.entryUnder, found, if_true]

theorem State.entryUnder_none {u : State} {p : NodeId} {claim : Byte}
    (other : ∀ e, entryOf u p = some e → e.claim ≠ claim) :
    u.entryUnder p claim = none := by
  rcases found : u.entry p with _ | e
  · simp only [State.entryUnder, found]
  · simp only [State.entryUnder, found, if_neg (other e found)]

theorem lastEndedOf_eq (u : State) (p : NodeId) : lastEndedOf u p = u.lastEnded p := by
  have record : recordOf u p = u.record p := rfl
  rw [lastEndedOf, State.lastEnded, record]
  rcases u.record p with _ | r <;> rfl

/-! ## Frames for the arbiter -/

theorem exec_askFrame {s : State} {f : RxFrame} (arrives : Arrives s f 2) :
    exec .askFrame s = .next (askBody f (afterHeader f s)) := congrArg Host.Outcome.next (State.dispatch_arrives arrives)

theorem exec_yieldFrame {s : State} {f : RxFrame} (arrives : Arrives s f 3) :
    exec .yieldFrame s = .next (yieldBody f (afterHeader f s)) := congrArg Host.Outcome.next (State.dispatch_arrives arrives)

/-- R34, R41: the checks that an ASK and a YIELD share before they meet the arbiter. -/
def arbiterGate (length : Nat) (work : State → State) (f : RxFrame) (u : State) : State :=
  if f.body.length < length then u
  else if !u.isElement || !decide (idAt f.body 0 = u.ownId) then u
  else if f.header.role = 0 ∧ u.port.nodeState = .running then work u
  else u.countArbiterIgnore

theorem askBody_gate (f : RxFrame) (u : State) : askBody f u = arbiterGate 5 (State.checkAsk (askOf f)) f u := rfl

theorem yieldBody_gate (f : RxFrame) (u : State) :
    yieldBody f u = arbiterGate 2 (State.checkYield f.header.sender (byteAt f.body 1)) f u := rfl

section Gate

variable {length : Nat} {work : State → State} {f : RxFrame} {u : State}

theorem arbiterGate_other (other : f.body.length < length ∨ u.port.cfg.role ≠ 1 ∨
    idAt f.body 0 ≠ u.port.cfg.nodeId.setWidth 6) : arbiterGate length work f u = u := by
  by_cases short : f.body.length < length
  · exact if_pos short
  · refine (if_neg short).trans (if_pos ?_)
    rw [State.isElement_eq, State.ownId, Bool.or_eq_true, Bool.not_eq_true', Bool.not_eq_true', decide_eq_false_iff_not,
      decide_eq_false_iff_not]
    exact other.resolve_left short

theorem arbiterGate_target (long : length ≤ f.body.length) (role : u.port.cfg.role = 1)
    (target : idAt f.body 0 = u.port.cfg.nodeId.setWidth 6) : arbiterGate length work f u =
      if f.header.role = 0 ∧ u.port.nodeState = .running then work u else arbiterIgnored u := by
  refine (if_neg (by omega)).trans (if_neg ?_)
  rw [State.isElement_eq, State.ownId, Bool.or_eq_true, Bool.not_eq_true', Bool.not_eq_true', decide_eq_false_iff_not,
    decide_eq_false_iff_not]
  exact fun other => other.elim (fun h => h role) fun h => h target

theorem arbiterGate_ignored (long : length ≤ f.body.length) (role : u.port.cfg.role = 1)
    (target : idAt f.body 0 = u.port.cfg.nodeId.setWidth 6) (unfit : f.header.role ≠ 0 ∨ u.port.nodeState ≠ .running) :
    arbiterGate length work f u = arbiterIgnored u :=
  (arbiterGate_target long role target).trans (if_neg fun h => unfit.elim (fun k => k h.1) fun k => k h.2)

theorem arbiterGate_meets (meets : ForArbiter u f length) : arbiterGate length work f u = work u := by
  obtain ⟨long, role, target, player, running⟩ := meets
  exact (arbiterGate_target long role target).trans (if_pos ⟨player, running⟩)

end Gate

/-! ## YIELD (R41) -/

section Claims

variable {u : State} {p : NodeId} {claim : Byte}

theorem State.checkYield_seated {n : Nat} {c : Claim} (holds : HoldsSeat u p n c) (number : c.number = claim) :
    u.checkYield p claim = u.endSeatAndResolve n .yielded := by
  subst number
  simp only [State.checkYield, State.seatUnder_holds holds]

theorem State.checkYield_waits {e : Entry} (unseated : ¬ SeatedUnder u p claim) (waits : entryOf u p = some e)
    (number : e.claim = claim) : u.checkYield p claim = u.endEntry e .withdrawn := by
  subst number
  simp only [State.checkYield, State.seatUnder_none unseated, State.entryUnder_waits waits]

theorem State.checkYield_past (past : PastOrNew u p claim) : u.checkYield p claim = u.pastYield p claim := by
  simp only [State.checkYield, State.seatUnder_none past.1, State.entryUnder_none past.2]

theorem State.pastYield_known {reason : Reason} (known : lastEndedOf u p = some (claim, reason)) :
    u.pastYield p claim = u.send (.answer p claim (.ended reason.code)) := by
  rw [lastEndedOf_eq] at known
  simp only [State.pastYield, known, if_true]
  rfl

theorem State.pastYield_unknown (unknown : ∀ reason, lastEndedOf u p ≠ some (claim, reason)) :
    u.pastYield p claim = arbiterIgnored u := by
  simp only [lastEndedOf_eq] at unknown
  rcases last : u.lastEnded p with _ | ⟨c, reason⟩
  · simp only [State.pastYield, last]
    rfl
  · have other : c ≠ claim := fun same => unknown reason (by rw [last, same])
    simp only [State.pastYield, last, if_neg other]
    rfl

end Claims

/-- Settles O44: the YIELD finds a seat, an entry, a claim already ended, or none of them. -/
theorem yieldFrameEndsTheClaim : Obligations.YieldFrameEndsTheClaim := by
  intro s f arrives u p claim
  have cfg : u.port.cfg = s.port.cfg := afterHeader_cfg f s
  rw [exec_yieldFrame arrives, yieldBody_gate]
  refine ⟨fun other => ?_, fun long role target unfit => ?_, fun meets => ?_⟩
  · rw [arbiterGate_other (cfg ▸ other)]
  · rw [arbiterGate_ignored long (cfg ▸ role) (cfg ▸ target) unfit]
  · rw [arbiterGate_meets meets]
    refine ⟨fun n c holds number => ?_, fun unseated e waits number => ?_, fun past =>
      ⟨fun reason known => ?_, fun unknown => ?_⟩⟩
    · rw [seatEnds_eq n c .yielded u holds.1, State.checkYield_seated holds number]
    · rw [entryEnded_eq, State.checkYield_waits unseated waits number]
    · rw [State.checkYield_past past, State.pastYield_known known]
    · rw [State.checkYield_past past, State.pastYield_unknown unknown]

end Sys2Proof.Machine
end

section
/-! ASK of a claim that the element knows (R9, R35, R36). -/

namespace Sys2Proof.Machine

section Known

variable {u : State} {a : AskFields}

theorem State.checkAsk_seated {n : Nat} {c : Claim} (holds : HoldsSeat u a.player n c) (number : c.number = a.claim) :
    u.checkAsk a = u.knownSeat a n c := by
  have under := State.seatUnder_holds holds
  rw [number] at under
  simp only [State.checkAsk, under]

theorem State.checkAsk_waits {e : Entry} (unseated : ¬ SeatedUnder u a.player a.claim) (waits : entryOf u a.player = some e)
    (number : e.claim = a.claim) : u.checkAsk a = u.refreshEntry a := by
  have under := State.entryUnder_waits waits
  rw [number] at under
  simp only [State.checkAsk, State.seatUnder_none unseated, under]

theorem State.checkAsk_past (past : PastOrNew u a.player a.claim) : u.checkAsk a = u.pastClaim a := by
  simp only [State.checkAsk, State.seatUnder_none past.1, State.entryUnder_none past.2]

theorem State.pastClaim_known {reason : Reason} (known : lastEndedOf u a.player = some (a.claim, reason)) :
    u.pastClaim a = u.send (.answer a.player a.claim (.ended reason.code)) := by
  rw [lastEndedOf_eq] at known
  simp only [State.pastClaim, known, if_true]
  rfl

theorem State.pastClaim_unknown (unknown : ∀ reason, lastEndedOf u a.player ≠ some (a.claim, reason)) :
    u.pastClaim a = if a.renew then u.denyRenew a .notHeld else u.newClaim a := by
  simp only [lastEndedOf_eq] at unknown
  rcases last : u.lastEnded a.player with _ | ⟨c, reason⟩
  · simp only [State.pastClaim, last]
  · have other : c ≠ a.claim := fun same => unknown reason (by rw [last, same])
    simp only [State.pastClaim, last, if_neg other]

/-! ## The renewal decision (R9) -/

/-- R9: the renewal granted. -/
def State.renews (a : AskFields) (n : Nat) (c : Claim) (x : Seat) (u : State) : State :=
  (budgetCharged a.player (u.port.cfg.offer c.offer).cost.toNat (withSeat u n x.renewed)).send
    (.answer a.player a.claim (.renewed (BitVec.ofNat 16 c.granted)))

theorem State.renewable_iff (u : State) (c : Claim) :
    (u.offer c.offer).offerKind ≠ some .renewable ↔ (u.port.cfg.offer c.offer).kind ≠ 1 :=
  not_congr (offerKindOfCode_renewable _)

theorem renewalDenial_eq {n : Nat} {x : Seat} (place : u.seatAt n = some x) (p : NodeId) (c : Claim) :
    renewalDenial u p n c = if (u.port.cfg.offer c.offer).kind ≠ 1 then some 48
      else if x.isGuard = true then some 49
      else if u.arb.waiting.any u.eligible = true then some 50
      else if u.budgetOf p < (u.port.cfg.offer c.offer).cost.toNat then some 39 else none := by
  have held : u.seat.table[n]? = some x := place
  have record : recordOf u p = u.record p := rfl
  rcases found : u.record p with _ | r
  all_goals
    rw [found] at record
    simp only [renewalDenial, held, record, State.budgetOf, found]
    cases x <;> rfl

theorem State.renewSeat_eq {n : Nat} {x : Seat} (place : u.seatAt n = some x) (c : Claim) :
    u.renewSeat a n c = (renewalDenial u a.player n c).elim (u.renews a n c x)
      fun reason => u.send (.answer a.player a.claim (.renewDenied reason)) := by
  rw [renewalDenial_eq place, State.renewSeat]
  simp only [State.renewable_iff, place]
  by_cases kind : (u.port.cfg.offer c.offer).kind ≠ 1
  · rw [if_pos kind, if_pos kind]
    rfl
  · rw [if_neg kind, if_neg kind]
    by_cases guarded : x.isGuard = true
    · rw [if_pos guarded, if_pos guarded]
      rfl
    · rw [if_neg guarded, if_neg guarded]
      by_cases others : u.arb.waiting.any u.eligible = true
      · rw [if_pos others, if_pos others]
        rfl
      · rw [if_neg others, if_neg others]
        by_cases spent : u.budgetOf a.player < (u.port.cfg.offer c.offer).cost.toNat
        · exact (if_pos spent).trans (by rw [if_pos spent]; rfl)
        · exact (if_neg spent).trans (by rw [if_neg spent]; rfl)

theorem HoldsSeat.place {p : NodeId} {n : Nat} {c : Claim} (holds : HoldsSeat u p n c) : ∃ x, u.seatAt n = some x := by
  obtain ⟨x, place, -⟩ := claimAt_some_iff.mp holds.1
  exact ⟨x, place⟩

end Known

/-- Settles O42: the claim is on a seat, in an entry or past, and a renewal by its denial. -/
theorem askOfAKnownClaim : Obligations.AskOfAKnownClaim := by
  intro s f arrives u p claim renew
  have cfg : u.port.cfg = s.port.cfg := afterHeader_cfg f s
  rw [exec_askFrame arrives, askBody_gate]
  refine ⟨fun other => ?_, fun long role target unfit => ?_, fun meets => ?_⟩
  · rw [arbiterGate_other (cfg ▸ other)]
  · rw [arbiterGate_ignored long (cfg ▸ role) (cfg ▸ target) unfit]
  · rw [arbiterGate_meets meets]
    refine ⟨fun n c holds number again => ?_, fun n c holds number renews => ?_, fun unseated e waits number => ?_,
      fun past => ⟨fun reason known => ?_, fun unknown renews => ?_⟩⟩
    · rw [State.checkAsk_seated (a := askOf f) holds number]
      exact congrArg Host.Outcome.next (if_neg (by rw [show (askOf f).renew = false from again]; decide))
    · obtain ⟨x, place⟩ := holds.place
      have decided := State.renewSeat_eq (a := askOf f) place c
      have asks : u.knownSeat (askOf f) n c = u.renewSeat (askOf f) n c := if_pos renews
      rw [State.checkAsk_seated (a := askOf f) holds number, asks, decided]
      refine ⟨fun reason denied => ?_, fun granted pulse r h held => ?_⟩
      · rw [show renewalDenial u (askOf f).player n c = some reason from denied]
        rfl
      · rw [show renewalDenial u (askOf f).player n c = none from granted]
        obtain rfl : x = .held c pulse r h := Option.some.inj (place.symm.trans held)
        rfl
    · rw [State.checkAsk_waits (a := askOf f) unseated waits number]
      rfl
    · rw [State.checkAsk_past (a := askOf f) past, State.pastClaim_known (a := askOf f) known]
      rfl
    · rw [State.checkAsk_past (a := askOf f) past, State.pastClaim_unknown (a := askOf f) unknown]
      exact congrArg Host.Outcome.next (if_pos renews)

end Sys2Proof.Machine
end

section
/-! ASK of a new claim (R25, R35 checks 6 to 15, R37 to R39). -/

namespace Sys2Proof.Machine

/-! ## The checks before the record (R35 checks 6 to 10) -/

theorem restrictionOfCode_red (c : Byte) : restrictionOfCode c.toNat = some .red ↔ c = 1 := by revert c; decide

theorem restrictionOfCode_blue (c : Byte) : restrictionOfCode c.toNat = some .blue ↔ c = 2 := by revert c; decide

theorem OfferSlot.admits_iff (o : OfferSlot) (alliance : BitVec 2) : (!o.admits alliance) = true ↔
    (o.restriction = 1 ∧ alliance ≠ 1) ∨ (o.restriction = 2 ∧ alliance ≠ 2) := by
  rw [Bool.not_eq_true']
  by_cases red : o.restriction = 1
  · have code := (restrictionOfCode_red _).mpr red
    have row : o.admits alliance = decide (alliance = 1) := by simp only [OfferSlot.admits, code]
    rw [row, decide_eq_false_iff_not]
    exact ⟨fun other => .inl ⟨red, other⟩,
      fun h => h.elim And.right fun k => absurd (red.symm.trans k.1) (by decide)⟩
  · by_cases blue : o.restriction = 2
    · have code := (restrictionOfCode_blue _).mpr blue
      have row : o.admits alliance = decide (alliance = 2) := by simp only [OfferSlot.admits, code]
      rw [row, decide_eq_false_iff_not]
      exact ⟨fun other => .inr ⟨blue, other⟩, fun h => h.elim (fun k => absurd k.1 red) And.right⟩
    · have notRed := mt (restrictionOfCode_red _).mp red
      have notBlue := mt (restrictionOfCode_blue _).mp blue
      have any : o.admits alliance = true := by
        unfold OfferSlot.admits
        split
        · next code => exact absurd code notRed
        · next code => exact absurd code notBlue
        · rfl
        · rfl
      simp only [any, red, blue, false_and, or_self, Bool.true_eq_false]

section New

variable {u : State} {f : RxFrame}

/-- R37: the refusal of an ASK. -/
def askRefused (f : RxFrame) (reason : Byte) (u : State) : State :=
  u.send (.answer f.header.sender (byteAt f.body 1) (.refused reason))

theorem State.refuseAsk_eq (reason : Reason) (u : State) : u.refuseAsk (askOf f) reason = askRefused f reason.code u := rfl

theorem earlyRefusal_eq (f : RxFrame) (u : State) : earlyRefusal u f =
    if (askOf f).level = 7 then some 32
    else if u.offerCount ≤ (askOf f).offer then some 33
    else if (!(u.offer (askOf f).offer).admits (askOf f).alliance) = true then some 34
    else if u.phase.phase = .prematch ∨ u.phase.phase = .ended ∨ u.openNow (u.offer (askOf f).offer) = false then some 35
    else if (u.record (askOf f).player).isNone = true ∧ 24 ≤ u.arb.ring.length then some 36
    else none := by
  simp only [OfferSlot.admits_iff, State.openNow_eq, Option.isNone_iff_eq_none]
  rfl

theorem State.newClaim_eq (f : RxFrame) (u : State) : u.newClaim (askOf f) = (earlyRefusal u f).elim
    ((u.ensureRecord (askOf f).player).askStanding (askOf f)) fun reason => askRefused f reason u := by
  rw [earlyRefusal_eq, State.newClaim]
  repeat' split
  all_goals rfl

theorem earlyRefusal_room (f : RxFrame) (u : State) (admitted : earlyRefusal u f = none) :
    ¬ ((u.record (askOf f).player).isNone = true ∧ 24 ≤ u.arb.ring.length) := by
  intro full
  rw [earlyRefusal_eq, if_pos full] at admitted
  repeat' split at admitted
  all_goals exact absurd admitted (Option.some_ne_none _)

/-! ## The record (R25) -/

/-- The state with the player's record in the ring. -/
def State.recorded (p : NodeId) (u : State) : State := { u with arb := { u.arb with ring := ringWith u p } }

theorem State.ensureRecord_eq (p : NodeId) (room : ¬ ((u.record p).isNone = true ∧ 24 ≤ u.arb.ring.length)) :
    u.ensureRecord p = u.recorded p := by
  have known : (recordOf u p).isSome = (u.record p).isSome := rfl
  rcases found : (u.record p).isSome with _ | _
  · have none' : (u.record p).isNone = true := by rw [Option.isNone_iff_eq_none]; simpa using found
    have few : ¬ 24 ≤ u.arb.ring.length := fun full => room ⟨none', full⟩
    rw [State.recorded, ringWith, known, found, State.ensureRecord, found, if_neg (by simpa using few)]
    rfl
  · rw [State.recorded, ringWith, known, found, State.ensureRecord, found, if_pos (.inl rfl)]
    rfl

theorem State.recorded_record (p : NodeId) (u : State) : ((u.recorded p).record p).isSome = true := by
  rw [State.record, State.recorded, List.find?_isSome]
  rcases found : u.record p with _ | r
  · have unknown : recordOf u p = none := found
    simp [ringWith, unknown]
  · have known : recordOf u p = some r := found
    refine ⟨r, ?_, List.find?_some (p := fun r : StandingRecord => decide (r.player = p)) known⟩
    simp only [ringWith, known, Option.isSome_some, if_true]
    exact List.mem_of_find?_eq_some known

/-! ## The checks after the record (R35 checks 11 to 14) -/

theorem State.seatOf_isSome (p : NodeId) (u : State) : (u.seatOf p).isSome = true ↔
    (List.range u.seat.table.length).any (fun n => (claimAt u n).any fun c => decide (c.player = p)) = true := by
  simp only [List.any_eq_true, List.mem_range, Option.any_eq_true, decide_eq_true_eq]
  constructor
  · intro some'
    obtain ⟨⟨n, c⟩, found⟩ := Option.isSome_iff_exists.mp some'
    obtain ⟨here, own⟩ := State.claimAt_of_seatOf found
    obtain ⟨x, place, -⟩ := claimAt_some_iff.mp here
    exact ⟨n, (List.getElem?_eq_some_iff.mp place).1, c, here, own⟩
  · rintro ⟨n, -, c, here, own⟩
    rcases found : u.seatOf p with _ | _
    · obtain ⟨x, place, claim⟩ := claimAt_some_iff.mp here
      refine absurd (List.mem_filterMap.mpr ⟨x, List.mem_of_getElem? place, ?_⟩) (findSeatOf_none p 0 _ found)
      rw [Seat.holder?, claim, Option.map_some, own]
    · rfl

/-- The state once the ASK's entry stands in the waiting list. -/
def State.listed (e : Entry) (u : State) : State := { u with arb :=
  if (u.entry e.player).isSome then { u.arb with
    waiting := u.arb.waiting.map (fun x => if x.player = e.player then e else x)
    ring := ringWith u e.player }
  else { u.arb with
    waiting := u.arb.waiting ++ [e]
    ring := (ringWith u e.player).map fun r => if r.player = e.player then { r with engagement := .waiting } else r } }

theorem State.replaceEntry_eq {a : AskFields} (waits : (u.entry a.player).isSome = true) :
    (u.recorded a.player).replaceEntry a = (u.listed (u.entryFor a)).resolveThenWait a := by
  rw [State.listed, if_pos (show (u.entry (u.entryFor a).player).isSome = true from waits)]
  rfl

theorem State.appendEntry_eq {a : AskFields} (new : ¬ (u.entry a.player).isSome = true) :
    (u.recorded a.player).appendEntry a = (u.listed (u.entryFor a)).resolveThenWait a := by
  rw [State.listed, if_neg (show ¬ (u.entry (u.entryFor a).player).isSome = true from new)]
  rfl

theorem lateRefusal_eq {p : NodeId} {cost : Nat} {r : StandingRecord} (known : (u.recorded p).record p = some r) :
    lateRefusal u p cost = if r.ejected = true then some 37 else if r.benched = true then some 38
      else if r.budget < cost then some 39
      else if (u.seatOf p).isSome = true then some 40
      else if (u.entry p).isSome = true then none
      else if 16 ≤ u.arb.waiting.length then some 41 else none := by
  have found : (ringWith u p).find? (fun r => decide (r.player = p)) = some r := known
  have entry : entryOf u p = u.entry p := rfl
  simp only [lateRefusal, found, State.seatOf_isSome, StandingRecord.benched_iff, entry]
  rcases u.entry p with _ | e <;> simp

/-- R35 checks 11 to 15 of a player whose record is in the ring. -/
theorem State.askStanding_eq (f : RxFrame) (u : State) :
    (u.recorded f.header.sender).askStanding (askOf f) =
      (lateRefusal u f.header.sender (u.port.cfg.offer (askOf f).offer).cost.toNat).elim
        ((u.listed (u.entryFor (askOf f))).resolveThenWait (askOf f)) fun reason =>
         askRefused f reason (u.recorded f.header.sender) := by
  obtain ⟨r, known⟩ := Option.isSome_iff_exists.mp (u.recorded_record f.header.sender)
  have found : (u.recorded f.header.sender).record (askOf f).player = some r := known
  have seat : (u.recorded f.header.sender).seatOf (askOf f).player = u.seatOf f.header.sender := rfl
  have entry : (u.recorded f.header.sender).entry (askOf f).player = u.entry f.header.sender := rfl
  have waiting : (u.recorded f.header.sender).arb.waiting = u.arb.waiting := rfl
  rw [lateRefusal_eq known]
  simp only [State.askStanding, found, State.admitAsk, seat, entry, waiting]
  by_cases ejected : r.ejected = true
  · rw [if_pos ejected, if_pos ejected]
    rfl
  rw [if_neg ejected, if_neg ejected]
  by_cases benched : r.benched = true
  · rw [if_pos benched, if_pos benched]
    rfl
  rw [if_neg benched, if_neg benched]
  by_cases spent : r.budget < (u.port.cfg.offer (askOf f).offer).cost.toNat
  · rw [if_pos spent]
    exact if_pos spent
  rw [if_neg spent]
  refine (if_neg spent).trans ?_
  by_cases seated : (u.seatOf f.header.sender).isSome = true
  · rw [if_pos seated, if_pos seated]
    rfl
  rw [if_neg seated, if_neg seated]
  by_cases waits : (u.entry f.header.sender).isSome = true
  · rw [if_pos waits, if_pos waits]
    exact State.replaceEntry_eq (a := askOf f) waits
  rw [if_neg waits, if_neg waits]
  by_cases full : 16 ≤ u.arb.waiting.length
  · rw [if_pos full, if_pos full]
    rfl
  rw [if_neg full, if_neg full]
  exact State.appendEntry_eq (a := askOf f) waits

/-! ## The resolution that follows (R38, R39, R46) -/

theorem State.listed_entry (e : Entry) (u : State) : ((u.listed e).entry e.player).isSome = true := by
  rw [State.entry, List.find?_isSome, State.listed]
  by_cases waits : (u.entry e.player).isSome = true
  · obtain ⟨x, found⟩ := Option.isSome_iff_exists.mp waits
    have own : x.player = e.player :=
      of_decide_eq_true (List.find?_some (p := fun x : Entry => decide (x.player = e.player)) found)
    rw [if_pos waits]
    exact ⟨e, List.mem_map.mpr ⟨x, List.mem_of_find?_eq_some found, if_pos own⟩, decide_eq_true rfl⟩
  · rw [if_neg waits]
    exact ⟨e, by simp, decide_eq_true rfl⟩

/-- R38: a player that does not wait does not come to wait by a resolution. -/
theorem waitsNowhere_stable (p : NodeId) : StableAtSeats fun s => ∀ e ∈ s.arb.waiting, e.player ≠ p where
  endSeat n reason s h := by
    rw [(s.endSeat_arb n reason).1]
    exact h
  grant n e s _ h := by
    rw [grant_eq, (granted_arb n e s).1]
    exact fun x member => h x ((List.mem_filter.mp member).1)
  mapViews _ _ h := h

theorem State.entry_none {p : NodeId} {s : State} (h : ∀ e ∈ s.arb.waiting, e.player ≠ p) : s.entry p = none := by
  refine List.find?_eq_none.mpr fun e member => ?_
  rw [decide_eq_true_eq]
  exact h e member

theorem granted_leavesList (n : Nat) (e : Entry) (s : State) : (granted n e s).resolve.entry e.player = none := by
  refine State.entry_none ((waitsNowhere_stable e.player).resolve _ fun x member => ?_)
  rw [(granted_arb n e s).1] at member
  exact of_decide_eq_true (List.mem_filter.mp member).2

end New

theorem clampHold_eq (units maxHold : Half) : clampHold units maxHold =
    if units.toNat = 0 then maxHold.toNat else min (units.toNat * 100) maxHold.toNat := by
  have zero : units = 0 ↔ units.toNat = 0 := by
    rw [← BitVec.toNat_inj]
    rfl
  rw [clampHold]
  exact ite_of_iff zero rfl rfl

/-- R38, R39: the entry an ASK asks for. -/
def entryAsked (f : RxFrame) (u : State) : Entry :=
  let o := u.port.cfg.offer ((byteAt f.body 2).toNat % 4)
  let units := (halfAt f.body 3).toNat
  { player := f.header.sender
    claim := byteAt f.body 1
    offer := (byteAt f.body 2).toNat % 4
    hold := if units = 0 then o.maxHold.toNat else min (units * 100) o.maxHold.toNat
    refreshed := u.time.ft / 1000 }

theorem entryFor_asked (f : RxFrame) (u : State) : u.entryFor (askOf f) = entryAsked f u := by
  rw [State.entryFor, clampHold_eq]
  rfl

/-- R46: what follows once the entry stands in the list. -/
theorem newClaimIsListed {f : RxFrame} {u s : State} {e : Entry} (own : e.player = f.header.sender)
    (run : exec .askFrame s = .next ((u.listed e).resolveThenWait (askOf f))) :
    let p := f.header.sender
    let claim := byteAt f.body 1
    let listed := u.listed e
    let r := listed.resolve
    ((entryOf r p).isSome = true → exec .askFrame s = .next (r.send (.answer p claim (r.waitingAnswer p)))) ∧
    (entryOf r p = none → exec .askFrame s = .next r) ∧
    (u.gateOpen = false ∨ (∀ x ∈ u.seat.table, x ≠ .free) →
      exec .askFrame s = .next (listed.send (.answer p claim (listed.waitingAnswer p)))) ∧
    (∀ n, u.gateOpen = true → u.seat.table[n]? = some .free → (∀ m, m < n → u.seat.table[m]? ≠ some .free) →
      listed.chosen = some e → exec .askFrame s = .next (granted n e listed).resolve) := by
  intro p claim listed r
  have tells : (entryOf r p).isSome = true →
      exec .askFrame s = .next (r.send (.answer p claim (r.waitingAnswer p))) := fun waits =>
    run.trans (congrArg Host.Outcome.next (if_pos waits))
  have silent : entryOf r p = none → exec .askFrame s = .next r := fun gone => by
    have gone' : ¬ ((u.listed e).resolve.entry p).isSome = true := by
      rw [show (u.listed e).resolve.entry p = none from gone]
      decide
    exact run.trans (congrArg Host.Outcome.next (if_neg gone'))
  refine ⟨tells, silent, fun stops => ?_, fun n opened free lowest chosen => ?_⟩
  · have same : r = listed :=
      stops.elim (State.resolve_gateClosed (u.listed e)) (State.resolve_noFree (u.listed e))
    have waits := tells
    rw [same] at waits
    have here : ((u.listed e).entry f.header.sender).isSome = true := own ▸ State.listed_entry e u
    exact waits here
  · have first : firstFree 0 listed.seat.table = some n :=
      (firstFree_of_lowest 0 n u.seat.table free lowest).trans (congrArg some (Nat.zero_add n))
    have grants : r = (granted n e listed).resolve := by
      rw [← grant_eq]
      exact State.resolve_grants (s := u.listed e) opened first chosen
    rw [← grants]
    refine silent ?_
    rw [grants]
    have left : (granted n e (u.listed e)).resolve.entry f.header.sender = none := own ▸ granted_leavesList n e _
    exact left

/-- Settles O43: the checks in their order, then the list and its resolution. -/
theorem askOfANewClaim : Obligations.AskOfANewClaim := by
  intro s f arrives meets u p claim o units entry ring past unknown first
  have body : askBody f u = u.newClaim (askOf f) := by
    rw [askBody_gate, arbiterGate_meets meets, State.checkAsk_past (a := askOf f) past,
      State.pastClaim_unknown (a := askOf f) unknown]
    exact if_neg (by rw [show (askOf f).renew = false from first]; decide)
  have run : exec .askFrame s = .next (u.newClaim (askOf f)) :=
    (exec_askFrame arrives).trans (congrArg Host.Outcome.next body)
  rw [State.newClaim_eq] at run
  refine ⟨fun reason early => ?_, fun admitted => ?_⟩
  · rw [early] at run
    exact run
  rw [admitted, State.ensureRecord_eq _ (earlyRefusal_room f u admitted)] at run
  have standing := run.trans (congrArg Host.Outcome.next (State.askStanding_eq f u))
  refine ⟨fun reason late => ?_, fun late => ?_⟩
  · have late' : lateRefusal u f.header.sender (u.port.cfg.offer (askOf f).offer).cost.toNat = some reason := late
    rw [late'] at standing
    exact standing
  · have late' : lateRefusal u f.header.sender (u.port.cfg.offer (askOf f).offer).cost.toNat = none := late
    rw [late', entryFor_asked] at standing
    exact newClaimIsListed rfl standing

end Sys2Proof.Machine
end

section
/-! MARK and HALT frames (R118 to R121, R128). -/

namespace Sys2Proof.Machine

theorem exec_markFrame {s : State} {f : RxFrame} (arrives : Arrives s f 5) :
    exec .markFrame s = .next (markBody f (afterHeader f s)) := congrArg Host.Outcome.next (State.dispatch_arrives arrives)

theorem exec_haltFrame {s : State} {f : RxFrame} (arrives : Arrives s f 8) :
    exec .haltFrame s = .next (haltBody f (afterHeader f s)) := congrArg Host.Outcome.next (State.dispatch_arrives arrives)

section Mark

variable {f : RxFrame} {u : State}

theorem markBody_judged {new : Phase} (whole : 6 ≤ f.body.length) (named : phaseOfCode (byteAt f.body 1).toNat = some new)
    (referee : f.header.role = 2) : markBody f u = u.judgeMark (byteAt f.body 0) new (quadAt f.body 2) := by
  rw [markBody, if_neg (Nat.not_lt.mpr whole), named]
  exact if_pos referee

theorem markBody_ignored (whole : 6 ≤ f.body.length)
    (stray : phaseOfCode (byteAt f.body 1).toNat = none ∨ f.header.role ≠ 2) : markBody f u = u.countMarkIgnore := by
  rw [markBody, if_neg (Nat.not_lt.mpr whole)]
  rcases named : phaseOfCode (byteAt f.body 1).toNat with _ | new
  · rfl
  · exact if_neg (stray.resolve_left (by rw [named]; exact Option.some_ne_none new))

end Mark

theorem marksAreJudged : MarksAreJudged := by
  intro s f arrives u seq carried boundary ignored conflict
  have runs {t : State} (body : markBody f u = t) : exec .markFrame s = .next t :=
    (exec_markFrame arrives).trans (congrArg Host.Outcome.next body)
  refine ⟨fun short => runs (if_pos short), fun whole => ⟨fun stray => runs (markBody_ignored whole stray),
    fun new named referee => ?_⟩⟩
  have judged {t : State} (judgment : u.judgeMark seq new carried = t) : exec .markFrame s = .next t :=
    runs ((markBody_judged whole named referee).trans judgment)
  refine ⟨fun newer => ?_, fun old => ⟨fun m pending same => ?_, fun other => ?_⟩⟩
  · have taken {t : State} (take : u.takeMark seq new carried = t) : exec .markFrame s = .next t :=
      judged ((State.judgeMark_newer new carried newer).trans take)
    exact ⟨fun early => taken (State.takeMark_waits seq new carried u early),
      fun reached ended prematch => taken (State.takeMark_refused seq new carried u reached ended prematch),
      fun reached allowed => ⟨_, taken (State.takeMark_applied seq new carried u reached allowed),
        State.applyMark_applied seq new (some carried) u⟩⟩
  · have settles := State.judgeMark_ofPending new carried old pending same
    exact ⟨fun phase quad => judged (settles.trans (if_pos ⟨phase, quad⟩)),
      fun differs => judged (settles.trans (if_neg fun h => differs.elim (absurd h.1) (absurd h.2)))⟩
  · have settles {t : State} (current : u.judgeCurrent seq new carried = t) : exec .markFrame s = .next t :=
      judged ((State.judgeMark_ofCurrent new carried old other).trans current)
    exact ⟨fun stray => settles (State.judgeCurrent_ignored new carried stray),
      fun same phase quad => settles (State.judgeCurrent_repeated same ⟨phase, quad⟩),
      fun same differs => settles (State.judgeCurrent_conflict same (by grind))⟩

/-- Settles O48: the rebuilt boundary, and the judgment of a MARK by R118. -/
theorem markFrameIsJudged : Obligations.MarkFrameIsJudged := ⟨boundaryIsTheNearest, marksAreJudged⟩

/-! ## HALT -/

theorem State.setLatch_latched {s : State} (latched : s.phase.latch = true) : s.setLatch = s := if_pos latched

theorem State.setLatch_clear {s : State} (clear : s.phase.latch = false) :
    s.setLatch = (s.mapPhase fun u => { u with latch := true }).setFlag .haltChanged := if_neg (by simp [clear])

theorem State.noteHalt_latched {s : State} (latched : s.phase.latch = true) :
    s.noteHalt = { s with phase := { s.phase with latch := true, lastHalt := some s.time.ft } } := by
  simp only [State.noteHalt, State.mapPhase, ← latched]

/-- Settles O49: a HALT sets the latch and notes its time. -/
theorem haltFrameSetsTheLatch : Obligations.HaltFrameSetsTheLatch := by
  intro s f arrives u h
  refine ⟨fun latched => (exec_haltFrame arrives).trans (congrArg Host.Outcome.next ?_),
    fun clear => (exec_haltFrame arrives).trans (congrArg Host.Outcome.next ?_)⟩
  · exact (congrArg State.noteHalt (State.setLatch_latched latched)).trans (State.noteHalt_latched latched)
  · exact congrArg State.noteHalt (State.setLatch_clear clear)

end Sys2Proof.Machine
end

section
/-! The order test, and TURN frames (R42, R55). -/

namespace Sys2Proof.Machine

theorem exec_sanctionFrame {s : State} {f : RxFrame} (arrives : Arrives s f 6) :
    exec .sanctionFrame s = .next (sanctionBody f (afterHeader f s)) :=
  congrArg Host.Outcome.next (State.dispatch_arrives arrives)

theorem exec_turnFrame {s : State} {f : RxFrame} (arrives : Arrives s f 7) :
    exec .turnFrame s = .next (turnBody f (afterHeader f s)) := congrArg Host.Outcome.next (State.dispatch_arrives arrives)

/-! ## The order test (R55) -/

theorem orderAdopted_eq (u : State) (id : NodeId) (seq : Byte) : orderAdopted u id seq = u.adoptOrder id seq := rfl

theorem newer_irrefl (seq : Byte) : newer seq seq = false := by simp [newer]

/-- The referee slot that an order frame is tested against. -/
def State.orderSlot (u : State) (id : NodeId) : Option RefSlot := u.peers.referees.find? fun r => decide (r.id = id)

section Order

variable {u : State} {h : Header} {seq : Byte} {take : State → State}

theorem State.testOrder_stray (stray : h.role ≠ 2 ∨ u.orderSlot h.sender = none) :
    u.testOrder h seq take = orderIgnored u := by
  by_cases referee : h.role = 2
  · have unknown : u.peers.referees.find? (fun r => decide (r.id = h.sender)) = none :=
      stray.resolve_left (not_not_intro referee)
    rw [State.testOrder, if_neg (not_not_intro referee), unknown]
    rfl
  · exact if_pos referee

theorem State.testOrder_known {r : RefSlot} (referee : h.role = 2) (found : u.orderSlot h.sender = some r) :
    u.testOrder h seq take = r.lastSeq.elim (take (orderAdopted u h.sender seq)) fun last =>
      if newer seq last then take (orderAdopted u h.sender seq) else if seq = last then u else orderIgnored u := by
  have known : u.peers.referees.find? (fun r => decide (r.id = h.sender)) = some r := found
  rw [State.testOrder, if_neg (not_not_intro referee), known]
  rcases last : r.lastSeq with _ | l <;> simp only [last] <;> rfl

theorem State.testOrder_repeated {r : RefSlot} (referee : h.role = 2) (found : u.orderSlot h.sender = some r)
    (last : r.lastSeq = some seq) : u.testOrder h seq take = u := by
  rw [State.testOrder_known referee found, last, Option.elim_some, newer_irrefl]
  exact if_pos rfl

theorem State.testOrder_older {r : RefSlot} {last : Byte} (referee : h.role = 2)
    (found : u.orderSlot h.sender = some r) (noted : r.lastSeq = some last) (other : seq ≠ last)
    (older : newer seq last = false) : u.testOrder h seq take = orderIgnored u := by
  rw [State.testOrder_known referee found, noted, Option.elim_some, older]
  exact if_neg other

theorem State.testOrder_taken {f : RxFrame} (taken : OrderTaken u f seq) :
    u.testOrder f.header seq take = take (orderAdopted u f.header.sender seq) := by
  obtain ⟨referee, r, found, newest⟩ := taken
  rw [State.testOrder_known referee found]
  rcases last : r.lastSeq with _ | l
  · rfl
  · exact if_pos (newest l last)

end Order

/-! ## The bodies of the orders -/

theorem State.takesOrders_iff (u : State) :
    u.takesOrders = true ↔ u.port.nodeState = .running ∨ u.port.nodeState = .test := NodeState.sends_iff _

/-- The order test does not run on a SANCTION or a TURN. -/
theorem orderUntested {u : State} {f : RxFrame} {length : Nat}
    (unmet : ¬ (length ≤ f.body.length ∧ (u.port.nodeState = .running ∨ u.port.nodeState = .test))) :
    f.body.length < length ∨ u.takesOrders = false := by
  rw [← State.takesOrders_iff, Classical.not_and_iff_not_or_not, Nat.not_le, Bool.not_eq_true] at unmet
  exact unmet

theorem orderTested {u : State} {f : RxFrame} {length : Nat} (whole : length ≤ f.body.length)
    (sends : u.port.nodeState = .running ∨ u.port.nodeState = .test) :
    ¬ (f.body.length < length ∨ u.takesOrders = false) := by
  rw [← State.takesOrders_iff] at sends
  simp [sends, whole]

theorem sanctionBody_tested {u : State} {f : RxFrame} {kind : SanctionKind} (whole : 5 ≤ f.body.length)
    (sends : u.port.nodeState = .running ∨ u.port.nodeState = .test) (named : kind.code = byteAt f.body 2) :
    sanctionBody f u = u.testOrder f.header (byteAt f.body 0)
      (State.takeSanction f.header.sender (byteAt f.body 0) (idAt f.body 1) kind (halfAt f.body 3)) := by
  rw [sanctionBody, if_neg (orderTested whole sends), ← named, sanctionKindOfCode_code]

theorem sanctionBody_untested {u : State} {f : RxFrame} (unmet : ¬ (5 ≤ f.body.length ∧
    (u.port.nodeState = .running ∨ u.port.nodeState = .test) ∧
    1 ≤ (byteAt f.body 2).toNat ∧ (byteAt f.body 2).toNat ≤ 3)) : sanctionBody f u = u := by
  by_cases gate : 5 ≤ f.body.length ∧ (u.port.nodeState = .running ∨ u.port.nodeState = .test)
  · have nameless : sanctionKindOfCode (byteAt f.body 2).toNat = none :=
      (sanctionKindOfCode_none _).mpr (Classical.byContradiction fun named =>
        unmet ⟨gate.1, gate.2, by omega, by omega⟩)
    rw [sanctionBody, if_neg (orderTested gate.1 gate.2), nameless]
  · exact if_pos (orderUntested gate)

theorem sanctionKind_of_code {c : Byte} (low : 1 ≤ c.toNat) (high : c.toNat ≤ 3) : ∃ k : SanctionKind, k.code = c := by
  have range : c = 1 ∨ c = 2 ∨ c = 3 := by
    bv_omega
  rcases range with rfl | rfl | rfl
  · exact ⟨.bench, rfl⟩
  · exact ⟨.eject, rfl⟩
  · exact ⟨.clear, rfl⟩

theorem turnBody_tested {u : State} {f : RxFrame} (whole : 3 ≤ f.body.length)
    (sends : u.port.nodeState = .running ∨ u.port.nodeState = .test) :
    turnBody f u = u.testOrder f.header (byteAt f.body 0)
      (State.takeTurn f.header.sender (byteAt f.body 0) (idAt f.body 1) (idAt f.body 2)) := if_neg (orderTested whole sends)

/-! ## The order test of both frames -/

/-- R55: a command that gives an order to the test, with a handling that does nothing at a REFEREE. -/
def TestsOrder (c : Instr) (s u : State) (f : RxFrame) : Prop :=
  ∃ take : State → State, (∀ v : State, v.port.cfg.role = 2 → take v = v) ∧
    exec c s = .next (u.testOrder f.header (byteAt f.body 0) take)

theorem TestsOrder.outcomes {c : Instr} {s u : State} {f : RxFrame} (tests : TestsOrder c s u f) :
    let seq := byteAt f.body 0
    let slot := u.orderSlot f.header.sender
    (f.header.role ≠ 2 ∨ slot = none → exec c s = .next (orderIgnored u)) ∧
    (f.header.role = 2 → ∀ r last, slot = some r → r.lastSeq = some last →
      (seq = last → exec c s = .next u) ∧
      (seq ≠ last → newer seq last = false → exec c s = .next (orderIgnored u))) ∧
    (OrderTaken u f seq → u.port.cfg.role = 2 → exec c s = .next (orderAdopted u f.header.sender seq)) := by
  obtain ⟨take, idle, run⟩ := tests
  intro seq slot
  refine ⟨fun stray => run.trans (congrArg _ (State.testOrder_stray stray)), fun referee r last found noted =>
    ⟨fun same => run.trans (congrArg _ (State.testOrder_repeated referee found (noted.trans (congrArg some same.symm)))),
      fun other older => run.trans (congrArg _ (State.testOrder_older referee found noted other older))⟩,
    fun taken role => run.trans (congrArg _ ((State.testOrder_taken taken).trans (idle _ role)))⟩

theorem State.takeSanction_referee (id : NodeId) (seq : Byte) (p : NodeId) (kind : SanctionKind) (d : Half) (v : State)
    (role : v.port.cfg.role = 2) : v.takeSanction id seq p kind d = v := by
  have code : v.role = some .referee := by rw [State.role, role]; rfl
  rw [State.takeSanction, code]

theorem State.takeTurn_otherRole (id : NodeId) (seq : Byte) (element p : NodeId) (v : State) (role : v.port.cfg.role ≠ 1) :
    v.takeTurn id seq element p = v := by
  have other : v.isElement = false := by rw [State.isElement_eq]; exact decide_eq_false role
  rw [State.takeTurn, other]
  exact if_pos rfl

/-- Settles O50: a SANCTION and a TURN run the same order test. -/
theorem ordersAreTestedAgainstTheirSlot : Obligations.OrdersAreTestedAgainstTheirSlot := by
  intro c kind length member s f arrives u seq slot tested
  have cfg : u.port.cfg = s.port.cfg := afterHeader_cfg f s
  have outcomes (tests : TestsOrder c s u f) := TestsOrder.outcomes tests
  rw [cfg] at outcomes
  simp only [List.mem_cons, Prod.mk.injEq, List.not_mem_nil, or_false] at member
  rcases member with ⟨rfl, rfl, rfl⟩ | ⟨rfl, rfl, rfl⟩
  · have run := exec_sanctionFrame arrives
    refine ⟨fun unmet => ?_, fun met => outcomes ?_⟩
    · rw [run, sanctionBody_untested fun h => unmet ⟨h.1, h.2.1, fun _ => h.2.2⟩]
    · obtain ⟨whole, sends, code⟩ := met
      obtain ⟨low, high⟩ := code rfl
      obtain ⟨k, named⟩ := sanctionKind_of_code low high
      exact ⟨_, State.takeSanction_referee _ _ _ k _, run.trans (congrArg _ (sanctionBody_tested whole sends named))⟩
  · have run := exec_turnFrame arrives
    refine ⟨fun unmet => ?_, fun met => outcomes ?_⟩
    · have gate : ¬ (3 ≤ f.body.length ∧ (u.port.nodeState = .running ∨ u.port.nodeState = .test)) :=
        fun h => unmet ⟨h.1, h.2, fun six => absurd six (by decide)⟩
      exact run.trans (congrArg _ (if_pos (orderUntested gate)))
    · obtain ⟨whole, sends, -⟩ := met
      exact ⟨_, fun v role => State.takeTurn_otherRole _ _ _ _ v (by rw [role]; decide),
        run.trans (congrArg _ (turnBody_tested whole sends))⟩

/-! ## TURN (R42) -/

theorem turnRing_split {p : NodeId} {before after : List StandingRecord} {r : StandingRecord} (own : r.player = p)
    (others : ∀ x ∈ before, x.player ≠ p) : turnRing p (before ++ r :: after) = r :: after ++ before := by
  have skips : ∀ x ∈ before, (!decide (x.player = p)) = true := fun x member => by simp [others x member]
  have stops : (!decide (r.player = p)) = false := by simp [own]
  rw [turnRing, List.dropWhile_append_of_pos skips, List.takeWhile_append_of_pos skips, List.dropWhile_cons,
    List.takeWhile_cons, stops]
  simp

/-- Settles O52: a TURN passes the order test, and turns the ring at the element it names. -/
theorem turnRotatesTheRing : Obligations.TurnRotatesTheRing := by
  intro s f arrives u seq a p whole sends taken
  have cfg : a.port.cfg = s.port.cfg := afterHeader_cfg f s
  have runs {t : State} (take : a.takeTurn f.header.sender seq (idAt f.body 1) p = t) : exec .turnFrame s = .next t := by
    rw [exec_turnFrame arrives, turnBody_tested whole sends, State.testOrder_taken taken]
    exact congrArg Host.Outcome.next take
  have own : a.ownId = s.port.cfg.nodeId.setWidth 6 := by rw [State.ownId, cfg]
  have element : a.isElement = decide (s.port.cfg.role = 1) := by rw [State.isElement_eq, cfg]
  have turn : a.takeTurn f.header.sender seq (idAt f.body 1) p =
      if s.port.cfg.role ≠ 1 ∨ idAt f.body 1 ≠ s.port.cfg.nodeId.setWidth 6 then a
      else if (a.record p).isSome then
        ((a.mapArb fun b => { b with ring := turnRing p b.ring }).postNotice .turnTaken (idByte p) seq
          (f.header.sender.setWidth 16)).resolve
      else a.countArbiterIgnore := by
    rw [State.takeTurn, element, own]
    exact ite_of_iff (by simp) rfl rfl
  refine ⟨fun other => runs (turn.trans (if_pos other)), fun role target => ?_⟩
  have here : ¬ (s.port.cfg.role ≠ 1 ∨ idAt f.body 1 ≠ s.port.cfg.nodeId.setWidth 6) := by simp [role, target]
  rw [if_neg here] at turn
  refine ⟨fun unknown => runs (turn.trans ?_), fun before r after ring player others => runs (turn.trans ?_)⟩
  · have absent : ¬ (a.record p).isSome = true := by
      rw [State.record_isSome, List.mem_map]
      rintro ⟨r, member, player⟩
      exact unknown r member player
    exact if_neg absent
  · have known : (a.record p).isSome = true := by
      rw [State.record_isSome, List.mem_map]
      exact ⟨r, by rw [show a.arb.ring = _ from ring]; simp, player⟩
    have turned : turnRing p a.arb.ring = r :: after ++ before := by
      rw [show a.arb.ring = _ from ring, turnRing_split player others]
    rw [if_pos known]
    simp only [State.mapArb, turned]
    rfl

end Sys2Proof.Machine
end

section
/-! SANCTION frames at a PLAYER and at an ELEMENT (R56 to R60, R89). -/

namespace Sys2Proof.Machine

/-- R55: a SANCTION of a named kind that passes the order test. -/
theorem exec_sanctionFrame_taken {s : State} {f : RxFrame} {kind : SanctionKind} (arrives : Arrives s f 6)
    (whole : 5 ≤ f.body.length)
    (sends : (afterHeader f s).port.nodeState = .running ∨ (afterHeader f s).port.nodeState = .test)
    (taken : OrderTaken (afterHeader f s) f (byteAt f.body 0)) (named : byteAt f.body 2 = kind.code) :
    exec .sanctionFrame s = .next ((orderAdopted (afterHeader f s) f.header.sender (byteAt f.body 0)).takeSanction
      f.header.sender (byteAt f.body 0) (idAt f.body 1) kind (halfAt f.body 3)) := by
  rw [exec_sanctionFrame arrives, sanctionBody_tested whole sends named.symm, State.testOrder_taken taken]

/-! ## At a PLAYER (R89) -/

theorem State.takeSanction_player (id : NodeId) (seq : Byte) (p : NodeId) (kind : SanctionKind) (d : Half) {v : State}
    (role : v.port.cfg.role = 0) : v.takeSanction id seq p kind d = if p = v.ownId then
      posted .sanctioned (id.setWidth 8) seq (kind.code.setWidth 16) (v.sanctionSelf kind d) else v := by
  have code : v.role = some .player := by rw [State.role, role]; rfl
  rw [State.takeSanction, code]
  rfl

theorem sanctionAtAPlayer : SanctionAtAPlayer := by
  intro s f arrives u seq a code ms told whole sends role taken low high
  have cfg : a.port.cfg = s.port.cfg := afterHeader_cfg f s
  have own : a.ownId = s.port.cfg.nodeId.setWidth 6 := by rw [State.ownId, cfg]
  have runs (kind : SanctionKind) (named : code = kind.code) : exec .sanctionFrame s = .next
      (if idAt f.body 1 = s.port.cfg.nodeId.setWidth 6 then
        told (kind.code.setWidth 16) (a.sanctionSelf kind (halfAt f.body 3)) else a) := by
    rw [exec_sanctionFrame_taken arrives whole sends taken named, State.takeSanction_player _ _ _ _ _ (cfg ▸ role),
      ← own]
  refine ⟨fun other => ?_, fun target => ?_⟩
  · obtain ⟨kind, named⟩ := sanctionKind_of_code low high
    exact (runs kind named.symm).trans (congrArg _ (if_neg other))
  · have here (kind : SanctionKind) (named : code = kind.code) := (runs kind named).trans (congrArg _ (if_pos target))
    refine ⟨fun bench => here .bench bench, fun eject => ?_, fun clear => here .clear clear⟩
    rw [allClosed_eq]
    exact here .eject eject

/-! ## At an ELEMENT (R56 to R60) -/

theorem State.takeSanction_element (id : NodeId) (seq : Byte) (p : NodeId) (kind : SanctionKind) (d : Half) {v : State}
    (role : v.port.cfg.role = 1) : v.takeSanction id seq p kind d = v.sanctionElement seq p kind d := by
  have code : v.role = some .element := by rw [State.role, role]; rfl
  rw [State.takeSanction, code]

section Element

variable {a : State} {p : NodeId}

theorem State.notPlayer_iff : a.notPlayer p = true ↔ ∃ x, lookupId p a.peers.slots = some x ∧ x.role ≠ 0 := by
  rw [State.notPlayer]
  rcases lookupId p a.peers.slots with _ | x <;> simp

theorem State.sanctionElement_ignored (seq : Byte) (kind : SanctionKind) (d : Half)
    (barred : (∃ x, lookupId p a.peers.slots = some x ∧ x.role ≠ 0) ∨
      (a.record p = none ∧ 24 ≤ a.arb.ring.length)) : a.sanctionElement seq p kind d = orderIgnored a := by
  rw [State.sanctionElement]
  by_cases other : a.notPlayer p = true
  · exact if_pos other
  · have full := barred.resolve_left (mt State.notPlayer_iff.mpr other)
    rw [if_neg other]
    exact if_pos ⟨by rw [full.1]; rfl, full.2⟩

theorem State.sanctionElement_taken (seq : Byte) (kind : SanctionKind) (d : Half)
    (player : ∀ x, lookupId p a.peers.slots = some x → x.role = 0)
    (room : (a.record p).isSome = true ∨ a.arb.ring.length < 24) : a.sanctionElement seq p kind d =
      posted .sanctionTaken (p.setWidth 8) seq (kind.code.setWidth 16) ((a.recorded p).applySanction p kind d) := by
  have known : ¬ a.notPlayer p = true := by
    rw [State.notPlayer_iff]
    rintro ⟨x, found, other⟩
    exact other (player x found)
  have fits : ¬ ((a.record p).isNone = true ∧ 24 ≤ a.arb.ring.length) := by
    rintro ⟨unknown, full⟩
    rcases room with some' | few
    · rw [Option.isNone_iff_eq_none.mp unknown] at some'
      exact absurd some' (by decide)
    · omega
  rw [State.sanctionElement, if_neg known, if_neg fits, State.ensureRecord_eq p fits]
  rfl

/-- R25: the record that a player has once it is given one, with its bench. -/
theorem State.recorded_record_of {r : StandingRecord} (known : a.record p = some r) : (a.recorded p).record p = some r := by
  have found : recordOf a p = some r := known
  have ring : ringWith a p = a.arb.ring := by rw [ringWith, found]; rfl
  rw [← known, State.record, State.recorded, ring]
  rfl

theorem State.recorded_benched : (∃ r, (a.recorded p).record p = some r ∧ r.benched = true) ↔
    ∃ r, a.record p = some r ∧ 0 < r.bench := by
  rcases known : a.record p with _ | r
  · have found : recordOf a p = none := known
    have absent : a.arb.ring.find? (fun r => decide (r.player = p)) = none := known
    have fresh : ∃ r, (a.recorded p).record p = some r ∧ r.bench = 0 := by
      simp [State.record, State.recorded, ringWith, found, List.find?_append, absent]
    obtain ⟨r, made, clear⟩ := fresh
    simp [made, StandingRecord.benched, clear]
  · rw [State.recorded_record_of known]
    simp [StandingRecord.benched]

/-- R60: a CLEAR resolves when it ends a bench. -/
theorem State.clearBench_ends {v : State} (benched : ∃ r, v.record p = some r ∧ r.benched = true) :
    v.clearBench p = (v.setRecord p fun r => { r with bench := 0 }).resolve := by
  obtain ⟨r, known, bench⟩ := benched
  rw [State.clearBench, known]
  exact if_pos bench

theorem State.clearBench_idle {v : State} (clear : ¬ ∃ r, v.record p = some r ∧ r.benched = true) :
    v.clearBench p = v.setRecord p fun r => { r with bench := 0 } := by
  rcases known : v.record p with _ | r
  · rw [State.clearBench, known]
  · rw [State.clearBench, known]
    exact if_neg fun bench => clear ⟨r, known, bench⟩

/-- R59: an EJECT sets the flag first. -/
def State.flagged (p : NodeId) (v : State) : State := v.setRecord p fun r => { r with ejected := true }

theorem State.eject_seated {v : State} {n : Nat} {c : Claim} (holds : HoldsSeat v p n c) :
    v.eject p = seatEnds n c .sanction (v.flagged p) := by
  have here : claimAt (v.flagged p) n = some c := holds.1
  rw [State.eject, holdsSeat_iff.mp holds, seatEnds_eq n c .sanction _ here]
  rfl

theorem State.eject_waiting {v : State} {e : Entry} (unseated : ∀ n c, ¬ HoldsSeat v p n c) (waits : v.entry p = some e) :
    v.eject p = entryEnded e .sanction (v.flagged p) := by
  have nowhere : v.seatOf p = none := Option.eq_none_iff_forall_ne_some.mpr fun x h => unseated _ _ (holdsSeat_iff.mpr h)
  rw [State.eject, nowhere, waits, entryEnded_eq]
  rfl

theorem State.eject_absent {v : State} (unseated : ∀ n c, ¬ HoldsSeat v p n c) (away : v.entry p = none) :
    v.eject p = v.flagged p := by
  have nowhere : v.seatOf p = none := Option.eq_none_iff_forall_ne_some.mpr fun x h => unseated _ _ (holdsSeat_iff.mpr h)
  rw [State.eject, nowhere, away]
  rfl

end Element

theorem sanctionAtAnElement : SanctionAtAnElement := by
  intro s f arrives u seq a p code ms told standing whole sends role taken low high
  have cfg : a.port.cfg = s.port.cfg := afterHeader_cfg f s
  have runs (kind : SanctionKind) (named : code = kind.code) :
      exec .sanctionFrame s = .next (a.sanctionElement seq p kind (halfAt f.body 3)) := by
    rw [exec_sanctionFrame_taken arrives whole sends taken named, State.takeSanction_element _ _ _ _ _ (cfg ▸ role)]
  refine ⟨fun barred => ?_, fun player room => ?_⟩
  · obtain ⟨kind, named⟩ := sanctionKind_of_code low high
    exact (runs kind named.symm).trans (congrArg _ (State.sanctionElement_ignored (a := a) seq kind _ barred))
  have applies (kind : SanctionKind) (named : code = kind.code) {t : State}
      (applied : (a.recorded p).applySanction p kind (halfAt f.body 3) = t) :
      exec .sanctionFrame s = .next (told (kind.code.setWidth 16) t) := by
    rw [← applied]
    exact (runs kind named).trans (congrArg _ (State.sanctionElement_taken (a := a) seq kind _ player room))
  refine ⟨fun bench => applies .bench bench rfl, fun eject => ?_, fun clear => ?_⟩
  · exact ⟨fun n c holds => applies .eject eject (State.eject_seated (v := a.recorded p) holds),
      fun unseated => ⟨fun e waits => applies .eject eject (State.eject_waiting (v := a.recorded p) unseated waits),
        fun away => applies .eject eject (State.eject_absent (v := a.recorded p) unseated away)⟩⟩
  · refine ⟨fun benched => applies .clear clear (State.clearBench_ends (v := a.recorded p)
        (State.recorded_benched.mpr benched)),
      fun free => applies .clear clear (State.clearBench_idle (v := a.recorded p) ?_)⟩
    rw [State.recorded_benched]
    rintro ⟨r, known, bench⟩
    exact absurd (free r known) (Nat.ne_of_gt bench)

/-- Settles O51: a SANCTION by the role of the node that takes it. -/
theorem sanctionsByRole : Obligations.SanctionsByRole := ⟨sanctionAtAPlayer, sanctionAtAnElement⟩

end Sys2Proof.Machine
end

section
/-! PRESENCE frames at a PLAYER, and those of players and referees (R70, R71, R84, R142, R143, R166). -/

namespace Sys2Proof.Machine

/-! ## The element view (R70, R71, R84) -/

/-- R84: a PRESENCE body shows a player on a seat. -/
def ShowsSeat (seats : List ViewSeat) (n : Nat) (p : NodeId) : Prop :=
  ∃ x, seats[n]? = some x ∧ (x.state = 1 ∨ x.state = 2) ∧ x.holder = some p

theorem ViewEntry.confirms_iff (v : ViewEntry) (n : Nat) (p : NodeId) : v.confirms n p = true ↔ ShowsSeat v.seats n p := by
  rw [ViewEntry.confirms, ShowsSeat]
  rcases v.seats[n]? with _ | x <;> simp [ViewSeat.occupied]

section View

variable {u : State} {id : NodeId} {v : ViewEntry}

theorem State.checkSeat_lost {r : Request} (found : u.request id = some r) (seated : r.state = .seated)
    (lost : ¬ ShowsSeat v.seats r.seat.toNat u.ownId) : u.checkSeat id v = closed r .ended 16 u := by
  have unconfirmed : v.confirms r.seat.toNat u.ownId = false :=
    Bool.eq_false_iff.mpr (mt (ViewEntry.confirms_iff ..).mp lost)
  rw [State.checkSeat, found, closed_eq]
  exact if_pos ⟨seated, unconfirmed⟩

theorem State.checkSeat_kept (kept : ∀ r, u.request id = some r →
    r.state ≠ .seated ∨ ShowsSeat v.seats r.seat.toNat u.ownId) :
    u.checkSeat id v = u := by
  rcases found : u.request id with _ | r
  · rw [State.checkSeat, found]
  · rw [State.checkSeat, found]
    refine if_neg fun lost => ?_
    obtain ⟨seated, unconfirmed⟩ := lost
    refine (kept r found).elim (absurd seated) fun shows => ?_
    rw [(ViewEntry.confirms_iff ..).mpr shows] at unconfirmed
    exact absurd unconfirmed (by decide)

/-- The state whose element view holds an entry. -/
def State.viewed (id : NodeId) (v : ViewEntry) (u : State) : State :=
  u.mapReq fun r => { r with view := insertId id v r.view }

/-- R70: the silent mark that an updated entry keeps. -/
def State.viewSilent (id : NodeId) (u : State) : Bool := (lookupId id u.req.view).elim false ViewEntry.silent

theorem State.takeView_full (seats : List ViewSeat) (waiting : Byte) (offers : List ViewOffer)
    (unknown : lookupId id u.req.view = none) (full : 32 ≤ u.req.view.length) :
    u.takeView id seats waiting offers = u.mapReq fun r => { r with viewIgnore := inc16 r.viewIgnore } := by
  rw [State.takeView, unknown]
  exact if_neg (Nat.not_lt.mpr full)

theorem State.takeView_room (seats : List ViewSeat) (waiting : Byte) (offers : List ViewOffer)
    (room : (lookupId id u.req.view).isSome = true ∨ u.req.view.length < 32) :
    u.takeView id seats waiting offers =
      let v := viewEntryFrom seats waiting offers u.fieldMs (u.viewSilent id)
      (u.viewed id v).checkSeat id v := by
  rw [State.viewSilent, State.takeView]
  rcases known : lookupId id u.req.view with _ | old
  · rw [known] at room
    exact if_pos (room.resolve_left (by decide))
  · rfl

end View

section Player

variable {u : State} {f : RxFrame} (running : u.port.nodeState = .running) (player : u.port.cfg.role = 0)
  (element : f.header.role = 1)
include running element

theorem presenceBodyTaken_short (short : elementPresenceOf f.body = none) : presenceBodyTaken f u = u := by
  rw [presenceBodyTaken, if_neg (not_not_intro running), if_pos element, State.elementSeen, short]

include player

theorem presenceBodyTaken_player {seats : List ViewSeat} {waiting : Byte} {offers : List ViewOffer}
    (read : elementPresenceOf f.body = some (seats, waiting, offers)) :
    presenceBodyTaken f u = u.takeView f.header.sender seats waiting offers := by
  have own : u.isPlayer = true := by rw [State.isPlayer_eq, player]; rfl
  rw [presenceBodyTaken, if_neg (not_not_intro running), if_pos element, State.elementSeen, read]
  exact if_pos own

end Player

theorem presenceUpdatesTheElementView : PresenceUpdatesTheElementView := by
  intro s f arrives u p
  have runs {t : State} (body : presenceBodyTaken f u = t) : exec .presenceFrame s = .next t :=
    (exec_presenceFrame arrives).trans (congrArg _ body)
  have cfg : u.port.cfg = s.port.cfg := afterHeader_cfg f s
  refine ⟨fun other => runs (if_pos other), fun running role element => ⟨fun short =>
    runs (presenceBodyTaken_short running element short), fun seats waiting offers read => ?_⟩⟩
  have takes := runs (presenceBodyTaken_player running (cfg ▸ role) element read)
  refine ⟨fun unknown full => takes.trans (congrArg _ (State.takeView_full seats waiting offers unknown full)),
    fun room => ?_⟩
  have entered := takes.trans (congrArg _ (State.takeView_room seats waiting offers room))
  have player : u.ownId = s.port.cfg.nodeId.setWidth 6 := by rw [State.ownId, cfg]
  have own : (u.viewed p (viewEntryFrom seats waiting offers u.fieldMs (u.viewSilent p))).ownId =
      s.port.cfg.nodeId.setWidth 6 := player
  refine ⟨insertId p (viewEntryFrom seats waiting offers u.fieldMs (u.viewSilent p)) u.req.view, ?_,
    fun j other => lookupId_insertId_other _ _ other, fun r found seated lost => ?_, fun kept => ?_⟩
  · rw [lookupId_insertId_same, viewEntryFrom, State.viewSilent]
    rcases lookupId p u.req.view with _ | old <;> rfl
  · exact entered.trans (congrArg _ (State.checkSeat_lost found seated (own ▸ lost)))
  · exact entered.trans (congrArg _ (State.checkSeat_kept (own ▸ kept)))

/-! ## Players and referees (R142, R143) -/

section Others

variable {u : State} {f : RxFrame} (running : u.port.nodeState = .running)
include running

theorem presenceBodyTaken_atReferee (role : u.port.cfg.role = 2) (element : f.header.role = 1) :
    presenceBodyTaken f u = u := by
  have player : u.isPlayer = false := by rw [State.isPlayer_eq, role]; rfl
  have own : u.isElement = false := by rw [State.isElement_eq, role]; rfl
  rw [presenceBodyTaken, if_neg (not_not_intro running), if_pos element, State.elementSeen]
  rcases elementPresenceOf f.body with _ | ⟨seats, waiting, offers⟩
  · rfl
  · simp only [player, own, Bool.false_eq_true, if_false]

theorem presenceBodyTaken_referee (referee : f.header.role = 2) : presenceBodyTaken f u = u.refereeSeen f := by
  rw [presenceBodyTaken, if_neg (not_not_intro running), if_neg (by rw [referee]; decide), if_pos referee]

theorem presenceBodyTaken_ofPlayer (player : f.header.role = 0) : presenceBodyTaken f u = u.playerSeen f := by
  rw [presenceBodyTaken, if_neg (not_not_intro running), if_neg (by rw [player]; decide), if_neg (by rw [player]; decide)]

end Others

theorem State.playerSeen_known {u : State} {f : RxFrame} {x : PeerSlot} (whole : 1 ≤ f.body.length)
    (known : lookupId f.header.sender u.peers.slots = some x) :
    u.playerSeen f = u.setSlot f.header.sender { x with ad := some (playerAdOf f.body) } := by
  rw [State.playerSeen, if_neg (Nat.not_lt.mpr whole), known]

theorem presenceOfPlayersAndReferees : PresenceOfPlayersAndReferees := by
  intro s f arrives u p running
  have runs {t : State} (body : presenceBodyTaken f u = t) : exec .presenceFrame s = .next t :=
    (exec_presenceFrame arrives).trans (congrArg _ body)
  refine ⟨fun unused => ?_, fun referee whole => ?_, fun player whole => ?_⟩
  · rcases unused with ⟨referee, short⟩ | ⟨player, short⟩ | ⟨element, role⟩
    · exact runs ((presenceBodyTaken_referee running referee).trans (if_pos short))
    · exact runs ((presenceBodyTaken_ofPlayer running player).trans (if_pos short))
    · exact runs (presenceBodyTaken_atReferee running ((congrArg (·.role) (afterHeader_cfg f s)).trans role) element)
  · exact runs ((presenceBodyTaken_referee running referee).trans (if_neg (Nat.not_lt.mpr whole)))
  · have known : lookupId p u.peers.slots = some (slotAfter f.header s) := by
      rw [afterHeader_slots]
      exact lookupId_insertId_same ..
    exact ⟨_, _, known, lookupId_insertId_same .., fun j other => lookupId_insertId_other _ _ other,
      runs ((presenceBodyTaken_ofPlayer running player).trans (State.playerSeen_known whole known))⟩

/-- Settles O53: the bodies of PRESENCE frames by the roles of sender and receiver. -/
theorem presenceBodies : Obligations.PresenceBodies := ⟨presenceUpdatesTheElementView, presenceOfPlayersAndReferees⟩

end Sys2Proof.Machine
end

section
/-! PATTERN frames (R176, R177), and the seat outputs (R21). -/

namespace Sys2Proof.Machine

/-! ## The check of a PATTERN (R176) -/

theorem State.checksPatterns_iff (s : State) : s.checksPatterns = true ↔ s.port.nodeState = .test ∧
    (s.link.testKind = some .patternCheck ∨ s.link.testKind = some .loopback) := by
  simp [State.checksPatterns]

theorem patternSteps_after (d : Nat) (g : BitVec 15) :
    patternSteps 256 (patternSteps (256 * d) g) = patternSteps (256 * (d + 1)) g :=
  (patternSteps_add (256 * d) 256 g).symm

section Check

variable {l : Link} {sender : NodeId} {bits : List Byte} {seq : Half} {g : BitVec 15}

theorem Link.check_seeds (fresh : l.checkGen = none) : l.check sender bits seq = l.seed sender bits seq := by
  rw [Link.check, fresh]

theorem Link.check_ignores (seeded : l.checkGen = some g)
    (stray : l.patternSource ≠ some sender ∨ 32768 ≤ (seq - l.expectedSeq).toNat) :
    l.check sender bits seq = l.ignorePattern := by
  rw [Link.check, seeded]
  by_cases source : l.patternSource = some sender
  · exact (if_neg (not_not_intro source)).trans (if_pos (stray.resolve_left (not_not_intro source)))
  · exact if_pos source

theorem Link.check_compares (seeded : l.checkGen = some g) (source : l.patternSource = some sender)
    (ahead : (seq - l.expectedSeq).toNat < 32768) :
    l.check sender bits seq = l.compare g (seq - l.expectedSeq).toNat bits seq := by
  rw [Link.check, seeded]
  exact (if_neg (not_not_intro source)).trans (if_neg (Nat.not_le.mpr ahead))

end Check

/-- R176, R177: a PATTERN of another node, and the own one in a loopback test, have the same body. -/
theorem exec_patternFrame {s base : State} {f : RxFrame} (comes : (Arrives s f 9 ∧ base = afterHeader f s) ∨
    ((∃ rest, s.chan.rxQueue = f :: rest) ∧ f.header.kind = 9 ∧
      f.header.sender = s.port.cfg.nodeId.setWidth 6 ∧ inLoop s ∧ base = frameTaken s)) :
    exec .patternFrame s = .next (patternBody f base) := by
  rcases comes with ⟨arrives, rfl⟩ | ⟨⟨rest, oldest⟩, kind, sender, loop, rfl⟩
  · exact congrArg Host.Outcome.next (State.dispatch_arrives arrives)
  · exact congrArg Host.Outcome.next (State.dispatch_looped oldest kind sender loop)

/-- Settles O54: a PATTERN is checked by the cases of `Link.check`. -/
theorem patternFrameIsChecked : Obligations.PatternFrameIsChecked := by
  intro s base f comes l bits seq checked ignored
  have run := exec_patternFrame comes
  refine ⟨fun idle => run.trans (congrArg _ (if_pos ?_)), fun whole checks => ?_⟩
  · exact idle.imp_right fun h => Bool.eq_false_iff.mpr (mt (State.checksPatterns_iff base).mp h)
  have body : patternBody f base = base.mapLink (Link.check f.header.sender bits seq) :=
    if_neg (not_or.mpr ⟨Nat.not_lt.mpr whole, by simp [(State.checksPatterns_iff base).mpr checks]⟩)
  rw [body] at run
  have leaves {m : Link} (check : l.check f.header.sender bits seq = m) :
      exec .patternFrame s = .next { base with link := m } :=
    run.trans (congrArg (fun k => Host.Outcome.next { base with link := k }) check)
  refine ⟨fun fresh => leaves (Link.check_seeds fresh), fun g seeded => ⟨fun stray =>
    leaves (Link.check_ignores seeded stray), fun source ahead => ?_⟩⟩
  rw [← patternSteps_after]
  exact leaves (Link.check_compares seeded source ahead)

/-! ## The seat outputs (R21) -/

theorem State.running_iff (s : State) :
    s.running = true ↔ s.phase.phase.isRunningPhase = true ∧ s.phase.latch = false := by
  simp [State.running]

theorem State.muted_iff (s : State) : s.muted = true ↔ s.link.lost = true ∧ s.port.cfg.mute ≠ 0 := by
  simp [State.muted, State.muteOnLinkLoss]

/-- R21: when the output of a HELD seat is active. -/
theorem State.seatOut_held {s : State} {n : Nat} {c : Claim} {p : Option Nat} {r : Nat} {h : Bool}
    (place : s.seat.table[n]? = some (.held c p r h)) : s.seatOut n = true ↔
      s.port.cfg.role = 1 ∧ (s.port.nodeState = .running ∨ s.port.nodeState = .test) ∧
      s.phase.phase.isRunningPhase = true ∧ s.phase.latch = false ∧ ¬ (s.link.lost = true ∧ s.port.cfg.mute ≠ 0) ∧
      ((s.port.cfg.offer c.offer).kind = 2 → ∃ remaining, p = some remaining ∧ 0 < remaining) := by
  have here : s.seatAt n = some (.held c p r h) := place
  have element : s.isElement = true ↔ s.port.cfg.role = 1 := by rw [State.isElement_eq, decide_eq_true_iff]
  have pulse : (!s.metered c.offer || pulseLasts p) = true ↔
      ((s.port.cfg.offer c.offer).kind = 2 → ∃ remaining, p = some remaining ∧ 0 < remaining) := by
    rw [← pulseLasts_iff, State.metered_eq, Bool.or_eq_true, Bool.not_eq_true', decide_eq_false_iff_not,
      Decidable.imp_iff_not_or]
  rw [State.seatOut, here]
  simp only [Bool.and_eq_true, element, NodeState.sends_iff, State.running_iff, pulse,
    Bool.not_eq_true', ← State.muted_iff, Bool.not_eq_true, and_assoc]

theorem State.seatOut_iff (s : State) (n : Nat) : s.seatOut n = true ↔
    ∃ c p r h, s.seat.table[n]? = some (.held c p r h) ∧ s.port.cfg.role = 1 ∧
      (s.port.nodeState = .running ∨ s.port.nodeState = .test) ∧ s.phase.phase.isRunningPhase = true ∧
      s.phase.latch = false ∧ ¬ (s.link.lost = true ∧ s.port.cfg.mute ≠ 0) ∧
      ((s.port.cfg.offer c.offer).kind = 2 → ∃ remaining, p = some remaining ∧ 0 < remaining) := by
  constructor
  · intro active
    have held : ∃ c p r h, s.seatAt n = some (.held c p r h) := by
      unfold State.seatOut at active
      split at active
      · next c p r h here => exact ⟨c, p, r, h, here⟩
      all_goals cases active
    obtain ⟨c, p, r, h, place⟩ := held
    exact ⟨c, p, r, h, place, (State.seatOut_held place).mp active⟩
  · rintro ⟨c, p, r, h, place, safe⟩
    exact (State.seatOut_held place).mpr safe

/-- Settles O55: an active output needs a HELD seat and a clear latch. -/
theorem seatOutputsAreSafe : Obligations.SeatOutputsAreSafe := by
  have safe (s : State) (n : Nat) (latched : s.phase.latch = true) : s.seatOut n = false := by
    refine Bool.eq_false_iff.mpr fun active => ?_
    obtain ⟨c, p, r, h, -, -, -, -, clear, -⟩ := (State.seatOut_iff s n).mp active
    rw [latched] at clear
    exact absurd clear (by decide)
  refine ⟨State.seatOut_iff, safe, fun n => Bool.eq_false_iff.mpr fun active => ?_⟩
  obtain ⟨c, p, r, h, place, -⟩ := (State.seatOut_iff State.reset n).mp active
  have free : Seat.held c p r h ∈ [Seat.free] := List.mem_of_getElem? place
  cases List.mem_singleton.mp free

end Sys2Proof.Machine
end

section
/-! The halt latch under a command code (R131, R182): a counterexample to O56. -/

namespace Sys2Proof.Machine

/-- A running REFEREE that is its own time source, with the halt latch set and an empty command block. -/
def latchedReferee : State := { State.reset with
  port := { State.reset.port with
    nodeState := .running
    cfg := { State.reset.port.cfg with role := 2 } }
  time := { State.reset.time with align := .source }
  phase := { State.reset.phase with latch := true } }

/-- The state once the bare code of SEND_MARK has been handed over and taken. -/
def bareMarkTaken : State := (latchedReferee.handOver 48 []).takeHanded

theorem bareMarkTaken_clears : exec (.unknownCommand 48) latchedReferee = .next bareMarkTaken ∧
    bareMarkTaken.phase.latch = false ∧ bareMarkTaken.phase.seq = 1 := by
  refine ⟨rfl, ?_, ?_⟩ <;> decide

/-- No mark is at hand: none pends, no frame waits, the command is no SEND_MARK and the token is 0. -/
theorem latchedReferee_hasNoMark (seq : Byte) (new : Phase) :
    ¬ MarkAtHand (.unknownCommand 48) latchedReferee seq new := by
  rintro (⟨m, pending, -⟩ | ⟨f, rest, queued, -⟩ | ⟨-, ⟨lead, command⟩ | ⟨token, -⟩⟩)
  · cases pending
  · cases queued
  · cases command
  · exact token rfl

/-- Refutes O56: the bare code 48, handed over with the token 0, is a SEND_MARK whose phase is what stands in the block. -/
theorem not_theLatchClearsOnlyInQuiet : ¬ Obligations.TheLatchClearsOnlyInQuiet := by
  intro law
  obtain ⟨run, clear, raised⟩ := bareMarkTaken_clears
  rcases law (.unknownCommand 48) latchedReferee bareMarkTaken run rfl clear with reset | ⟨-, -, -, atHand, -⟩
  · rw [reset] at raised
    exact absurd raised (by decide)
  · exact latchedReferee_hasNoMark _ _ atHand

end Sys2Proof.Machine
end
